-- ==== Sys2Proof/Word.lean ====
section
/-! DEFINITION. The words of the Orpaz 2416 and the plainest arithmetic on them (00_scope.md, Conventions). -/

namespace Sys2Proof

/-- A byte of a word, a frame or a directive field. -/
abbrev Byte := BitVec 8

/-- A word of table memory: 64 bits, byte i in bits 8i to 8i+7. -/
abbrev Word := BitVec 64

/-- A word address of table memory, 24 bits. -/
abbrev Addr := BitVec 24

/-- A byte mask: bit i covers byte i of a word. -/
abbrev Mask := BitVec 8

/-- A sequence number of the mate link; it wraps modulo 65,536 (R78). -/
abbrev Seq := BitVec 16

/-- A segment number: the word address of any of its words divided by 64. -/
abbrev Segment := Nat

/-- A sum that saturates at `top` (00_scope.md, Numbers). -/
def satAdd (top a n : Nat) : Nat := min top (a + n)

end Sys2Proof
end

