-- ==== Sys2Proof/Syntax.lean ====
section
/-! DEFINITION. The commands of the Orpaz 2416, one constructor per row of spec/opcode_table.json, and the types of their operands. -/

namespace Sys2Proof

/-- The pins a reset samples: the straps (R189) and the chassis lines (R145). -/
structure Pins where
  /-- MSIZE strap, 0 to 3. -/
  msize : BitVec 2
  /-- SLOT_ID strap. -/
  slotId : BitVec 1
  /-- Raw PEER_PRESENT level, true for high. -/
  peerPresent : Bool
  /-- EJECT level. -/
  eject : Bool
  /-- TAKE_EN level. -/
  takeEn : Bool
  deriving DecidableEq, Repr

/-- The status of a read response (R1, R11). -/
inductive Status where
  | ok
  | fault
  deriving DecidableEq, Repr

/-- The role a TRAIN frame carries: the sender's session role (R61, R62). -/
inductive LinkRole where
  | feed
  | take
  deriving DecidableEq, Repr

/-- The kind of a GREET (R61). -/
inductive GreetKind where
  | fresh
  | resume
  deriving DecidableEq, Repr

/-- The verdict of a GREET_ECHO (R62). -/
inductive Verdict where
  | new
  | resumed
  | refused
  deriving DecidableEq, Repr

/-- The refusal reason of a GREET_ECHO (R62, codes of R185). -/
inductive Reason where
  | none
  | noSession
  | mismatch
  deriving DecidableEq, Repr

/-- The reason of a CLOSE (R61, R62). -/
inductive CloseReason where
  | complete
  | incomplete
  | released
  | aborted
  | faulted
  | adopted
  | lockout
  | misfit
  deriving DecidableEq, Repr

/-- The session states of both roles (R144, R185). -/
inductive SessState where
  | idle
  | bringup
  | install
  | sweep
  | catchup
  | freeze
  | replay
  | steady
  | suspended
  | handover
  | receiving
  | synced
  | final
  | held
  | detached
  deriving DecidableEq, Repr

/-- A mirror record: word address, data word, byte mask (R61). -/
structure MirrorRecord where
  addr : Addr
  data : Word
  mask : Mask
  deriving DecidableEq, Repr

/-- A sequenced frame without its number (R61). -/
inductive SeqFrame where
  | seg (segment : BitVec 18) (words : Vector Word 64)
  | mir (records : List MirrorRecord)
  | instep
  | stale
  | handover
  deriving DecidableEq, Repr

/-- One entry of a LAYOUT frame as received: the class byte is read whole and judged by R23, the base and the order are read at the
width they need, and the length at its three bytes (R188). -/
structure LayoutEntry where
  base : BitVec 18
  length : BitVec 24
  cls : Byte
  order : BitVec 4
  fill : Word
  deriving DecidableEq, Repr

/-- The commands, one for each row of the table, in the table's order. -/
inductive Instr where
  /-- COLD_RESET (R17): PWR_GOOD rises with RESET_N at `resetN`, and the pins are sampled. -/
  | coldReset (resetN : Bool) (pins : Pins)
  /-- WARM_RESET (R18): RESET_N falls. -/
  | warmReset
  /-- RESET_N_RISE (R164): RESET_N rises and the pins are sampled. -/
  | resetNRise (pins : Pins)
  /-- LOOKUP_READ (R4). -/
  | lookupRead (addr : Addr)
  /-- MAINTENANCE_READ (R4). -/
  | maintenanceRead (addr : Addr)
  /-- MAINTENANCE_WRITE (R4). -/
  | maintenanceWrite (addr : Addr) (data : Word) (mask : Mask)
  /-- THROTTLE_SPACING_PASSED (R123). -/
  | throttleSpacingPassed
  /-- ARBITER_GRANT (R14): the memory controller can accept a request. -/
  | arbiterGrant
  /-- SHADOW_WRITE (R167): a snooped write to slot offset `index` + 1. -/
  | shadowWrite (index : Fin 7) (data : Word) (mask : Mask)
  /-- STRAY_TRIGGER (R168): a snooped write to slot offset 0. -/
  | strayTrigger (data : Word) (mask : Mask)
  /-- UNKNOWN_KIND (R169): a trigger with this number and kind code. -/
  | unknownKind (number : Byte) (code : Byte)
  /-- SETUP (R170): a trigger of kind SETUP with this number. -/
  | setup (number : Byte)
  /-- REGION (R22): a trigger of kind REGION. -/
  | region (number : Byte)
  /-- FEED (R147): a trigger of kind FEED. -/
  | feed (number : Byte)
  /-- TAKE (R158): a trigger of kind TAKE. -/
  | take (number : Byte)
  /-- HANDOVER (R173): a trigger of kind HANDOVER. -/
  | handover (number : Byte)
  /-- RELEASE (R173): a trigger of kind RELEASE. -/
  | release (number : Byte)
  /-- ABORT (R173): a trigger of kind ABORT. -/
  | abort (number : Byte)
  /-- ADOPT (R162): a trigger of kind ADOPT. -/
  | adopt (number : Byte)
  /-- NOTICES (R175): a trigger of kind NOTICES. -/
  | notices (number : Byte)
  /-- ACKNOWLEDGE (R176): a trigger of kind ACKNOWLEDGE. -/
  | acknowledge (number : Byte)
  /-- REFRESH (R174): a trigger of kind REFRESH. -/
  | refresh (number : Byte)
  /-- READ_RESPONSE (R12): the memory controller answers the oldest read. -/
  | readResponse (status : Status) (data : Word)
  /-- SEG_FRAME_QUEUED (R54). -/
  | segFrameQueued
  /-- WALKER_STEP (R45). -/
  | walkerStep
  /-- PASS_END (R47). -/
  | passEnd
  /-- DRAIN_COMPLETE (R132). -/
  | drainComplete
  /-- FREEZE_ABANDON (R137): the freeze timer expires in FREEZE. -/
  | freezeAbandon
  /-- INSTEP_QUEUED (R149). -/
  | instepQueued
  /-- STALE_QUEUED (R150). -/
  | staleQueued
  /-- HANDOVER_DRAIN_COMPLETE (R155). -/
  | handoverDrainComplete
  /-- HANDOVER_OVERRUN (R156): the freeze timer expires in HANDOVER. -/
  | handoverOverrun
  /-- TRANSMIT_FRAME (R78): the transmitter is free. -/
  | transmitFrame
  /-- TRAIN_DUE (R65): the 10 us TRAIN interval expires. -/
  | trainDue
  /-- GREET_REPEAT_DUE (R69): the 100 us GREET interval expires. -/
  | greetRepeatDue
  /-- LAYOUT_REPEAT_DUE (R72): the 100 us LAYOUT interval expires. -/
  | layoutRepeatDue
  /-- REWIND_REPEAT_DUE (R83): the 100 us REWIND interval expires. -/
  | rewindRepeatDue
  /-- PULSE_DUE (R67): the feed has sent nothing for 10 us. -/
  | pulseDue
  /-- KEEPALIVE_ACK_DUE (R67): the take has sent nothing for 10 us. -/
  | keepaliveAckDue
  /-- SILENCE_TIMEOUT (R67): the silence timer reaches its limit. -/
  | silenceTimeout
  /-- BRINGUP_TIMEOUT (R74): the bring-up timer reaches its limit. -/
  | bringupTimeout
  /-- FEED_HOLD_TIMEOUT (R153): the hold timer reaches its limit in SUSPENDED. -/
  | feedHoldTimeout
  /-- TAKE_HOLD_TIMEOUT (R160): the hold timer reaches its limit in HELD. -/
  | takeHoldTimeout
  /-- FRAME_DISCARDED (R63): these bytes arrive and are no frame the part accepts. -/
  | frameDiscarded (bytes : List Byte)
  /-- TRAIN_RECEIVED (R65): a TRAIN arrives on a lane. -/
  | trainReceived (lane : BitVec 2) (role : LinkRole) (slot : BitVec 1)
  /-- GREET_RECEIVED (R70). -/
  | greetReceived (kind : GreetKind) (session : BitVec 16) (size : BitVec 2) (slot : BitVec 1)
  /-- GREET_ECHO_RECEIVED (R71). -/
  | greetEchoReceived (session : BitVec 16) (verdict : Verdict) (reason : Reason)
  /-- LAYOUT_RECEIVED (R72). -/
  | layoutReceived (entries : Vector LayoutEntry 16)
  /-- READY_RECEIVED (R73). -/
  | readyReceived
  /-- SEQUENCED_FRAME_RECEIVED (R82). -/
  | sequencedFrameReceived (seq : Seq) (frame : SeqFrame)
  /-- ACK_RECEIVED (R80). -/
  | ackReceived (ack : Option Seq) (freed : BitVec 8) (fails : BitVec 16) (state : SessState)
  /-- REWIND_RECEIVED (R86). -/
  | rewindReceived (e : Seq)
  /-- REWOUND_RECEIVED (R84). -/
  | rewoundReceived (e : Seq)
  /-- PULSE_RECEIVED (R67). -/
  | pulseReceived
  /-- CLOSE_RECEIVED (R75). -/
  | closeReceived (reason : CloseReason)
  /-- PEER_PRESENT_CHANGE (R145): the raw level becomes `level`. -/
  | peerPresentChange (level : Bool)
  /-- PEER_PRESENT_FILTERED (R145): the raw level has held for the filter time. -/
  | peerPresentFiltered
  /-- EJECT_EVENT (R154): EJECT rises. -/
  | ejectEvent
  /-- EJECT_FALL (R145): EJECT falls. -/
  | ejectFall
  /-- TAKE_EN_FALL (R163): TAKE_EN falls. -/
  | takeEnFall
  /-- TAKE_EN_RISE (R145): TAKE_EN rises. -/
  | takeEnRise
  /-- PWR_GOOD_FALL (R189): PWR_GOOD falls. -/
  | pwrGoodFall
  deriving DecidableEq, Repr

end Sys2Proof
end

