-- ==== Sys2Proof/Decode.lean ====
section
/-! DEFINITION. The command that a word of the opcode table spells. -/

namespace Sys2Proof

/-- No row of spec/opcode_table.json gives a command any bits, so no word spells one (log 35). -/
def decodeTableWord (_nbits _w : Nat) : Option Instr := none

end Sys2Proof
end

