-- ==== Sys2Proof/Config.lean ====
section
/-! DEFINITION. The fixed numbers of the Orpaz 2416: capacities, count limits, and times in pace ticks of 100 ns. None is set by the
host. The guide leaves no value open, so there is no free value here. -/

namespace Sys2Proof.Config

/-- The read return list holds up to 64 reads (R12). -/
def returnPlaces : Nat := 64
/-- The send queue holds up to 16 frames (R76). -/
def queuePlaces : Nat := 16
/-- A MIR frame carries up to 8 records (R61). -/
def mirRecords : Nat := 8
/-- The take's receive buffer has 8 slots, the feed's credits (R79, R89). -/
def receiveSlots : Nat := 8
/-- The overlay holds up to 4,096 entries (R126). -/
def overlayPlaces : Nat := 4096
/-- The fault list holds up to 16 entries (R108). -/
def faultPlaces : Nat := 16
/-- The largest predicted count that fits: the overlay less its reserve of 512 entries (R118). -/
def predictedLimit : Nat := 3584
/-- The control area is the last 16 segments of memory (R166). -/
def controlSegments : Nat := 16
/-- Word offset of the report block in the control area (R166). -/
def reportOffset : Nat := 64
/-- The words of a report (R178). -/
def reportLength : Nat := 256

/-- Largest value of a 32-bit count. -/
def top32 : Nat := 4294967295
/-- Largest value of a 16-bit count. -/
def top16 : Nat := 65535
/-- Largest value of C (R112). -/
def topC : Nat := 262144

/-- 10 us in pace ticks: the TRAIN interval and the keep-alive interval (R65, R67). -/
def ticks10us : Nat := 100
/-- 100 us in pace ticks: the GREET, LAYOUT and REWIND repeats (R69, R72, R83) and the unit of the silence limit (R64). -/
def ticks100us : Nat := 1000
/-- 1 ms in pace ticks: the unit of the PEER_PRESENT filter (R145). -/
def ticks1ms : Nat := 10000
/-- 10 ms in pace ticks: the unit of the bring-up limit (R64). -/
def ticks10ms : Nat := 100000
/-- 100 ms in pace ticks: the unit of the hold limit (R144). -/
def ticks100ms : Nat := 1000000

end Sys2Proof.Config
end

