-- ==== Sys2Proof/Machine/State.lean ====
section
/-! DEFINITION. The state of the Orpaz 2416 as plain data, block by block, and the machine right after a cold reset (R17, R164 and the
reset value given with each piece of state). -/

namespace Sys2Proof.Machine

open Sys2Proof

/-- Why the machine would stop with a fault. There is no constructor: the guide gives every event of the part an effect, and the part's
own faults (R146) are recorded in State. -/
inductive Fault where
  deriving DecidableEq, Repr

/-- Why a command would have no meaning. -/
inductive Refusal where
  /-- Raised by a refused arm of `exec` only: the command has no meaning yet. Safe. No arm raises it. -/
  | notModelled (mnemonic : String)
  deriving DecidableEq, Repr

/-! ### Chassis lines, straps, power and time -/

/-- Power, reset, straps and the line monitor (R145, R189), with the pace tick count (R123). -/
structure Chassis where
  /-- PWR_GOOD is high. -/
  power : Bool
  /-- RESET_N is high. -/
  resetN : Bool
  /-- MSIZE as last sampled (R189). -/
  msize : BitVec 2
  /-- SLOT_ID as last sampled (R189). -/
  slotId : BitVec 1
  /-- Raw PEER_PRESENT level (R145). -/
  peerRaw : Bool
  /-- Filtered PEER_PRESENT level (R145). -/
  peerFiltered : Bool
  /-- Pace ticks for which the raw level has differed from the filtered one (R145). -/
  peerHeld : Nat
  /-- EJECT level. -/
  eject : Bool
  /-- TAKE_EN level. -/
  takeEn : Bool
  /-- A TAKE_EN fall came while RESET_N was low: its LINE notice is raised at the rise (R189). -/
  lineDeferred : Bool
  /-- The pace tick count (R123). -/
  tick : Nat
  deriving DecidableEq, Repr

/-! ### The path: table port, memory port, arbiter -/

/-- A maintenance WRITE (R1). -/
structure WriteReq where
  addr : Addr
  data : Word
  mask : Mask
  deriving DecidableEq, Repr

/-- What the engine is answered for a READ (R1): status and data word. -/
structure ReadResult where
  status : Status
  data : Word
  deriving DecidableEq, Repr

/-- The maintenance stream's request under treatment (R2, R4, R7). -/
inductive MaintSlot where
  | empty
  | read (addr : Addr)
  | write (w : WriteReq)
  | held (w : WriteReq)
  deriving DecidableEq, Repr

/-- A read taken and not yet answered to the engine: its response is fixed, or still to come from memory (R3). -/
inductive PendingRead where
  | waiting
  | answered (r : ReadResult)
  deriving DecidableEq, Repr

/-- The two upstream streams (R1). -/
inductive Stream where
  | lookup
  | maintenance
  deriving DecidableEq, Repr

/-- Whose read an entry of the return list is (R12): a stream's, with the overlay bytes found at its grant (R9); or a block's, with the
use its tag names (R49). -/
inductive ReadFor where
  | upstream (stream : Stream) (mask : Mask) (data : Word)
  | walk (second : Bool) (offset : Nat) (use : Nat)
  | apply (use : Nat)
  | fill (use : Nat)
  deriving DecidableEq, Repr

/-- One entry of the read return list (R12). -/
structure ReturnEntry where
  requester : ReadFor
  addr : Addr
  deriving DecidableEq, Repr

/-- The part requesters of the arbiter (R13). -/
inductive Requester where
  | report
  | replay
  | apply
  | fill
  | walk
  deriving DecidableEq, Repr

/-- The wait runs of the part requesters (R15). -/
structure WaitRuns where
  report : Nat
  replay : Nat
  apply : Nat
  fill : Nat
  walk : Nat
  deriving DecidableEq, Repr

/-- Table port, memory port and arbiter (chapter 1). -/
structure Path where
  /-- The lookup stream's candidate (R4). -/
  lookup : Option Addr
  /-- The maintenance stream's request under treatment. -/
  maint : MaintSlot
  /-- Reads of the lookup stream not yet answered, oldest first (R3). -/
  lookupReads : List PendingRead
  /-- Reads of the maintenance stream not yet answered, oldest first (R3). -/
  maintReads : List PendingRead
  /-- Blocked access count (R6). -/
  blocked : Nat
  /-- Read return list, oldest first (R12). -/
  returns : List ReturnEntry
  /-- Wait runs (R15). -/
  waitRuns : WaitRuns
  deriving DecidableEq, Repr

/-! ### Settings -/

/-- What a review does at the pass limit (R119). -/
inductive Policy where
  | force
  | abandon
  deriving DecidableEq, Repr

/-- The configuration values in force (R170). -/
structure Settings where
  walk : BitVec 3
  fill : BitVec 3
  apply : BitVec 3
  replay : BitVec 3
  report : BitVec 3
  yieldCount : Nat
  retry : Nat
  passLimit : Nat
  /-- Freeze budget B in microseconds. -/
  budget : Nat
  throttleOn : Bool
  policy : Policy
  /-- Silence limit in units of 100 us. -/
  silence : Nat
  /-- Bring-up limit in units of 10 ms. -/
  bringup : Nat
  /-- Hold limit in units of 100 ms. -/
  hold : Nat
  /-- PEER_PRESENT filter in ms. -/
  filter : Nat
  deriving DecidableEq, Repr

/-- The reset values of R170. -/
def Settings.reset : Settings :=
  { walk := 2, fill := 2, apply := 4, replay := 5, report := 6, yieldCount := 16, retry := 4, passLimit := 8, budget := 2000,
    throttleOn := true, policy := .force, silence := 10, bringup := 100, hold := 50, filter := 2 }

/-! ### Regions and the segment map -/

/-- The class of a region (R21). -/
inductive RegionClass where
  | localOnly
  | mirror
  | snapshot
  | fill
  deriving DecidableEq, Repr

/-- One entry of the region table (R19). -/
structure Region where
  base : BitVec 18
  length : BitVec 18
  cls : RegionClass
  order : BitVec 4
  fill : Word
  deriving DecidableEq, Repr

/-- An empty entry (R19). -/
def Region.empty : Region := { base := 0, length := 0, cls := .localOnly, order := 0, fill := 0 }

/-- The copy states of a segment (R25). -/
inductive SegState where
  | notTracked
  | unsent
  | opened
  | inflight
  | clean
  | dirty
  | srcFault
  deriving DecidableEq, Repr

/-- The segment map and the two counts kept with it (R25, R31, R32). A segment that `cells` does not list is NONE. -/
structure SegMap where
  /-- The tracked segments of the session in walk order, each with its state. -/
  cells : List (Segment × SegState)
  /-- Drift write count (R32). -/
  drift : Nat
  /-- Mirror overflow count (R31). -/
  overflow : Nat
  deriving DecidableEq, Repr

/-! ### Walker and staging buffers -/

/-- One word place of a staging buffer (R48). -/
structure StageWord where
  granted : Bool
  arrived : Bool
  data : Word
  patch : Mask
  deriving DecidableEq, Repr

/-- A staging buffer in use (R48); READING until its 64th response, WAITING after it. -/
structure Buffer where
  segment : Segment
  /-- Number of this use of a buffer: the tag of its reads, and its place in the order of taking (R48, R49). -/
  use : Nat
  nextRead : Nat
  responses : Nat
  faultSeen : Bool
  words : Vector StageWord 64
  waiting : Bool
  deriving DecidableEq, Repr

/-- The sweep walker (R42). Its mode is a function of the session state (R43). -/
structure Walker where
  /-- A place of the walk order, or none for END. -/
  cursor : Option Nat
  buf0 : Option Buffer
  buf1 : Option Buffer
  /-- The number the next use of a buffer, an apply or a fill takes. -/
  nextUse : Nat
  deriving DecidableEq, Repr

/-! ### Freeze overlay -/

/-- One overlay entry (R126). `flushing` is true for the kind FLUSHING, false for CAPTURED. -/
structure OverlayEntry where
  addr : Addr
  data : Word
  mask : Mask
  flushing : Bool
  deriving DecidableEq, Repr

/-- The freeze overlay and the freeze timer (R126, R131). -/
structure Freeze where
  entries : List OverlayEntry
  /-- Pace ticks since the timer started, or none while it is stopped. -/
  timer : Option Nat
  deriving DecidableEq, Repr

/-! ### Send queue, window, link -/

/-- The send queue, the window and the totals of the feed (chapter 4). -/
structure Feed where
  /-- Send queue, oldest first (R76). -/
  queue : List SeqFrame
  /-- Window, oldest first (R80). -/
  window : List (Seq × SeqFrame)
  nextNumber : Seq
  sentTotal : BitVec 8
  freedTotal : BitVec 8
  /-- The number of a pending REWOUND (R87). -/
  rewound : Option Seq
  /-- An INSTEP offer waits in the session controller (R149). -/
  instepWaiting : Bool
  peerFail : Nat
  /-- Peer take state, none for NONE (R80). -/
  peerState : Option SessState
  /-- The feed's rewind count (R86). -/
  rewinds : Nat
  deriving DecidableEq, Repr

/-- The state of the link (R64). -/
inductive LinkState where
  | off
  | training
  | up
  deriving DecidableEq, Repr

/-- A GREET_ECHO to be sent (R70). -/
structure Echo where
  session : BitVec 16
  verdict : Verdict
  reason : Reason
  deriving DecidableEq, Repr

/-- The link controller (R64) with what is due to be sent (R78). -/
structure Link where
  state : LinkState
  confirmed : Bool
  /-- Trained lane count (R60). -/
  lanes : Nat
  /-- Bit n: lane n has carried the peer's TRAIN since TRAINING was entered (R60). -/
  seen : BitVec 4
  /-- Silence timer in ticks (R67). -/
  silence : Nat
  /-- Bring-up timer in ticks, none while stopped (R74). -/
  bringup : Option Nat
  /-- Numbering is active (R73). -/
  numbering : Bool
  /-- Discarded frame count (R63). -/
  discarded : Nat
  trainDue : Bool
  trainTimer : Nat
  /-- GREET is being repeated: no echo has come in this bring-up (R69). -/
  greeting : Bool
  greetDue : Bool
  greetTimer : Nat
  layoutDue : Bool
  layoutTimer : Nat
  /-- A PULSE (feed) or a keep-alive ACK (take) is due (R67). -/
  keepAliveDue : Bool
  /-- Ticks since a frame was last sent (R67). -/
  idle : Nat
  rewindDue : Bool
  rewindTimer : Nat
  /-- GREET_ECHO frames to be sent, oldest first: one for each GREET answered (R70). -/
  echoDue : List Echo
  /-- READY frames to be sent: one as the fills finish, one for each identical LAYOUT after that (R72, R106). -/
  readyDue : Nat
  ackDue : Bool
  deriving DecidableEq, Repr

/-! ### Take side -/

/-- The take's receive state (R82). -/
inductive RxState where
  | inactive
  | inOrder
  | discard
  deriving DecidableEq, Repr

/-- One word to be written and read back: address, data, mask (R94, R97, R105). -/
structure VerifyItem where
  addr : Addr
  data : Word
  mask : Mask
  deriving DecidableEq, Repr

/-- A run of rounds of writes and verify reads (R94, R95). -/
structure VerifyJob where
  /-- The use its verify reads are tagged with (R12). -/
  use : Nat
  /-- Retry limit taken at the start (R93, R97, R105). -/
  limit : Nat
  /-- Round number, 0 for the first. -/
  round : Nat
  /-- Writes of this round still to be granted. -/
  writes : List VerifyItem
  /-- Verify reads of this round still to be granted. -/
  reads : List VerifyItem
  /-- Verify reads granted and not yet answered, in grant order. -/
  awaiting : List VerifyItem
  /-- Words of this round that read back wrong. -/
  bad : List VerifyItem
  deriving DecidableEq, Repr

/-- The kind of the work under way (R111). -/
inductive WorkKind where
  | seg
  | mir
  | fill
  deriving DecidableEq, Repr

/-- An apply under way that has memory work (R91 to R98). -/
structure ApplyWork where
  kind : WorkKind
  /-- The SEG frame's segment, or the segment of the record being applied. -/
  segment : Segment
  job : VerifyJob
  /-- Records of a MIR frame behind the one being applied. -/
  rest : List MirrorRecord
  /-- Retry limit taken at the start of the frame's apply (R93, R97). -/
  limit : Nat
  deriving DecidableEq, Repr

/-- The fill segment under way (R104). -/
structure FillWork where
  /-- Place in the fill order. -/
  place : Nat
  segment : Segment
  job : VerifyJob
  deriving DecidableEq, Repr

/-- The take's receive path, apply unit and fill unit (chapters 4 and 5). -/
structure Take where
  rx : RxState
  /-- Number of the next sequenced frame to accept (R82). -/
  expected : Seq
  /-- Receive buffer, oldest first (R89). -/
  buffer : List (Seq × SeqFrame)
  ackSeq : Option Seq
  freed : BitVec 8
  failTotal : Nat
  /-- The take's rewind count (R82). -/
  rewinds : Nat
  apply : Option ApplyWork
  fill : Option FillWork
  /-- Interrupted-apply record, none for EMPTY (R111). -/
  interrupted : Option (WorkKind × Segment)
  /-- A NEW verdict has been given and no LAYOUT installed for it yet (R159). -/
  awaitingLayout : Bool
  deriving DecidableEq, Repr

/-! ### Faults, review, session -/

/-- The cause of a fault list entry (R108). -/
inductive Cause where
  | source
  | verify
  | fill
  deriving DecidableEq, Repr

/-- The faults of a session (R146). -/
inductive SessFault where
  | linkLost
  | bringupTimeout
  | roleClash
  | refusedByPeer
  | layoutMisfit
  | protocol
  | sourceFault
  | verifyFail
  | lockoutTrip
  | convergeFail
  | freezeOverrun
  | closedByPeer
  deriving DecidableEq, Repr

/-- Fault list, fault summary and first fault (R108, R146). -/
structure Faults where
  list : List (Segment × Cause)
  /-- List overflow count. -/
  overflow : Nat
  /-- Bit n - 1 for fault code n (R185). -/
  summary : BitVec 12
  first : Option SessFault
  deriving DecidableEq, Repr

/-- The decision of a review (R119). -/
inductive Decision where
  | none
  | steady
  | fit
  | forcedHandover
  | forcedLimit
  | abandon
  | nextPass
  deriving DecidableEq, Repr

/-- The review record (R121). -/
structure ReviewRecord where
  passNumber : Nat
  t : Nat
  c : Nat
  w : Nat
  d : Nat
  segTime : Nat
  drain : Nat
  rate : Nat
  predicted : Nat
  decision : Decision
  deriving DecidableEq, Repr

/-- The review record after a reset or at FEED (R121). -/
def ReviewRecord.reset : ReviewRecord :=
  { passNumber := 0, t := 0, c := 0, w := 0, d := 0, segTime := 0, drain := 0, rate := 0, predicted := 0, decision := .none }

/-- Review unit and write throttle (chapter 6). -/
structure Review where
  passNumber : Nat
  t : Nat
  c : Nat
  w : Nat
  /-- D_prev, none for NONE (R114). -/
  dPrev : Option Nat
  record : ReviewRecord
  /-- Throttle level (R122). -/
  throttle : Nat
  /-- Pace tick of the last admitted tracked write (R123). -/
  lastAdmitted : Option Nat
  deriving DecidableEq, Repr

/-- The role of the current or last session (R144). -/
inductive Role where
  | none
  | feed
  | take
  deriving DecidableEq, Repr

/-- The kinds of step (R144). -/
inductive StepKind where
  | instep
  | stale
  deriving DecidableEq, Repr

/-- The last GREET answered and the answer (R70). -/
structure Greeted where
  session : BitVec 16
  kind : GreetKind
  size : BitVec 2
  verdict : Verdict
  reason : Reason
  deriving DecidableEq, Repr

/-- The session record (R144). -/
structure Session where
  role : Role
  state : SessState
  id : BitVec 16
  sizeClass : BitVec 2
  handoverPending : Bool
  stalePending : Bool
  retiredStep : StepKind
  resumeKind : GreetKind
  /-- Hold timer in ticks, none while stopped. -/
  hold : Option Nat
  greeted : Option Greeted
  layoutInstalled : Bool
  lockout : Bool
  deriving DecidableEq, Repr

/-! ### Directives, notices, reports -/

/-- The outcome of a directive (R169). -/
inductive DirOutcome where
  | none
  | done
  | refusedState
  | refusedValue
  | refusedEnable
  | unknownKind
  deriving DecidableEq, Repr

/-- The last directive record (R169). -/
structure LastDirective where
  number : Byte
  code : Byte
  outcome : DirOutcome
  deriving DecidableEq, Repr

/-- The directive unit (R167, R168, R169). -/
structure Directive where
  /-- Shadow of slot words 1 to 7: place i holds word i + 1. -/
  shadow : Vector Word 7
  stray : Nat
  expected : Byte
  last : LastDirective
  deriving DecidableEq, Repr

/-- The six notices (R175). -/
inductive NoticeKind where
  | directive
  | state
  | review
  | fault
  | line
  | step
  deriving DecidableEq, Repr

/-- One notice: pending flag and raise mark (R175). -/
structure Notice where
  pending : Bool
  mark : Nat
  deriving DecidableEq, Repr

/-- The notices and the enable mask, which holds each notice at its bit of R185 (R175). -/
structure Notices where
  directive : Notice
  state : Notice
  review : Notice
  fault : Notice
  line : Notice
  step : Notice
  enable : BitVec 6
  deriving DecidableEq, Repr

/-- The kind of the last reset (R177). -/
inductive ResetKind where
  | cold
  | warm
  deriving DecidableEq, Repr

/-- The report writer (R177). -/
structure Report where
  /-- Writer state: true for WRITING. -/
  writing : Bool
  nextWord : Nat
  again : Bool
  generation : Nat
  /-- The 256 words of the report being written, or none. -/
  snapshot : List Word
  lastReset : ResetKind
  deriving DecidableEq, Repr

/-! ### Outputs and signals -/

/-- A request passed to the memory controller (R11). -/
inductive MemRequest where
  | read (addr : Addr)
  | write (addr : Addr) (data : Word) (mask : Mask)
  deriving DecidableEq, Repr

/-- A frame the part sends (R61, R62), as its content; its bytes are those of R188. -/
inductive TxFrame where
  | train (role : LinkRole) (slot : BitVec 1)
  | greet (kind : GreetKind) (session : BitVec 16) (size : BitVec 2) (slot : BitVec 1)
  | layout (entries : Vector Region 16)
  | sequenced (seq : Seq) (frame : SeqFrame)
  | rewound (e : Seq)
  | pulse
  | close (reason : CloseReason)
  | greetEcho (echo : Echo)
  | ready
  | ack (ack : Option Seq) (freed : BitVec 8) (fails : BitVec 16) (state : SessState)
  | rewind (e : Seq)
  deriving DecidableEq, Repr

/-- What the part drove at its ports in the last command. -/
structure Out where
  /-- Requests passed to the memory controller. -/
  mem : List MemRequest
  /-- Read responses returned to the engine, in order. -/
  engine : List (Stream × ReadResult)
  /-- Frames sent on the link. -/
  link : List TxFrame
  deriving DecidableEq, Repr

/-- Signals between blocks inside one command; all clear between commands. -/
structure Signals where
  /-- A report has been requested (R178). -/
  report : Bool
  /-- A segment has entered DIRTY (R25). -/
  dirtied : Bool
  /-- The table port is to examine its held write again (R7). -/
  reexamine : Bool
  deriving DecidableEq, Repr

/-! ### The whole state -/

/-- The state of the part, and the commands that wait. -/
structure State where
  chassis : Chassis
  path : Path
  settings : Settings
  regions : Vector Region 16
  map : SegMap
  walker : Walker
  freeze : Freeze
  feed : Feed
  link : Link
  take : Take
  faults : Faults
  review : Review
  session : Session
  directive : Directive
  notices : Notices
  report : Report
  out : Out
  signals : Signals
  /-- Commands waiting, first in first out. -/
  pending : List Instr
  deriving DecidableEq, Repr

/-! ### Reset values of the blocks -/

/-- R17: no wait run. -/
def WaitRuns.reset : WaitRuns := { report := 0, replay := 0, apply := 0, fill := 0, walk := 0 }

/-- The path after a cold reset (R17). -/
def Path.reset : Path :=
  { lookup := none, maint := .empty, lookupReads := [], maintReads := [], blocked := 0, returns := [], waitRuns := .reset }

/-- R25, R28, R31, R32. -/
def SegMap.reset : SegMap := { cells := [], drift := 0, overflow := 0 }

/-- R42. -/
def Walker.reset : Walker := { cursor := none, buf0 := none, buf1 := none, nextUse := 0 }

/-- R126, R131. -/
def Freeze.reset : Freeze := { entries := [], timer := none }

/-- R64, R76, R80, R86. -/
def Feed.reset : Feed :=
  { queue := [], window := [], nextNumber := 0, sentTotal := 0, freedTotal := 0, rewound := none, instepWaiting := false,
    peerFail := 0, peerState := none, rewinds := 0 }

/-- R63, R64. -/
def Link.reset : Link :=
  { state := .off, confirmed := false, lanes := 0, seen := 0, silence := 0, bringup := none, numbering := false, discarded := 0,
    trainDue := false, trainTimer := 0, greeting := false, greetDue := false, greetTimer := 0,
    layoutDue := false, layoutTimer := 0, keepAliveDue := false, idle := 0, rewindDue := false, rewindTimer := 0,
    echoDue := [], readyDue := 0, ackDue := false }

/-- R64, R82, R89, R104, R111. -/
def Take.reset : Take :=
  { rx := .inactive, expected := 0, buffer := [], ackSeq := none, freed := 0, failTotal := 0, rewinds := 0, apply := none,
    fill := none, interrupted := none, awaitingLayout := false }

/-- R108, R146. -/
def Faults.reset : Faults := { list := [], overflow := 0, summary := 0, first := none }

/-- R112, R114, R121, R122, R123. -/
def Review.reset : Review :=
  { passNumber := 0, t := 0, c := 0, w := 0, dPrev := none, record := .reset, throttle := 0, lastAdmitted := none }

/-- R144. -/
def Session.reset : Session :=
  { role := .none, state := .idle, id := 0, sizeClass := 0, handoverPending := false, stalePending := false, retiredStep := .stale,
    resumeKind := .fresh, hold := none, greeted := none, layoutInstalled := false, lockout := false }

/-- R167, R168, R169. -/
def Directive.reset : Directive :=
  { shadow := Vector.replicate 7 0, stray := 0, expected := 1, last := { number := 0, code := 0, outcome := .none } }

/-- R175. -/
def Notice.reset : Notice := { pending := false, mark := 0 }

/-- R175. -/
def Notices.reset : Notices :=
  { directive := .reset, state := .reset, review := .reset, fault := .reset, line := .reset, step := .reset, enable := 0 }

/-- R177, before the first report starts. -/
def Report.reset (k : ResetKind) : Report :=
  { writing := false, nextWord := 0, again := false, generation := 0, snapshot := [], lastReset := k }

/-- Nothing driven. -/
def Out.none : Out := { mem := [], engine := [], link := [] }

/-- No signal. -/
def Signals.none : Signals := { report := false, dirtied := false, reexamine := false }

/-- The lines and straps at a cold reset (R145, R164, R189). -/
def Chassis.atCold (resetN : Bool) (p : Pins) : Chassis :=
  { power := true, resetN := resetN, msize := p.msize, slotId := p.slotId, peerRaw := p.peerPresent, peerFiltered := false,
    peerHeld := 0, eject := p.eject, takeEn := p.takeEn, lineDeferred := false, tick := 0 }

/-- The state whose every block holds its cold-reset value, with no report started (R17, R164). -/
def State.cold (resetN : Bool) (p : Pins) : State :=
  { chassis := .atCold resetN p, path := .reset, settings := .reset, regions := Vector.replicate 16 .empty, map := .reset,
    walker := .reset, freeze := .reset, feed := .reset, link := .reset, take := .reset, faults := .reset, review := .reset,
    session := .reset, directive := .reset, notices := .reset, report := .reset .cold, out := .none, signals := .none,
    pending := [] }

/-- The pins at State.reset: every strap 0 and every line low (DESIGN CHOICE, unsafe, log 8). -/
def Pins.reset : Pins := { msize := 0, slotId := 0, peerPresent := false, eject := false, takeEn := false }

/-- The words of the first report after a cold reset with the pins of `Pins.reset` (R182, R187): generation 1 in words 0 and 255, peer
take state NONE, next expected number 1, and the reset configuration. -/
def Report.firstWords : List Word :=
  [1, 0, 0, 0, 0, 0, 0, 0, 0, 0, 0, 0x0000000000FF0000] ++ List.replicate 12 0 ++ [0x0000000001000000, 0, 0, 0] ++
    [0x0804100605040202, 0x0232640A000107D0] ++ List.replicate 225 0 ++ [1]

/-- The machine right after a cold reset with RESET_N high: every block at its reset value and the first report, generation 1,
started (R17, R164, R182; log 9). -/
def State.reset : State :=
  { State.cold true Pins.reset with
    report := { writing := true, nextWord := 0, again := false, generation := 1, snapshot := Report.firstWords, lastReset := .cold } }

end Sys2Proof.Machine
end

