-- ==== Sys2Proof/Machine/Operands.lean ====
section
/-! DEFINITION. Bytes, masks, word fields and addresses: the operand forms that requests, records, directives and reports share
(00_scope.md Conventions, R166, R186). -/

namespace Sys2Proof.Machine

open Sys2Proof

/-- The bits of a word that a byte mask covers: byte i when mask bit i is set. -/
def maskBits (m : Mask) : Word :=
  (List.range 8).foldl (fun acc i => if m.getLsbD i then acc ||| ((0xFF : Word) <<< (8 * i)) else acc) 0

/-- The bytes of `new` that the mask covers over the other bytes of `old`. -/
def mergeBytes (m : Mask) (new old : Word) : Word := (new &&& maskBits m) ||| (old &&& ~~~ maskBits m)

/-- The bytes of a word that a mask covers, the others 0. -/
def keepBytes (m : Mask) (w : Word) : Word := w &&& maskBits m

/-- The full byte mask. -/
def fullMask : Mask := 0xFF

/-- Byte `i` of a word. -/
def byteOf (w : Word) (i : Nat) : Byte := w.extractLsb' (8 * i) 8

/-- The segment that holds a word address. -/
def segmentOf (a : Addr) : Segment := a.toNat / 64

/-- The word address of word `offset` of a segment. -/
def wordAddr (n : Segment) (offset : Nat) : Addr := BitVec.ofNat 24 (n * 64 + offset)

/-- The number of segments the MSIZE strap selects: 32,768 for 0, doubling with each step (00_scope.md). -/
def segmentsOf (msize : BitVec 2) : Nat := 32768 * 2 ^ msize.toNat

/-- The number of words the MSIZE strap selects. -/
def wordsOf (msize : BitVec 2) : Nat := segmentsOf msize * 64

/-- The control area's first word address (R166). -/
def controlBase (msize : BitVec 2) : Nat := (segmentsOf msize - Config.controlSegments) * 64

/-- The offset 0 to 7 of a word address in the directive slot, if it lies there (R10, R166). -/
def slotOffset (msize : BitVec 2) (a : Addr) : Option Nat :=
  if controlBase msize ≤ a.toNat ∧ a.toNat < controlBase msize + 8 then some (a.toNat - controlBase msize) else none

/-- The word address of word `i` of the report block (R166, R178). -/
def reportAddr (msize : BitVec 2) (i : Nat) : Addr := BitVec.ofNat 24 (controlBase msize + Config.reportOffset + i)

/-- A word built from fields: byte offset, width in bytes, value, each value taken modulo its field. -/
def packWord (fields : List (Nat × Nat × Nat)) : Word :=
  fields.foldl (fun acc f => acc ||| (BitVec.ofNat 64 (f.2.2 % 2 ^ (8 * f.2.1)) <<< (8 * f.1))) 0

/-! ### Directive records (R186) -/

/-- Shadow word `i`, 1 to 7 (R167). -/
def Directive.word (d : Directive) (i : Nat) : Word := (d.shadow.toList[i - 1]?).getD 0

/-- The trigger word of a directive: marker 0xC5, number, kind code (R168, R186). -/
def triggerWord (number code : Byte) : Word :=
  packWord [(0, 1, 0xC5), (1, 1, number.toNat), (2, 1, code.toNat)]

/-- A field taken as 1 when written 0 (R170). -/
def zeroAsOne (n : Nat) : Nat := if n = 0 then 1 else n

/-- A field taken as 1 when written 0 and as 15 when above 15 (R170). -/
def clampOneTo15 (n : Nat) : Nat := min 15 (zeroAsOne n)

/-- The configuration values a SETUP directive carries in shadow words 1 and 2, clamped (R170, R186). -/
def setupSettings (w1 w2 : Word) : Settings :=
  { walk := (byteOf w1 0).setWidth 3, fill := (byteOf w1 1).setWidth 3, apply := (byteOf w1 2).setWidth 3,
    replay := (byteOf w1 3).setWidth 3, report := (byteOf w1 4).setWidth 3,
    yieldCount := zeroAsOne (byteOf w1 5).toNat,
    retry := zeroAsOne (((byteOf w1 6).setWidth 4).toNat),
    passLimit := clampOneTo15 (byteOf w1 7).toNat,
    budget := zeroAsOne (w2.extractLsb' 0 16).toNat,
    throttleOn := (byteOf w2 2).getLsbD 0,
    policy := if (byteOf w2 3).getLsbD 0 then .abandon else .force,
    silence := zeroAsOne (byteOf w2 4).toNat, bringup := zeroAsOne (byteOf w2 5).toNat, hold := zeroAsOne (byteOf w2 6).toNat,
    filter := clampOneTo15 (byteOf w2 7).toNat }

/-- The class a class code names (R185). -/
def classOfCode (c : Byte) : Option RegionClass :=
  match c.toNat with
  | 0 => some .localOnly
  | 1 => some .mirror
  | 2 => some .snapshot
  | 3 => some .fill
  | _ => none

/-- The code of a class (R185). -/
def codeOfClass : RegionClass → Byte
  | .localOnly => 0
  | .mirror => 1
  | .snapshot => 2
  | .fill => 3

/-- The fields of a REGION directive (R186). -/
structure RegionFields where
  index : BitVec 4
  base : BitVec 18
  length : BitVec 18
  cls : Byte
  order : BitVec 4
  fill : Word
  deriving DecidableEq, Repr

/-- The fields of a REGION directive in shadow words 1 to 3 (R186). -/
def regionFields (w1 w2 w3 : Word) : RegionFields :=
  { index := w2.extractLsb' 0 4, base := w1.extractLsb' 0 18, length := w1.extractLsb' 32 18, cls := byteOf w2 1,
    order := w2.extractLsb' 16 4, fill := w3 }

/-- The session id of a FEED directive (R186). -/
def feedSession (w1 : Word) : BitVec 16 := w1.extractLsb' 0 16

/-- The force flag of an ADOPT directive (R186). -/
def adoptForce (w1 : Word) : Bool := (byteOf w1 0).getLsbD 0

/-- The enable mask of a NOTICES directive and the notice set of an ACKNOWLEDGE; the bits above the six notices are ignored (R185). -/
def noticeSet (w1 : Word) : BitVec 6 := w1.extractLsb' 0 6

/-- The generation of an ACKNOWLEDGE directive (R186). -/
def ackGeneration (w1 : Word) : Nat := (w1.extractLsb' 32 32).toNat

end Sys2Proof.Machine
end

