-- ==== Sys2Proof/Machine/Flags.lean ====
section
/-! DEFINITION. The flags the part shows: notices and NOTIFY (R175), faults and the fault list (R108, R109, R110, R146), and the signals by
which a block asks for a report (R178), tells of a segment entering DIRTY (R25) or has the held write examined again (R7). -/

namespace Sys2Proof.Machine

open Sys2Proof

/-- The part has power and is not held in reset. -/
def State.live (s : State) : Bool := s.chassis.power && s.chassis.resetN

/-- A report is requested in this command; it starts, or `again` is set, when the command's other changes are made (R178). -/
def State.requestReport (s : State) : State := { s with signals := { s.signals with report := true } }

/-- A block tells the table port that a hold may have ended (R7). -/
def State.reexamine (s : State) : State := { s with signals := { s.signals with reexamine := true } }

/-- The generation after `g`: from 4,294,967,295 it goes to 1 (R178). -/
def nextGeneration (g : Nat) : Nat := if g = Config.top32 then 1 else g + 1

/-- One notice with its pending flag set and its raise mark moved to the next report (R175, R180). -/
def raised (generation : Nat) : Notice := { pending := true, mark := nextGeneration generation }

/-- Set one notice. -/
def Notices.set (ns : Notices) (k : NoticeKind) (n : Notice) : Notices :=
  match k with
  | .directive => { ns with directive := n }
  | .state => { ns with state := n }
  | .review => { ns with review := n }
  | .fault => { ns with fault := n }
  | .line => { ns with line := n }
  | .step => { ns with step := n }

/-- Read one notice. -/
def Notices.get (ns : Notices) (k : NoticeKind) : Notice :=
  match k with
  | .directive => ns.directive
  | .state => ns.state
  | .review => ns.review
  | .fault => ns.fault
  | .line => ns.line
  | .step => ns.step

/-- The notice bit of R185. -/
def NoticeKind.bit : NoticeKind → Nat
  | .directive => 0
  | .state => 1
  | .review => 2
  | .fault => 3
  | .line => 4
  | .step => 5

/-- Every notice, in the order of the notice bits. -/
def NoticeKind.all : List NoticeKind := [.directive, .state, .review, .fault, .line, .step]

/-- Raise a notice: it becomes pending, its raise mark is the generation the next report will carry, and a report is requested (R175). -/
def State.raise (k : NoticeKind) (s : State) : State :=
  { s.requestReport with notices := s.notices.set k (raised s.report.generation) }

/-- The NOTIFY output: asserted while a notice is both pending and enabled (R175), released while PWR_GOOD or RESET_N is low (R189). -/
def State.notify (s : State) : Bool :=
  s.live && NoticeKind.all.any fun k => (s.notices.get k).pending && s.notices.enable.getLsbD k.bit

/-- The pending flags as one set (R185). -/
def Notices.pendingSet (ns : Notices) : Nat :=
  NoticeKind.all.foldl (fun acc k => if (ns.get k).pending then acc + 2 ^ k.bit else acc) 0

/-- A raise mark `m` is not later than generation `g`, which is not 0: it is `g` or one of the 2,147,483,647 generations before it, in the
cyclic order 1 to 4,294,967,295 (R176, R180). -/
def notLater (m g : Nat) : Bool := (g - 1 + Config.top32 - (m - 1)) % Config.top32 ≤ 2147483647

/-- ACKNOWLEDGE on one notice (R176). -/
def Notice.acknowledge (n : Notice) (g : Nat) : Notice :=
  if g = 0 ∨ notLater n.mark g then { n with pending := false } else n

/-- ACKNOWLEDGE of the named notices (R176). -/
def Notices.acknowledge (ns : Notices) (named : BitVec 6) (g : Nat) : Notices :=
  NoticeKind.all.foldl (fun acc k => if named.getLsbD k.bit then acc.set k ((acc.get k).acknowledge g) else acc) ns

/-! ### Faults -/

/-- The fault codes of R185. -/
def SessFault.code : SessFault → Nat
  | .linkLost => 1
  | .bringupTimeout => 2
  | .roleClash => 3
  | .refusedByPeer => 4
  | .layoutMisfit => 5
  | .protocol => 6
  | .sourceFault => 7
  | .verifyFail => 8
  | .lockoutTrip => 9
  | .convergeFail => 10
  | .freezeOverrun => 11
  | .closedByPeer => 12

/-- Record a fault: into the summary, as the first fault if there is none, with the FAULT notice and a report (R146). -/
def State.recordFault (f : SessFault) (s : State) : State :=
  let s := s.raise .fault
  { s with faults :=
      { s.faults with summary := s.faults.summary ||| (1#12 <<< (f.code - 1)), first := s.faults.first.or (some f) } }

/-- Enter a segment in the fault list: a listed segment keeps its place and takes the cause, a new one goes at the end, and a full list
loses its oldest entry (R109). -/
def Faults.enter (fs : Faults) (n : Segment) (c : Cause) : Faults :=
  if fs.list.any (fun e => e.1 == n) then
    { fs with list := fs.list.map fun e => if e.1 = n then (n, c) else e }
  else if fs.list.length < Config.faultPlaces then
    { fs with list := fs.list ++ [(n, c)] }
  else
    { fs with list := fs.list.tail ++ [(n, c)], overflow := satAdd Config.top16 fs.overflow 1 }

/-- A fault list entry is made: the FAULT notice is raised and a report requested (R109). -/
def State.enterFault (n : Segment) (c : Cause) (s : State) : State :=
  let s := s.raise .fault
  { s with faults := s.faults.enter n c }

/-- A segment that has verified leaves the take's fault list; a removal requests a report and raises nothing (R110). -/
def State.clearFault (n : Segment) (s : State) : State :=
  if s.faults.list.any (fun e => e.1 == n) then
    { s.requestReport with faults := { s.faults with list := s.faults.list.filter fun e => e.1 ≠ n } }
  else s

/-- Fault list, overflow count, summary and first fault as a session starts (R108, R146). -/
def Faults.start : Faults := Faults.reset

end Sys2Proof.Machine
end

