-- ==== Sys2Proof/Machine/Regions.lean ====
section
/-! DEFINITION. The region table: classes, the walk order and the fill order, the checks of REGION and LAYOUT (R19 to R24, R41, R104). -/

namespace Sys2Proof.Machine

open Sys2Proof

/-- The entry is non-empty and covers the segment (R19). -/
def Region.covers (r : Region) (n : Segment) : Bool := r.length.toNat ≠ 0 && r.base.toNat ≤ n && n < r.base.toNat + r.length.toNat

/-- The non-empty entry that covers a segment. -/
def entryOf (rs : Vector Region 16) (n : Segment) : Option Region := rs.toList.find? fun r => r.covers n

/-- The class of a segment: its entry's, or LOCAL where none covers it (R20). -/
def classOfSegment (rs : Vector Region 16) (n : Segment) : RegionClass := ((entryOf rs n).map Region.cls).getD .localOnly

/-- The class of a word address; an address at or above the memory size is LOCAL (R1, R20). -/
def State.classOf (s : State) (a : Addr) : RegionClass :=
  if wordsOf s.chassis.msize ≤ a.toNat then .localOnly else classOfSegment s.regions (segmentOf a)

/-- MIRROR and SNAPSHOT segments are tracked (R21). -/
def RegionClass.tracked : RegionClass → Bool
  | .mirror => true
  | .snapshot => true
  | .localOnly => false
  | .fill => false

/-- The segments of an entry, ascending. -/
def Region.segments (r : Region) : List Segment := List.range' r.base.toNat r.length.toNat

/-- The entries by ascending sweep order, then by ascending index (R41). -/
def bySweepOrder (rs : Vector Region 16) : List Region :=
  (List.range 16).flatMap fun o => rs.toList.filter fun r => r.order.toNat = o

/-- The walk order: the segments of the MIRROR and SNAPSHOT entries (R41). -/
def walkOrder (rs : Vector Region 16) : List Segment :=
  ((bySweepOrder rs).filter fun r => r.cls.tracked).flatMap Region.segments

/-- The fill order: the segments of the FILL entries (R104). -/
def fillOrder (rs : Vector Region 16) : List Segment :=
  ((bySweepOrder rs).filter fun r => r.cls == .fill).flatMap Region.segments

/-- T: the number of tracked segments (R21). -/
def trackedTotal (rs : Vector Region 16) : Nat :=
  ((rs.toList.filter fun r => r.cls.tracked).map fun r => r.length.toNat).sum

/-- The runs of `la` segments from `a` and of `lb` segments from `b` share a segment; an empty run shares none. -/
def runsOverlap (a la b lb : Nat) : Bool := la ≠ 0 && lb ≠ 0 && a < b + lb && b < a + la

/-- A run of `len` segments from `base`, `len` not 0, reaches past the last segment a region may use (R22, R23). -/
def reachesPast (msize : BitVec 2) (base len : Nat) : Bool := segmentsOf msize - 17 < base + len - 1

/-- The run shares a segment with a non-empty entry other than entry `index` (R22). -/
def overlapsOthers (rs : Vector Region 16) (index base len : Nat) : Bool :=
  rs.toList.zipIdx.any fun e => e.2 ≠ index && runsOverlap base len e.1.base.toNat e.1.length.toNat

/-- The value check of REGION: the entry the directive makes, or none for REFUSED_VALUE (R22). -/
def regionCheck (msize : BitVec 2) (rs : Vector Region 16) (f : RegionFields) : Option Region :=
  if f.length = 0 then some Region.empty
  else if reachesPast msize f.base.toNat f.length.toNat then none
  else if overlapsOthers rs f.index.toNat f.base.toNat f.length.toNat then none
  else (classOfCode f.cls).map fun c => { base := f.base, length := f.length, cls := c, order := f.order, fill := f.fill }

/-- A LAYOUT entry as the table holds it; an empty entry takes the values of R19, and a class code that names nothing makes none. -/
def layoutEntryRegion (e : LayoutEntry) : Option Region :=
  if e.length = 0 then some Region.empty
  else (classOfCode e.cls).map fun c => { base := e.base, length := e.length.setWidth 18, cls := c, order := e.order, fill := e.fill }

/-- A LAYOUT misfits (R23). -/
def layoutMisfits (msize : BitVec 2) (es : Vector LayoutEntry 16) : Bool :=
  es.toList.zipIdx.any fun e => e.1.length ≠ 0 &&
    (reachesPast msize e.1.base.toNat e.1.length.toNat
      || es.toList.zipIdx.any (fun o => o.2 ≠ e.2 && runsOverlap e.1.base.toNat e.1.length.toNat o.1.base.toNat o.1.length.toNat)
      || (classOfCode e.1.cls).isNone)

/-- The table a LAYOUT that fits installs (R23). -/
def layoutTable (es : Vector LayoutEntry 16) : Vector Region 16 := es.map fun e => (layoutEntryRegion e).getD Region.empty

/-- A LAYOUT entry agrees with a table entry in all five fields (R72). -/
def layoutEntryAgrees (e : LayoutEntry) (r : Region) : Bool :=
  e.base == r.base && e.length.toNat == r.length.toNat && e.cls == codeOfClass r.cls && e.order == r.order && e.fill == r.fill

/-- All 16 entries agree in all five fields (R72). -/
def layoutIdentical (es : Vector LayoutEntry 16) (rs : Vector Region 16) : Bool :=
  (es.toList.zip rs.toList).all fun p => layoutEntryAgrees p.1 p.2

/-- Take-side blocking is in force: a layout is installed and the take session lasts (R6, R144). -/
def State.blocking (s : State) : Bool := s.session.role == .take && s.session.state != .idle && s.session.layoutInstalled

/-- The class of a segment as it has effect at the take: its table's while blocking is in force, LOCAL at any other time, also where no layout
was ever installed in the session (R20, R21, R158). -/
def State.installedClass (s : State) (n : Segment) : RegionClass := if s.blocking then classOfSegment s.regions n else .localOnly

/-- Take-side blocking applies to the address (R6). -/
def State.blocked (s : State) (a : Addr) : Bool := s.blocking && s.classOf a != .localOnly

end Sys2Proof.Machine
end

