-- ==== Sys2Proof/Machine/SegMap.lean ====
section
/-! DEFINITION. The segment map of the feed: states, counts, and its changes (R25 to R28). -/

namespace Sys2Proof.Machine

open Sys2Proof

/-- The state of a segment; NONE where the map does not list it (R25). -/
def SegMap.get (m : SegMap) (n : Segment) : SegState := ((m.cells.find? fun e => e.1 == n).map Prod.snd).getD .notTracked

/-- The number of segments in a state (R25). -/
def SegMap.count (m : SegMap) (st : SegState) : Nat := m.cells.countP fun e => e.2 == st

/-- The map with `f` applied to the state of one segment. -/
def SegMap.update (m : SegMap) (n : Segment) (f : SegState → SegState) : SegMap :=
  { m with cells := m.cells.map fun e => if e.1 = n then (e.1, f e.2) else e }

/-- A segment that enters DIRTY is told to the walker and the session controller (R25). -/
def State.toldDirty (b : Bool) (s : State) : State :=
  { s with signals := { s.signals with dirtied := s.signals.dirtied || b } }

/-- Change the state of one listed segment. -/
def State.changeSeg (n : Segment) (f : SegState → SegState) (s : State) : State :=
  let old := s.map.get n
  let s := s.toldDirty (old != .notTracked && old != .dirty && f old == .dirty)
  { s with map := s.map.update n f }

/-- INFLIGHT or CLEAN becomes DIRTY: a withdrawn record, a refused record, a flush (R31, R38, R39, R40). -/
def sentToDirty : SegState → SegState
  | .inflight => .dirty
  | .clean => .dirty
  | st => st

/-- INFLIGHT becomes DIRTY: a withdrawn SEG frame (R38). -/
def inflightToDirty : SegState → SegState
  | .inflight => .dirty
  | st => st

/-- OPEN becomes DIRTY: a dropped buffer (R35). -/
def openToDirty : SegState → SegState
  | .opened => .dirty
  | st => st

/-- INFLIGHT becomes CLEAN: the last SEG frame retired (R37). -/
def inflightToClean : SegState → SegState
  | .inflight => .clean
  | st => st

/-- UNSENT or DIRTY becomes OPEN: a buffer taken (R35). -/
def toOpen : SegState → SegState
  | .unsent => .opened
  | .dirty => .opened
  | st => st

/-- OPEN becomes INFLIGHT: the SEG frame queued (R35). -/
def openToInflight : SegState → SegState
  | .opened => .inflight
  | st => st

/-- OPEN becomes SRCFAULT: a staging read returned FAULT (R35). -/
def openToSrcFault : SegState → SegState
  | .opened => .srcFault
  | st => st

/-- CLEAN becomes DIRTY: a write in SUSPENDED (R33). -/
def cleanToDirty : SegState → SegState
  | .clean => .dirty
  | st => st

/-- What a local flush makes of a segment with an entry, once its buffer is dropped (R40). -/
def flushToDirty : SegState → SegState
  | .clean => .dirty
  | .inflight => .dirty
  | .opened => .dirty
  | st => st

/-- The map as a FEED directive sets it (R26), with both counts 0 (R31, R32). -/
def SegMap.start (rs : Vector Region 16) : SegMap :=
  { cells := (walkOrder rs).map fun n => (n, .unsent), drift := 0, overflow := 0 }

/-- Every UNSENT segment becomes DIRTY as a RESUMED verdict arrives (R27). -/
def State.unsentToDirty (s : State) : State :=
  let s := s.toldDirty (s.map.cells.any fun e => e.2 == .unsent)
  { s with map := { s.map with cells := s.map.cells.map fun e => if e.2 = .unsent then (e.1, .dirty) else e } }

/-- Every segment becomes NONE at a session end (R28); the drift and overflow counts stay (R31, R32). -/
def State.clearMap (s : State) : State := { s with map := { s.map with cells := [] } }

/-- The DIRTY count. -/
def State.dirtyCount (s : State) : Nat := s.map.count .dirty

/-- The OPEN count. -/
def State.openCount (s : State) : Nat := s.map.count .opened

/-- The UNSENT count. -/
def State.unsentCount (s : State) : Nat := s.map.count .unsent

end Sys2Proof.Machine
end

