-- ==== Sys2Proof/Machine/Ops.lean ====
section
/-! DEFINITION. The operations every family shares: the session state (R144), the passage of time (log 1), part requests to memory
(R11), the pass (R112). -/

namespace Sys2Proof.Machine

open Sys2Proof

/-- Change the session state: each change raises the STATE notice, requests a report (R144) and lets the table port examine a held
write again (R7). -/
def State.setState (st : SessState) (s : State) : State :=
  if s.session.state = st then s
  else
    let s := (s.raise .state).reexamine
    { s with session := { s.session with state := st } }

/-- A pass runs exactly in SWEEP and CATCHUP: a pass that ends leaves them or starts the next (R44, R47, R112). -/
def State.passRunning (s : State) : Bool := s.session.state == .sweep || s.session.state == .catchup

/-- The part is in a feed session. -/
def State.inFeed (s : State) : Bool := s.session.role == .feed && s.session.state != .idle

/-- The part is in a take session. -/
def State.inTake (s : State) : Bool := s.session.role == .take && s.session.state != .idle

/-- Pass a request to the memory controller (R11). -/
def State.toMemory (r : MemRequest) (s : State) : State := { s with out := { s.out with mem := s.out.mem ++ [r] } }

/-- The silence limit in ticks (R64). -/
def Settings.silenceTicks (c : Settings) : Nat := c.silence * Config.ticks100us

/-- The bring-up limit in ticks (R64). -/
def Settings.bringupTicks (c : Settings) : Nat := c.bringup * Config.ticks10ms

/-- The hold limit in ticks (R144). -/
def Settings.holdTicks (c : Settings) : Nat := c.hold * Config.ticks100ms

/-- The freeze hard limit in ticks: 20 x B (R131). -/
def Settings.freezeTicks (c : Settings) : Nat := 20 * c.budget

/-- The PEER_PRESENT filter time in ticks (R145). -/
def Settings.filterTicks (c : Settings) : Nat := c.filter * Config.ticks1ms

/-- Time passes on the chassis: the tick count, and the time a raw PEER_PRESENT level has held (R123, R145). -/
def Chassis.advance (c : Chassis) (n : Nat) : Chassis :=
  { c with tick := c.tick + n, peerHeld := if c.peerRaw = c.peerFiltered then c.peerHeld else c.peerHeld + n }

/-- Time passes at the link: each timer that runs rises, up to its limit (R64, R65, R67, R69, R72, R83). -/
def Link.advance (l : Link) (c : Settings) (n : Nat) : Link :=
  { l with
    silence := if l.state = .up then satAdd c.silenceTicks l.silence n else l.silence
    bringup := l.bringup.map fun t => satAdd c.bringupTicks t n
    trainTimer := satAdd Config.ticks10us l.trainTimer n
    greetTimer := satAdd Config.ticks100us l.greetTimer n
    layoutTimer := satAdd Config.ticks100us l.layoutTimer n
    rewindTimer := satAdd Config.ticks100us l.rewindTimer n
    idle := satAdd Config.ticks10us l.idle n }

/-- `n` pace ticks pass: the tick count and every running timer rise, each timer stopping at its limit, and t rises while a pass runs
(R112). What a timer's end causes happens in the command that is its expiry (log 1). -/
def State.advance (n : Nat) (s : State) : State :=
  if s.live then
    { s with
      chassis := s.chassis.advance n
      link := s.link.advance s.settings n
      freeze := { s.freeze with timer := s.freeze.timer.map fun t => satAdd s.settings.freezeTicks t n }
      session := { s.session with hold := s.session.hold.map fun t => satAdd s.settings.holdTicks t n }
      review := if s.passRunning then { s.review with t := satAdd Config.top32 s.review.t n } else s.review }
  else if s.chassis.power then { s with chassis := { s.chassis with tick := s.chassis.tick + n } }
  else s

/-- Start a pass: the cursor at the first place, t, C and w cleared, the pass number as given (R44, R112). -/
def State.startPass (number : Nat) (s : State) : State :=
  { s with
    walker := { s.walker with cursor := some 0 }
    review := { s.review with passNumber := number, t := 0, c := 0, w := 0 } }

/-- Set the throttle level; a change lets the held write be examined again (R122, R124). -/
def State.setThrottle (level : Nat) (s : State) : State :=
  let s := if s.review.throttle = level then s else s.reexamine
  { s with review := { s.review with throttle := level } }

/-- A requester takes the next use number (R49). -/
def State.takeUse (s : State) : State := { s with walker := { s.walker with nextUse := s.walker.nextUse + 1 } }

end Sys2Proof.Machine
end

