-- ==== Sys2Proof/Machine/Overlay.lean ====
section
/-! DEFINITION. The freeze overlay: lookup, capture and merge, supersession, the local flush (R126, R127, R138, R140, R40). -/

namespace Sys2Proof.Machine

open Sys2Proof

/-- The entry for a word address, if the overlay holds one (R126). -/
def Freeze.find (f : Freeze) (a : Addr) : Option OverlayEntry := f.entries.find? fun e => e.addr == a

/-- A write merged into an entry: its bytes replace the entry's, the masks are joined, and a FLUSHING entry becomes CAPTURED (R127). -/
def OverlayEntry.merge (e : OverlayEntry) (w : WriteReq) : OverlayEntry :=
  { e with data := mergeBytes w.mask w.data e.data, mask := e.mask ||| w.mask, flushing := false }

/-- The entry a captured write starts (R127). -/
def OverlayEntry.ofWrite (w : WriteReq) : OverlayEntry :=
  { addr := w.addr, data := keepBytes w.mask w.data, mask := w.mask, flushing := false }

/-- A write kept in the overlay: merged into its address's entry, or a new entry at the end (R127). -/
def Freeze.capture (f : Freeze) (w : WriteReq) : Freeze :=
  if (f.find w.addr).isSome then
    { f with entries := f.entries.map fun e => if e.addr = w.addr then e.merge w else e }
  else { f with entries := f.entries ++ [OverlayEntry.ofWrite w] }

/-- The overlay holds no entry for the address and no free place (R127). -/
def Freeze.fullFor (f : Freeze) (a : Addr) : Bool :=
  (f.find a).isNone && Config.overlayPlaces ≤ f.entries.length

/-- What a granted write leaves of an entry: its bytes leave the mask, and an entry with no byte left leaves the list (R140). -/
def OverlayEntry.supersede (w : WriteReq) (e : OverlayEntry) : Option OverlayEntry :=
  if e.addr = w.addr then
    let m := e.mask &&& ~~~ w.mask
    if m = 0 then none else some { e with mask := m, data := keepBytes m e.data }
  else some e

/-- A granted upstream write supersedes bytes of the overlay (R140); a place freed is told to the table port (R128). -/
def State.supersede (w : WriteReq) (s : State) : State :=
  let es := s.freeze.entries.filterMap (OverlayEntry.supersede w)
  let s := if es.length < s.freeze.entries.length then s.reexamine else s
  { s with freeze := { s.freeze with entries := es } }

/-- The oldest FLUSHING entry (R139). -/
def Freeze.oldestFlushing (f : Freeze) : Option OverlayEntry := f.entries.find? fun e => e.flushing

/-- The entry for an address leaves the list, and the table port is told that a place is free (R133, R139). -/
def State.dropEntry (a : Addr) (s : State) : State :=
  { s.reexamine with freeze := { s.freeze with entries := s.freeze.entries.filter fun e => e.addr ≠ a } }

/-- The overlay holds a FLUSHING entry in the segment (R141). -/
def Freeze.flushingIn (f : Freeze) (n : Segment) : Bool := f.entries.any fun e => e.flushing && segmentOf e.addr == n

/-- Every CAPTURED entry becomes FLUSHING, keeping its place and bytes (R138). -/
def State.beginFlush (s : State) : State :=
  { s with freeze := { s.freeze with entries := s.freeze.entries.map fun e => { e with flushing := true } } }

/-- A staging buffer is dropped when its segment has an overlay entry (R40, R56). -/
def keepBuffer (es : List OverlayEntry) (b : Option Buffer) : Option Buffer :=
  b.filter fun b => !(es.any fun e => segmentOf e.addr == b.segment)

/-- A local flush with the session continuing: entries become FLUSHING, each entry's segment is marked, and buffers that hold such a
segment are dropped (R40, R138). -/
def State.flushContinuing (s : State) : State :=
  let es := s.freeze.entries
  let s := es.foldl (fun s e => s.changeSeg (segmentOf e.addr) flushToDirty) s
  { s.beginFlush with
    walker := { s.walker with buf0 := keepBuffer es s.walker.buf0, buf1 := keepBuffer es s.walker.buf1 } }

end Sys2Proof.Machine
end

