-- ==== Sys2Proof/Machine/Queue.lean ====
section
/-! DEFINITION. The send queue and the window: places, mirror records, offers of state frames, withdrawal and retirement (R76, R77,
R80, R81, R37, R38, R149, R150, R151). -/

namespace Sys2Proof.Machine

open Sys2Proof

/-- The send queue has a free place (R76). -/
def Feed.hasPlace (f : Feed) : Bool := f.queue.length < Config.queuePlaces

/-- A frame joins the end of the send queue (R76). -/
def State.enqueue (f : SeqFrame) (s : State) : State := { s with feed := { s.feed with queue := s.feed.queue ++ [f] } }

/-- A record appended to a MIR frame with room, if the frame is one (R77, step 1). -/
def appendRecord (f : SeqFrame) (r : MirrorRecord) : Option SeqFrame :=
  match f with
  | .mir rs => if rs.length < Config.mirRecords then some (.mir (rs ++ [r])) else none
  | _ => none

/-- The queue with a mirror record placed, or none where it cannot be placed (R77). -/
def placeRecord (q : List SeqFrame) (r : MirrorRecord) : Option (List SeqFrame) :=
  match q.getLast?.bind fun f => appendRecord f r with
  | some f => some (q.dropLast ++ [f])
  | none => if q.length < Config.queuePlaces then some (q ++ [.mir [r]]) else none

/-- The queue could place a mirror record (R133). -/
def canPlace (q : List SeqFrame) : Bool :=
  (q.getLast?.bind fun f => appendRecord f { addr := 0, data := 0, mask := 0 }).isSome || decide (q.length < Config.queuePlaces)

/-- The kind of step a frame is (R144). -/
def stepOf : SeqFrame → Option StepKind
  | .instep => some .instep
  | .stale => some .stale
  | _ => none

/-- The frame is a SEG frame for the segment. -/
def isSegFor (n : Segment) : SeqFrame → Bool
  | .seg m _ => m.toNat == n
  | _ => false

/-- The last step: the newest INSTEP or STALE frame of the window and the queue, or the retired step (R144). -/
def State.lastStep (s : State) : StepKind :=
  (((s.feed.window.map Prod.snd) ++ s.feed.queue).reverse.findSome? stepOf).getD s.session.retiredStep

/-- The test under which INSTEP is offered (R149). -/
def State.instepTest (s : State) : Bool :=
  s.session.state == .steady && s.dirtyCount == 0 && s.unsentCount == 0 && s.openCount == 0 && s.freeze.entries.isEmpty
    && s.lastStep == .stale && !s.feed.instepWaiting

/-- An INSTEP offer: queued at once where the queue has a place, else it waits (R149). -/
def State.offerInstep (s : State) : State :=
  if s.feed.hasPlace then s.enqueue .instep else { s with feed := { s.feed with instepWaiting := true } }

/-- The INSTEP test, and the offer where it holds (R149). -/
def State.tryInstep (s : State) : State := if s.instepTest then s.offerInstep else s

/-- STALE is offered: queued at once where the queue has a place and no INSTEP offer waits before it, else stale-pending waits (R76, R150). -/
def State.offerStale (s : State) : State :=
  if s.feed.hasPlace && !s.feed.instepWaiting then
    { s.enqueue .stale with session := { s.session with stalePending := false } }
  else { s with session := { s.session with stalePending := true } }

/-- No segment DIRTY or OPEN, and the send queue and window empty: the drain is complete (R132, R155). -/
def State.drained (s : State) : Bool :=
  s.dirtyCount == 0 && s.openCount == 0 && s.feed.queue.isEmpty && s.feed.window.isEmpty

/-- The retirement of one frame, `left` being every frame still unretired after it in window and queue (R37, R151). -/
def State.retireOne (f : SeqFrame) (left : List SeqFrame) (s : State) : State :=
  match f with
  | .seg n _ =>
    if left.any (isSegFor n.toNat) then s else s.changeSeg n.toNat inflightToClean
  | .instep => { s with session := { s.session with retiredStep := .instep } }
  | .stale => { s with session := { s.session with retiredStep := .stale } }
  | .mir _ => s
  | .handover => s

/-- Retire frames in sequence order, oldest first, each judged against the frames unretired after it (R37, R80). -/
def State.retireAll : List SeqFrame → List SeqFrame → State → State
  | [], _, s => s
  | f :: fs, after, s => State.retireAll fs after (s.retireOne f (fs ++ after))

/-- The effect on the map of one withdrawn frame, `left` being the frames that remain (R38). -/
def State.withdrawOne (left : List SeqFrame) (s : State) (f : SeqFrame) : State :=
  match f with
  | .seg n _ =>
    if left.any (isSegFor n.toNat) then s else s.changeSeg n.toNat inflightToDirty
  | .mir rs => rs.foldl (fun s r => s.changeSeg (segmentOf r.addr) sentToDirty) s
  | .instep => s
  | .stale => s
  | .handover => s

/-- The effect on the map of withdrawn frames (R38). -/
def State.withdrawAll (frames left : List SeqFrame) (s : State) : State := frames.foldl (State.withdrawOne left) s

end Sys2Proof.Machine
end

