-- ==== Sys2Proof/Machine/Link.lean ====
section
/-! DEFINITION. The link controller: training, off, confirmation, discards, numbering (R63 to R68, R73, R83). -/

namespace Sys2Proof.Machine

open Sys2Proof

/-- Nothing is due to be sent, and GREET is not repeated (log 38). -/
def Link.quiet (l : Link) : Link :=
  { l with trainDue := false, greeting := false, greetDue := false, layoutDue := false, keepAliveDue := false, rewindDue := false,
           echoDue := [], readyDue := 0, ackDue := false }

/-- The link enters TRAINING: not confirmed, no lane, numbering inactive, silence timer stopped, and the first TRAIN due (R64, R65, R68).
It is due whatever the filtered PEER_PRESENT level; while that is low it is not sent but stays due, and what becomes of it R65 does not say
(DESIGN CHOICE, unsafe, log 50). -/
def Link.enterTraining (l : Link) : Link :=
  { l.quiet with state := .training, confirmed := false, lanes := 0, seen := 0, silence := 0, numbering := false, trainDue := true,
                 trainTimer := 0 }

/-- The link becomes OFF (R64, R75): it neither sends nor receives, and the bring-up timer stops. -/
def Link.enterOff (l : Link) : Link :=
  { l.quiet with state := .off, confirmed := false, lanes := 0, seen := 0, silence := 0, numbering := false, bringup := none }

/-- The take's receive state while numbering is inactive (R68). -/
def Take.inactive (t : Take) : Take := { t with rx := .inactive, expected := 0 }

/-- A frame is sent: the time since the last sending starts anew (R67). -/
def State.send (f : TxFrame) (s : State) : State :=
  { s with out := { s.out with link := s.out.link ++ [f] }, link := { s.link with idle := 0, keepAliveDue := false } }

/-- The CLOSE that a session end gives is sent if the link is UP, once and ahead of every frame that waits (R75, R78; log 7). -/
def State.sendClose (close : Option CloseReason) (s : State) : State :=
  if s.link.state = .up then
    match close with
    | some r => s.send (.close r)
    | none => s
  else s

/-- A session end at the link: the CLOSE given is sent, and then the link becomes OFF (R75, R157, R162). The take's numbering ends with it
(log 43). -/
def State.closeLink (close : Option CloseReason) (s : State) : State :=
  let s := s.sendClose close
  { s with link := s.link.enterOff, take := s.take.inactive, feed := { s.feed with rewound := none } }

/-- The link returns to TRAINING (R68, R75). -/
def State.retrain (s : State) : State :=
  { s with link := s.link.enterTraining, take := s.take.inactive, feed := { s.feed with rewound := none } }

/-- A valid frame other than TRAIN has arrived on an UP link: the silence timer restarts and the link is confirmed (R66, R67). -/
def State.heard (s : State) : State :=
  if s.link.state = .up then { s with link := { s.link with silence := 0, confirmed := true } } else s

/-- The take enters DISCARD: REWIND is due and its rewind count rises (R82, R83). -/
def State.enterDiscard (s : State) : State :=
  { s with
    take := { s.take with rx := .discard, rewinds := satAdd Config.top16 s.take.rewinds 1 }
    link := { s.link with rewindDue := true, rewindTimer := 0 } }

/-- The discarded frame count rises (R63). -/
def State.countDiscard (s : State) : State :=
  { s with link := { s.link with discarded := satAdd Config.top16 s.link.discarded 1 } }

/-- A frame is discarded: counted, and at an IN_ORDER take it leads to DISCARD (R63, R83). A part whose link is OFF receives nothing. -/
def State.discardFrame (s : State) : State :=
  if s.link.state = .off then s
  else
    let s := s.countDiscard
    if s.inTake && s.link.numbering && s.take.rx == .inOrder then s.enterDiscard else s

/-- Numbering starts at the feed (R73), and the peer figures are cleared (R80). That this clearing of the peer fail total, which no ACK
makes, raises no FAULT notice is the model's choice (DESIGN CHOICE, unsafe, log 46). -/
def State.startNumberingFeed (s : State) : State :=
  { s with
    link := { s.link with numbering := true }
    feed := { s.feed with nextNumber := 0, window := [], sentTotal := 0, freedTotal := 0, rewound := none, peerFail := 0,
                          peerState := none } }

/-- Numbering starts at the take (R73, R89). -/
def State.startNumberingTake (s : State) : State :=
  { s with
    link := { s.link with numbering := true }
    take := { s.take with rx := .inOrder, expected := 0, freed := 0, ackSeq := none, buffer := [] } }

/-- Credits in use: the sent total less the freed total, modulo 256 (R79). -/
def Feed.credits (f : Feed) : Nat := (f.sentTotal - f.freedTotal).toNat

/-- The largest lane count of 4, 2 or 1 for which the first lanes all carry the peer's TRAIN, or 0 while lane 0 does not (R60). -/
def laneCount (seen : BitVec 4) : Nat :=
  if seen = 0xF#4 then 4 else if seen.getLsbD 0 && seen.getLsbD 1 then 2 else if seen.getLsbD 0 then 1 else 0

end Sys2Proof.Machine
end

