-- ==== Sys2Proof/Machine/Sessions.lean ====
section
/-! DEFINITION. The session controller's shared operations: how sessions start and end, link loss, handover, the end of replay (R135,
R147, R152, R154 to R163). -/

namespace Sys2Proof.Machine

open Sys2Proof

/-! ### Feed -/

/-- HANDOVER is entered (R155). -/
def State.enterHandover (s : State) : State :=
  let s := s.setState .handover
  { s with
    session := { s.session with handoverPending := false }
    freeze := { s.freeze with timer := some 0 } }

/-- STEADY is entered: the throttle level becomes 0 and the drain rounds begin at the first place (R43, R122). -/
def State.enterSteady (s : State) : State :=
  let s := (s.setState .steady).setThrottle 0
  { s with walker := { s.walker with cursor := some 0 } }

/-- FREEZE is entered (R130). -/
def State.enterFreeze (s : State) : State :=
  let s := s.setState .freeze
  { s with
    walker := { s.walker with cursor := some 0 }
    freeze := { s.freeze with timer := some 0 } }

/-- REPLAY ends when the overlay is empty: STEADY, and HANDOVER at once when a handover is pending, with no INSTEP offered then (R135,
R155). -/
def State.endReplay (s : State) : State :=
  if s.session.state = .replay ∧ s.freeze.entries = [] then
    let s := s.enterSteady
    if s.session.handoverPending then s.enterHandover else s
  else s

/-- A handover request, by EJECT or directive (R154). -/
def State.requestHandover (s : State) : State :=
  if s.inFeed then
    match s.session.state with
    | .steady => s.enterHandover
    | .handover => s
    | _ => { s with session := { s.session with handoverPending := true } }
  else s

/-- Both staging buffers are dropped and their contents discarded (R56). -/
def State.dropBuffers (s : State) : State := { s with walker := { s.walker with buf0 := none, buf1 := none } }

/-- The segment of a buffer in use goes from OPEN to DIRTY (R35, R39). -/
def State.reopen (b : Option Buffer) (s : State) : State :=
  match b with
  | none => s
  | some b => s.changeSeg b.segment openToDirty

/-- The send queue, the window and the waiting offers are emptied, the frames discarded (R81, R157). -/
def State.emptyQueues (s : State) : State := { s with feed := { s.feed with queue := [], window := [], instepWaiting := false } }

/-- A feed session ends (R157). -/
def State.endFeed (close : Option CloseReason) (s : State) : State :=
  let s := s.beginFlush
  let s := s.clearMap.dropBuffers.emptyQueues
  let s := s.setThrottle 0
  let s := s.closeLink close
  let s := { s with
    freeze := { s.freeze with timer := none }
    session := { s.session with hold := none, handoverPending := false, stalePending := false } }
  s.setState .idle

/-- What a link loss does to the feed's map, buffers, queue, window and overlay (R39). -/
def State.loseFrames (s : State) : State :=
  let s := (s.reopen s.walker.buf0).reopen s.walker.buf1
  let frames := s.feed.window.map Prod.snd ++ s.feed.queue
  let s := s.dropBuffers.emptyQueues
  (s.withdrawAll frames []).flushContinuing

/-- The feed's session enters SUSPENDED with the given resume kind (R152). -/
def State.suspend (kind : GreetKind) (s : State) : State :=
  let s := { s with
    freeze := { s.freeze with timer := none }
    session := { s.session with retiredStep := .stale, stalePending := false, resumeKind := kind, hold := some 0 } }
  s.setState .suspended

/-- A link loss at a feed (R39, R68, R152). -/
def State.loseLinkFeed (s : State) : State :=
  let s := s.loseFrames
  let s := { s.retrain with feed := { s.retrain.feed with sentTotal := 0, freedTotal := 0 } }
  match s.session.state with
  | .install => s.suspend .fresh
  | .sweep => s.suspend .resume
  | .catchup => s.suspend .resume
  | .freeze => s.suspend .resume
  | .replay => s.suspend .resume
  | .steady => s.suspend .resume
  | .handover => ({ s with session := { s.session with handoverPending := true } } : State).suspend .resume
  | _ => s

/-! ### Take -/

/-- The work of the apply and fill units is dropped and the receive buffer discarded (R101, R102, R107). -/
def State.dropWork (s : State) : State := { s with take := { s.take with apply := none, fill := none, buffer := [] } }

/-- A take session ends (R162). -/
def State.endTake (close : Option CloseReason) (s : State) : State :=
  let s := s.dropWork.closeLink close
  let s := { s with
    take := { s.take with awaitingLayout := false }
    session := { s.session with hold := none, greeted := none, layoutInstalled := false } }
  s.setState .idle

/-- The take enters HELD (R160). -/
def State.enterHeld (s : State) : State :=
  let s := s.dropWork
  let s := { s with
    take := { s.take with awaitingLayout := false }
    session := { s.session with hold := some 0, greeted := none } }
  s.setState .held

/-- The take enters DETACHED (R160, R161). -/
def State.enterDetached (s : State) : State :=
  let s := s.dropWork
  let s := { s with
    take := { s.take with awaitingLayout := false }
    link := { s.link with bringup := none }
    session := { s.session with hold := none, greeted := none } }
  s.setState .detached

/-- A link loss at a take (R68, R160). -/
def State.loseLinkTake (s : State) : State :=
  let s := s.retrain
  match s.session.state with
  | .bringup => if s.take.awaitingLayout then s.enterHeld else s
  | .install => s.enterHeld
  | .receiving => s.enterHeld
  | .synced => s.enterHeld
  | .final => s.dropWork
  | _ => s

/-- The link is lost while UP (R68). -/
def State.loseLink (s : State) : State :=
  if s.link.state = .up then
    if s.inFeed then s.loseLinkFeed else if s.inTake then s.loseLinkTake else s
  else s

/-! ### Both -/

/-- The session ends for a cause that sends no CLOSE or this one (R157, R162). -/
def State.endSession (close : Option CloseReason) (s : State) : State :=
  if s.inFeed then s.endFeed close else if s.inTake then s.endTake close else s

/-- A verify has failed: the fault list entry, the fail total, VERIFY_FAIL (R93, R96, R98, R100, R105). -/
def State.verifyFailed (n : Segment) (c : Cause) (s : State) : State :=
  let s := (s.enterFault n c).recordFault .verifyFail
  { s with take := { s.take with failTotal := satAdd Config.top16 s.take.failTotal 1 } }

/-- A segment has verified: its fault list entry, if any, is removed (R96, R105, R110). -/
def State.verified (n : Segment) (s : State) : State := s.clearFault n

end Sys2Proof.Machine
end

