-- ==== Sys2Proof/Machine/Port.lean ====
section
/-! DEFINITION. The table port: the treatment of a taken request, holds, admission, and the answers to the engine (R1 to R9, R113, R123,
R127). -/

namespace Sys2Proof.Machine

open Sys2Proof

/-! ### Answers -/

/-- The response of a blocked read and of any FAULT (R3, R6). -/
def ReadResult.faulted : ReadResult := { status := .fault, data := 0 }

/-- The reads of a stream not yet answered. -/
def Path.reads (p : Path) : Stream → List PendingRead
  | .lookup => p.lookupReads
  | .maintenance => p.maintReads

/-- Replace the reads of a stream not yet answered. -/
def Path.setReads (p : Path) (st : Stream) (rs : List PendingRead) : Path :=
  match st with
  | .lookup => { p with lookupReads := rs }
  | .maintenance => { p with maintReads := rs }

/-- The responses at the front of a stream that are fixed, which are returned now, and the reads that wait on (R3). -/
def releaseAnswers : List PendingRead → List ReadResult × List PendingRead
  | .answered r :: rest => (r :: (releaseAnswers rest).1, (releaseAnswers rest).2)
  | .waiting :: rest => ([], .waiting :: rest)
  | [] => ([], [])

/-- Return to the engine every response of the stream that no earlier read of it holds up (R3). -/
def State.returnAnswers (st : Stream) (s : State) : State :=
  let r := releaseAnswers (s.path.reads st)
  { s with
    path := s.path.setReads st r.2
    out := { s.out with engine := s.out.engine ++ r.1.map fun a => (st, a) } }

/-- A read the port answers at taking (R3). -/
def State.answerRead (st : Stream) (r : ReadResult) (s : State) : State :=
  ({ s with path := s.path.setReads st (s.path.reads st ++ [.answered r]) } : State).returnAnswers st

/-- A read becomes its stream's candidate at the arbiter (R4). -/
def State.readCandidate (st : Stream) (a : Addr) (s : State) : State :=
  let p := s.path.setReads st (s.path.reads st ++ [.waiting])
  match st with
  | .lookup => { s with path := { p with lookup := some a } }
  | .maintenance => { s with path := { p with maint := .read a } }

/-- The examination of a taken READ (R4); while RESET_N is low there is none (R18). -/
def State.examineRead (st : Stream) (a : Addr) (s : State) : State :=
  if !s.live then s.readCandidate st a
  else if s.blocked a then s.answerRead st .faulted
  else
    match s.freeze.find a with
    | some e => if e.mask = fullMask then s.answerRead st { status := .ok, data := e.data } else s.readCandidate st a
    | none => s.readCandidate st a

/-! ### Writes -/

/-- The spacing in pace ticks that a throttle level sets (R122). -/
def spacingOf (level : Nat) : Nat :=
  match level with
  | 0 => 0
  | 1 => 1
  | 2 => 4
  | _ => 16

/-- The throttle spacing has not yet passed (R123). -/
def State.spacingShort (s : State) : Bool :=
  match s.review.lastAdmitted with
  | none => false
  | some k => s.chassis.tick - k < spacingOf s.review.throttle

/-- The throttle hold applies to a write (R123). -/
def State.throttleHolds (s : State) (w : WriteReq) : Bool :=
  s.inFeed && s.passRunning && s.classOf w.addr == .mirror && s.review.throttle != 0 && s.spacingShort

/-- The overlay-full hold applies to a write (R128). -/
def State.overlayHolds (s : State) (w : WriteReq) : Bool :=
  s.inFeed && s.session.state == .freeze && s.classOf w.addr == .mirror && s.freeze.fullFor w.addr

/-- The handover hold applies to a write (R155). -/
def State.handoverHolds (s : State) (w : WriteReq) : Bool :=
  s.inFeed && s.session.state == .handover && s.classOf w.addr == .mirror

/-- A hold applies to a write (R7). -/
def State.holds (s : State) (w : WriteReq) : Bool := s.throttleHolds w || s.overlayHolds w || s.handoverHolds w

/-- The overlay absorbs a write: in FREEZE every write to a MIRROR region, in REPLAY a write whose address has an entry (R8). -/
def State.absorbs (s : State) (w : WriteReq) : Bool :=
  s.inFeed && ((s.session.state == .freeze && s.classOf w.addr == .mirror)
    || (s.session.state == .replay && (s.freeze.find w.addr).isSome))

/-- A write is admitted: w counts it while a pass runs and its segment is tracked, and the throttle records its tick in a feed session
(R4, R113, R123). -/
def State.admitWrite (w : WriteReq) (s : State) : State :=
  if s.inFeed && (s.classOf w.addr).tracked then
    { s with review := { s.review with
        w := if s.passRunning then satAdd Config.top32 s.review.w 1 else s.review.w
        lastAdmitted := some s.chassis.tick } }
  else s

/-- A write becomes the maintenance stream's candidate (R4). -/
def State.writeCandidate (w : WriteReq) (s : State) : State := { s with path := { s.path with maint := .write w } }

/-- The examination of a taken WRITE, from the first test (R4, R5, R6, R7, R8); while RESET_N is low there is none (R18). -/
def State.examineWrite (w : WriteReq) (s : State) : State :=
  if !s.live || w.mask == 0 then s.writeCandidate w
  else if s.blocked w.addr then
    { s with path := { s.path with maint := .empty, blocked := satAdd Config.top32 s.path.blocked 1 } }
  else if s.holds w then { s with path := { s.path with maint := .held w } }
  else if s.absorbs w then
    let s := s.admitWrite w
    { s with path := { s.path with maint := .empty }, freeze := s.freeze.capture w }
  else (s.admitWrite w).writeCandidate w

/-- A held write is examined again when a block has reported that its hold may have ended (R7). -/
def State.examineHeld (s : State) : State :=
  if s.signals.reexamine then
    match s.path.maint with
    | .held w => s.examineWrite w
    | _ => s
  else s

/-- The bytes of the overlay entry for an address as it stands, none covered where there is none (R9). -/
def State.overlayBytes (s : State) (a : Addr) : Mask × Word :=
  match s.freeze.find a with
  | some e => (e.mask, e.data)
  | none => (0, 0)

/-- The answer of a read that went to memory: the overlay's bytes of its grant over memory's word, or FAULT (R3, R9). -/
def upstreamResult (mask : Mask) (bytes : Word) (status : Status) (data : Word) : ReadResult :=
  match status with
  | .ok => { status := .ok, data := mergeBytes mask bytes data }
  | .fault => .faulted

/-- The oldest read of a stream that waits for memory has its response fixed (R3). -/
def fixOldest (r : ReadResult) : List PendingRead → List PendingRead
  | .waiting :: rest => .answered r :: rest
  | .answered a :: rest => .answered a :: fixOldest r rest
  | [] => []

/-- A memory response for an upstream read completes it (R3, R9, R12). -/
def State.upstreamResponse (st : Stream) (r : ReadResult) (s : State) : State :=
  ({ s with path := s.path.setReads st (fixOldest r (s.path.reads st)) } : State).returnAnswers st

end Sys2Proof.Machine
end

