-- ==== Sys2Proof/Machine/Walker.lean ====
section
/-! DEFINITION. The sweep walker and its staging buffers (chapter 3). -/

namespace Sys2Proof.Machine

open Sys2Proof

/-- The walker's mode (R42). -/
inductive WalkMode where
  | stopped
  | pass
  | drain
  deriving DecidableEq, Repr

/-- The walker's mode follows the feed's session state (R43). -/
def State.walkMode (s : State) : WalkMode :=
  if s.inFeed then
    match s.session.state with
    | .sweep => .pass
    | .catchup => .pass
    | .freeze => .drain
    | .steady => .drain
    | .handover => .drain
    | _ => .stopped
  else .stopped

/-- A segment in this state is to be copied: DIRTY in every mode, UNSENT in SWEEP (R43, R45, R46). -/
def State.toCopy (s : State) (st : SegState) : Bool :=
  st == .dirty || (st == .unsent && s.session.state == .sweep)

/-- The cursor after a place: the next one; after the last, END in PASS and the first in DRAIN (R45, R46). -/
def nextPlace (mode : WalkMode) (count i : Nat) : Option Nat :=
  if i + 1 < count then some (i + 1) else if mode = .drain then some 0 else none

/-- A staging buffer as it is taken (R48). -/
def Buffer.start (n : Segment) (use : Nat) : Buffer :=
  { segment := n, use := use, nextRead := 0, responses := 0, faultSeen := false,
    words := Vector.replicate 64 { granted := false, arrived := false, data := 0, patch := 0 }, waiting := false }

/-- A buffer is FREE (R42). -/
def Walker.hasFree (w : Walker) : Bool := w.buf0.isNone || w.buf1.isNone

/-- Buffer 0 is taken if it is FREE, else buffer 1 (R48). -/
def Walker.put (w : Walker) (b : Buffer) : Walker :=
  if w.buf0.isNone then { w with buf0 := some b } else { w with buf1 := some b }

/-- The segment at place `i` of the walk order. -/
def State.placeSegment (s : State) (i : Nat) : Option Segment := (walkOrder s.regions)[i]?

/-- The walker takes a free buffer for the segment at the cursor, and the cursor moves on (R35, R45, R48). -/
def State.takeBuffer (n : Segment) (i : Nat) (s : State) : State :=
  let use := s.walker.nextUse
  let w := s.walker.put (Buffer.start n use)
  let next := nextPlace s.walkMode (walkOrder s.regions).length i
  ({ s with walker := { w with cursor := next, nextUse := use + 1 } } : State).changeSeg n toOpen

/-- The segment may be taken now: it is to be copied, holds no FLUSHING entry, and a buffer is FREE (R45, R141). -/
def State.canTake (s : State) (n : Segment) : Bool :=
  s.toCopy (s.map.get n) && !s.freeze.flushingIn n && s.walker.hasFree

/-- The walker works at all: it is not STOPPED, and in DRAIN a segment is DIRTY (R43, R46). -/
def State.walking (s : State) : Bool :=
  match s.walkMode with
  | .stopped => false
  | .pass => true
  | .drain => s.dirtyCount != 0

/-- The walker considers the segment at its cursor: it takes a buffer for it, waits at it, or passes it by (R45, R46, R141). -/
def State.walkStep (s : State) : State :=
  if s.walking then
    match s.walker.cursor with
    | none => s
    | some i =>
      match s.placeSegment i with
      | none => s
      | some n =>
        if s.toCopy (s.map.get n) then (if s.canTake n then s.takeBuffer n i else s)
        else { s with walker := { s.walker with cursor := nextPlace s.walkMode (walkOrder s.regions).length i } }
  else s

/-- A buffer has become FREE: the walker takes it at once for a segment its cursor waits at (R45, R54). -/
def State.takeIfWaiting (s : State) : State :=
  if s.walking then
    match s.walker.cursor with
    | none => s
    | some i =>
      match s.placeSegment i with
      | none => s
      | some n => if s.canTake n then s.takeBuffer n i else s
  else s

/-- Buffer 1 when `second`, else buffer 0. -/
def Walker.buf (w : Walker) (second : Bool) : Option Buffer := if second then w.buf1 else w.buf0

/-- Replace a buffer. -/
def Walker.setBuf (w : Walker) (second : Bool) (b : Option Buffer) : Walker :=
  if second then { w with buf1 := b } else { w with buf0 := b }

/-- The buffer has reads still to offer (R49). -/
def readsLeft (b : Option Buffer) : Bool :=
  match b with
  | none => false
  | some b => !b.waiting && b.nextRead < 64

/-- The buffer whose read the walker offers: the one taken first among those with reads left (R49). -/
def Walker.offering (w : Walker) : Option Bool :=
  match readsLeft w.buf0, readsLeft w.buf1 with
  | false, false => none
  | true, false => some false
  | false, true => some true
  | true, true => some (decide ((w.buf1.map Buffer.use).getD 0 < (w.buf0.map Buffer.use).getD 0))

/-- Apply `f` to word place `i` of a buffer. -/
def Buffer.modifyWord (b : Buffer) (i : Nat) (f : StageWord → StageWord) : Buffer :=
  { b with words := b.words.mapIdx fun j x => if j = i then f x else x }

/-- A staging read has been granted (R49). -/
def Buffer.grantRead (b : Buffer) : Buffer :=
  { b.modifyWord b.nextRead (fun x => { x with granted := true }) with nextRead := b.nextRead + 1 }

/-- A granted write meets the word it addresses (R51). -/
def StageWord.patchWrite (w : WriteReq) (x : StageWord) : StageWord :=
  if x.arrived then { x with data := mergeBytes w.mask w.data x.data }
  else if x.granted then { x with data := mergeBytes w.mask w.data x.data, patch := x.patch ||| w.mask }
  else x

/-- A granted write patches a buffer that holds its segment (R51). -/
def patchBuffer (w : WriteReq) (b : Option Buffer) : Option Buffer :=
  b.map fun b =>
    if b.segment = segmentOf w.addr then b.modifyWord (w.addr.toNat % 64) (StageWord.patchWrite w) else b

/-- A granted write reaches the staging buffers (R51). -/
def State.patchStaging (w : WriteReq) (s : State) : State :=
  { s with walker := { s.walker with buf0 := patchBuffer w s.walker.buf0, buf1 := patchBuffer w s.walker.buf1 } }

/-- A response reaches its word: the response's data with the bytes written since the read's grant (R52). -/
def StageWord.respond (status : Status) (data : Word) (x : StageWord) : StageWord :=
  match status with
  | .ok => { x with arrived := true, data := mergeBytes x.patch x.data data, patch := 0 }
  | .fault => { x with arrived := true }

/-- A buffer after a staging response (R52). -/
def Buffer.respond (b : Buffer) (i : Nat) (status : Status) (data : Word) : Buffer :=
  { b.modifyWord i (StageWord.respond status data) with
    responses := b.responses + 1, faultSeen := b.faultSeen || status == .fault }

/-- A segment has a source fault: SRCFAULT, the buffer FREE, the fault list entry, SOURCE_FAULT, a report (R55). -/
def State.sourceFault (second : Bool) (n : Segment) (s : State) : State :=
  let s := s.changeSeg n openToSrcFault
  let s := { s with walker := s.walker.setBuf second none }
  ((s.enterFault n .source).recordFault .sourceFault).takeIfWaiting

/-- A staging response arrives; one whose tag no longer matches is discarded (R52, R53, R55). -/
def State.stagingResponse (second : Bool) (i use : Nat) (status : Status) (data : Word) (s : State) : State :=
  match s.walker.buf second with
  | none => s
  | some b =>
    if b.use = use then
      let b := b.respond i status data
      if b.responses < 64 then { s with walker := s.walker.setBuf second (some b) }
      else if b.faultSeen then s.sourceFault second b.segment
      else { s with walker := s.walker.setBuf second (some { b with waiting := true }) }
    else s

/-- A buffer is WAITING (R48). -/
def isWaiting (b : Option Buffer) : Bool := (b.map Buffer.waiting).getD false

/-- The WAITING buffer that offers its frame first: the one that became WAITING first, which is the one taken first (R53; log 21). -/
def Walker.firstWaiting (w : Walker) : Option Bool :=
  match isWaiting w.buf0, isWaiting w.buf1 with
  | false, false => none
  | true, false => some false
  | false, true => some true
  | true, true => some (decide ((w.buf1.map Buffer.use).getD 0 < (w.buf0.map Buffer.use).getD 0))

/-- The SEG frame a buffer's words make (R54). -/
def Buffer.frame (b : Buffer) : SeqFrame := .seg (BitVec.ofNat 18 b.segment) (b.words.map StageWord.data)

/-- The send queue takes a WAITING buffer's frame: the segment INFLIGHT, the buffer FREE, and the walker may take it at once (R54). A
waiting state frame is taken before it (R53, R76). -/
def State.queueSeg (s : State) : State :=
  if s.inFeed && s.feed.hasPlace && !s.session.stalePending && !s.feed.instepWaiting then
    match s.walker.firstWaiting with
    | none => s
    | some second =>
      match s.walker.buf second with
      | none => s
      | some b =>
        let s := (s.enqueue b.frame).changeSeg b.segment openToInflight
        ({ s with walker := s.walker.setBuf second none } : State).takeIfWaiting
  else s

end Sys2Proof.Machine
end

