-- ==== Sys2Proof/Machine/Apply.lean ====
section
/-! DEFINITION. The take's apply unit and fill unit: rounds of writes and verify reads, the frames' applies, the fills (chapter 5). -/

namespace Sys2Proof.Machine

open Sys2Proof

/-! ### Rounds -/

/-- A run of rounds over `items`, at round 0 (R94, R97, R105). -/
def VerifyJob.start (use limit : Nat) (items : List VerifyItem) : VerifyJob :=
  { use := use, limit := limit, round := 0, writes := items, reads := items, awaiting := [], bad := [] }

/-- The request the run offers: its next write, and after the last write's grant its next verify read (R94). -/
def VerifyJob.offer (j : VerifyJob) : Option MemRequest :=
  match j.writes with
  | i :: _ => some (.write i.addr i.data i.mask)
  | [] =>
    match j.reads with
    | i :: _ => some (.read i.addr)
    | [] => none

/-- The run after the grant of what it offers (R94). -/
def VerifyJob.granted (j : VerifyJob) : VerifyJob :=
  match j.writes with
  | _ :: ws => { j with writes := ws }
  | [] =>
    match j.reads with
    | i :: rs => { j with reads := rs, awaiting := j.awaiting ++ [i] }
    | [] => j

/-- A verify response is a mismatch: FAULT, or a covered byte that differs (R94, R97). -/
def mismatch (i : VerifyItem) (status : Status) (data : Word) : Bool :=
  status == .fault || keepBytes i.mask data != keepBytes i.mask i.data

/-- The run after a verify response, compared when it arrives (R94). -/
def VerifyJob.respond (j : VerifyJob) (status : Status) (data : Word) : VerifyJob :=
  match j.awaiting with
  | [] => j
  | i :: rest => { j with awaiting := rest, bad := if mismatch i status data then j.bad ++ [i] else j.bad }

/-- What the end of a round leads to (R95, R96). -/
inductive RoundEnd where
  | running (j : VerifyJob)
  | verified
  | exhausted
  deriving DecidableEq, Repr

/-- The round goes on, or ends: verified, exhausted, or a rewrite round over its mismatched words (R94, R95, R96). -/
def VerifyJob.next (j : VerifyJob) : RoundEnd :=
  if j.writes.isEmpty && j.reads.isEmpty && j.awaiting.isEmpty then
    if j.bad.isEmpty then .verified
    else if j.round < j.limit then .running { j with round := j.round + 1, writes := j.bad, reads := j.bad, bad := [] }
    else .exhausted
  else .running j

/-! ### Apply -/

/-- The 64 words of a segment with full masks (R94). -/
def segmentItems (n : Segment) (word : Nat → Word) : List VerifyItem :=
  (List.range 64).map fun i => { addr := wordAddr n i, data := word i, mask := fullMask }

/-- An apply completes: the slot is freed, the ack sequence and freed total advance, and an ACK is due (R92). -/
def State.completeHead (s : State) : State :=
  match s.take.buffer with
  | [] => s
  | (q, _) :: rest =>
    { s with
      take := { s.take with buffer := rest, ackSeq := some q, freed := s.take.freed + 1, apply := none }
      link := { s.link with ackDue := true } }

/-- Work begins on the next record of a MIR frame that needs memory; records before it that need none end at once, and one outside the
installed table's MIRROR segments as failed (R20, R97, R98). With no record left there is no work. -/
def State.beginRecords (limit : Nat) : List MirrorRecord → State → State
  | [], s => { s with take := { s.take with apply := none } }
  | r :: rs, s =>
    if r.mask = 0 then State.beginRecords limit rs s
    else if s.installedClass (segmentOf r.addr) = .mirror then
      let use := s.walker.nextUse
      let job := VerifyJob.start use limit [{ addr := r.addr, data := r.data, mask := r.mask }]
      let work : ApplyWork := { kind := .mir, segment := segmentOf r.addr, job := job, rest := rs, limit := limit }
      { s.takeUse with take := { s.take with apply := some work } }
    else State.beginRecords limit rs (s.verifyFailed (segmentOf r.addr) .verify)

/-- Work begins on a SEG frame whose segment is MIRROR or SNAPSHOT in the installed table; any other fails at once, each one where no layout
is installed (R20, R93). -/
def State.beginSeg (n : Segment) (words : Vector Word 64) (s : State) : State :=
  if (s.installedClass n).tracked then
    let use := s.walker.nextUse
    let job := VerifyJob.start use s.settings.retry (segmentItems n fun i => (words.toList[i]?).getD 0)
    let work : ApplyWork := { kind := .seg, segment := n, job := job, rest := [], limit := s.settings.retry }
    { s.takeUse with take := { s.take with apply := some work } }
  else s.verifyFailed n .verify

/-- A frame that reaches the head while the take is FINAL makes no memory access; what it should have written counts as failed (R100). -/
def State.failInFinal (f : SeqFrame) (s : State) : State :=
  match f with
  | .seg n _ => s.verifyFailed n.toNat .verify
  | .mir rs => rs.foldl (fun s r => s.verifyFailed (segmentOf r.addr) .verify) s
  | .instep => s
  | .stale => s
  | .handover => s

/-- The apply of the head frame begins in RECEIVING or SYNCED (R91, R93, R97, R99). -/
def State.beginFrame (f : SeqFrame) (s : State) : State :=
  match f with
  | .seg n ws => s.beginSeg n.toNat ws
  | .mir rs => s.beginRecords s.settings.retry rs
  | .instep => (s.setState .synced).raise .step
  | .stale => (s.setState .receiving).raise .step
  | .handover => s.setState .final

/-- The take's session is in RECEIVING or SYNCED (R91). -/
def State.applying (s : State) : Bool := s.inTake && (s.session.state == .receiving || s.session.state == .synced)

/-- The apply unit begins on the head frame when it has no apply under way; a frame that needs no memory completes at once and the next
one begins in the same event (R91, R92, R99, R100). `n` bounds the frames begun in one event. -/
def State.beginApply : Nat → State → State
  | 0, s => s
  | n + 1, s =>
    if s.take.apply.isSome then s
    else
      match s.take.buffer with
      | [] => s
      | (_, f) :: _ =>
        if s.applying then
          let s := s.beginFrame f
          if s.take.apply.isSome then s else State.beginApply n s.completeHead
        else if s.inTake && s.session.state == .final then State.beginApply n (s.failInFinal f).completeHead
        else s

/-- The apply unit goes on with the receive buffer as it stands. -/
def State.applyOn (s : State) : State := s.beginApply (s.take.buffer.length + 1)

/-- The outcome of the word or record under apply is recorded (R96, R98). -/
def State.applyOutcome (a : ApplyWork) (ok : Bool) (s : State) : State :=
  if ok then (match a.kind with | .seg => s.verified a.segment | _ => s) else s.verifyFailed a.segment .verify

/-- A SEG apply or a MIR record ends: the next record begins, or the frame completes and the next frame begins (R92, R96, R98). -/
def State.endApply (a : ApplyWork) (ok : Bool) (s : State) : State :=
  let s := (s.applyOutcome a ok).beginRecords a.limit a.rest
  if s.take.apply.isSome then s else s.completeHead.applyOn

/-- A verify response for the apply under way; one for a dropped apply is discarded (R12, R94, R95, R101). -/
def State.applyResponse (use : Nat) (status : Status) (data : Word) (s : State) : State :=
  match s.take.apply with
  | none => s
  | some a =>
    if s.applying && a.job.use == use then
      match (a.job.respond status data).next with
      | .running j => { s with take := { s.take with apply := some { a with job := j } } }
      | .verified => s.endApply a true
      | .exhausted => s.endApply a false
    else s

/-! ### Fill -/

/-- The fill word of a segment: its entry's (R105). -/
def fillWordOf (rs : Vector Region 16) (n : Segment) : Word := ((entryOf rs n).map Region.fill).getD 0

/-- The fills are finished: READY is due, numbering starts, RECEIVING (R106). -/
def State.fillsFinished (s : State) : State :=
  let s := { s with take := { s.take with fill := none }, link := { s.link with readyDue := s.link.readyDue + 1 } }
  (s.startNumberingTake).setState .receiving

/-- The fill segment at a place of the fill order begins, or the fills are finished when there is none (R104, R105, R106). -/
def State.fillFrom (place : Nat) (s : State) : State :=
  match (fillOrder s.regions)[place]? with
  | none => s.fillsFinished
  | some n =>
    let use := s.walker.nextUse
    let job := VerifyJob.start use s.settings.retry (segmentItems n fun _ => fillWordOf s.regions n)
    { s.takeUse with take := { s.take with fill := some { place := place, segment := n, job := job } } }

/-- The take's session is in INSTALL, where the fill unit works (R104). -/
def State.filling (s : State) : Bool := s.inTake && s.session.state == .install

/-- A fill segment reaches its outcome and the next one is taken (R105). -/
def State.endFill (f : FillWork) (ok : Bool) (s : State) : State :=
  (if ok then s.verified f.segment else s.verifyFailed f.segment .fill).fillFrom (f.place + 1)

/-- A verify response for the fill segment under way; one for a dropped fill is discarded (R12, R105, R107). -/
def State.fillResponse (use : Nat) (status : Status) (data : Word) (s : State) : State :=
  match s.take.fill with
  | none => s
  | some f =>
    if s.filling && f.job.use == use then
      match (f.job.respond status data).next with
      | .running j => { s with take := { s.take with fill := some { f with job := j } } }
      | .verified => s.endFill f true
      | .exhausted => s.endFill f false
    else s

/-- Writing for the link or a fill is permitted: TAKE_EN is asserted and the lockout clear (R91). -/
def State.writePermitted (s : State) : Bool := s.chassis.takeEn && !s.session.lockout

/-- What the interrupted-apply record becomes as RESET_N falls (R111). -/
def Take.interruptedAtReset (t : Take) : Option (WorkKind × Segment) :=
  match t.apply with
  | some a => some (a.kind, a.segment)
  | none =>
    match t.fill with
    | some f => some (.fill, f.segment)
    | none => t.interrupted

end Sys2Proof.Machine
end

