-- ==== Sys2Proof/Machine/Review.lean ====
section
/-! DEFINITION. The convergence review: its arithmetic, its decision, and how the decision is acted on (R114 to R121). -/

namespace Sys2Proof.Machine

open Sys2Proof

/-- Division rounded up. -/
def ceilDiv (a b : Nat) : Nat := (a + b - 1) / b

/-- seg_time, the measured time to copy one segment (R116). -/
def segTime (t c : Nat) : Nat := if c = 0 then 65535 else if t = 0 then 1 else max 1 (min 65535 (ceilDiv t c))

/-- drain: D segments at seg_time each, saturating (R116). -/
def drainOf (d st : Nat) : Nat := min Config.top32 (d * st)

/-- budget: B in pace ticks (R116). -/
def budgetOf (b : Nat) : Nat := b * 10

/-- rate, in 1/256 of a write per tick (R117). -/
def rateOf (t w : Nat) : Nat := if t = 0 then 0 else min 65535 (w * 256 / t)

/-- predicted: the tracked writes expected during the drain, saturating (R117). -/
def predictedOf (rate drain : Nat) : Nat := min Config.top32 (ceilDiv (rate * drain) 256)

/-- The drain fits (R118). -/
def fits (drain budget predicted : Nat) : Bool := drain ≤ budget && predicted ≤ Config.predictedLimit

/-- The decision of a review (R119). -/
def decideReview (d : Nat) (noneOpen : Bool) (fit handover : Bool) (pass limit : Nat) (policy : Policy) : Decision :=
  if d = 0 ∧ noneOpen then .steady
  else if fit then .fit
  else if handover then .forcedHandover
  else if limit ≤ pass then (match policy with | .force => .forcedLimit | .abandon => .abandon)
  else .nextPass

/-- The record of a review of the pass just ended (R114, R116 to R119, R121). -/
def State.reviewRecord (s : State) : ReviewRecord :=
  let d := s.dirtyCount
  let st := segTime s.review.t s.review.c
  let drain := drainOf d st
  let rate := rateOf s.review.t s.review.w
  let predicted := predictedOf rate drain
  let noneOpen := s.unsentCount == 0 && s.openCount == 0
  { passNumber := s.review.passNumber, t := s.review.t, c := s.review.c, w := s.review.w, d := d, segTime := st, drain := drain,
    rate := rate, predicted := predicted,
    decision := decideReview d noneOpen (fits drain (budgetOf s.settings.budget) predicted) s.session.handoverPending
      s.review.passNumber s.settings.passLimit s.settings.policy }

/-- A pass is at its end: the cursor at END, both buffers FREE, the send queue and window empty (R47). -/
def State.passAtEnd (s : State) : Bool :=
  s.walkMode == .pass && s.walker.cursor.isNone && s.walker.buf0.isNone && s.walker.buf1.isNone && s.feed.queue.isEmpty
    && s.feed.window.isEmpty

/-- NEXT_PASS raises the throttle: it is on, there was a review before, D has not fallen, and the level is below 3 (R120). -/
def State.raisesThrottle (s : State) (d : Nat) : Bool :=
  s.settings.throttleOn && (match s.review.dPrev with | none => false | some p => decide (p ≤ d)) && decide (s.review.throttle < 3)

/-- The review's decision is handed to the session controller (R120). -/
def State.actOnReview (dec : Decision) (s : State) : State :=
  match dec with
  | .steady =>
    let s := s.enterSteady.tryInstep
    if s.session.handoverPending then s.enterHandover else s
  | .fit => s.enterFreeze
  | .forcedHandover => s.enterFreeze
  | .forcedLimit => s.enterFreeze
  | .abandon => (s.recordFault .convergeFail).endFeed (some .faulted)
  | .nextPass => (s.setState .catchup).startPass (satAdd 255 s.review.passNumber 1)
  | .none => s

/-- The review: its record, D_prev, the throttle for NEXT_PASS, the decision, the REVIEW notice (R120). -/
def State.runReview (s : State) : State :=
  let r := s.reviewRecord
  let raise := r.decision == .nextPass && s.raisesThrottle r.d
  let s := { s with review := { s.review with dPrev := some r.d, record := r } }
  let s := if raise then s.setThrottle (s.review.throttle + 1) else s
  (s.actOnReview r.decision).raise .review

end Sys2Proof.Machine
end

