-- ==== Sys2Proof/Machine/Reports.lean ====
section
/-! DEFINITION. The report block: codes, words, and the report writer (R177 to R182, R185, R187). -/

namespace Sys2Proof.Machine

open Sys2Proof

/-! ### Codes (R185) -/

/-- Session state codes. -/
def stateCode : SessState → Nat
  | .idle => 0
  | .bringup => 1
  | .install => 2
  | .sweep => 3
  | .catchup => 4
  | .freeze => 5
  | .replay => 6
  | .steady => 7
  | .suspended => 8
  | .handover => 9
  | .receiving => 10
  | .synced => 11
  | .final => 12
  | .held => 13
  | .detached => 14

/-- Peer take state code; NONE is 255. -/
def peerStateCode (p : Option SessState) : Nat := (p.map stateCode).getD 255

/-- Role codes. -/
def Role.code : Role → Nat
  | .none => 0
  | .feed => 1
  | .take => 2

/-- Link state codes. -/
def LinkState.code : LinkState → Nat
  | .off => 0
  | .training => 1
  | .up => 2

/-- Last reset codes. -/
def ResetKind.code : ResetKind → Nat
  | .cold => 0
  | .warm => 1

/-- GREET kind codes. -/
def greetKindCode : GreetKind → Nat
  | .fresh => 0
  | .resume => 1

/-- Verdict codes. -/
def verdictCode : Verdict → Nat
  | .new => 1
  | .resumed => 2
  | .refused => 3

/-- Refusal reason codes. -/
def reasonCode : Reason → Nat
  | .none => 0
  | .noSession => 1
  | .mismatch => 2

/-- Outcome codes. -/
def DirOutcome.code : DirOutcome → Nat
  | .none => 0
  | .done => 1
  | .refusedState => 2
  | .refusedValue => 3
  | .refusedEnable => 4
  | .unknownKind => 5

/-- Fault list cause codes. -/
def Cause.code : Cause → Nat
  | .source => 1
  | .verify => 2
  | .fill => 3

/-- Decision codes. -/
def Decision.code : Decision → Nat
  | .none => 0
  | .steady => 1
  | .fit => 2
  | .forcedHandover => 3
  | .forcedLimit => 4
  | .abandon => 5
  | .nextPass => 6

/-- Interrupted-apply kind codes. -/
def WorkKind.code : WorkKind → Nat
  | .seg => 1
  | .mir => 2
  | .fill => 3

/-- A flag as bit `i` of a byte. -/
def flagBit (b : Bool) (i : Nat) : Nat := if b then 2 ^ i else 0

/-! ### Words (R187) -/

/-- Word 1: last reset, role, session state, flags, session id, link. -/
def State.word1 (s : State) : Word :=
  let n := s.session
  packWord [(0, 1, s.report.lastReset.code), (1, 1, n.role.code), (2, 1, stateCode n.state),
    (3, 1, flagBit n.handoverPending 0 + flagBit n.stalePending 1 + flagBit (n.retiredStep == .instep) 2
      + flagBit (n.resumeKind == .resume) 3 + flagBit n.layoutInstalled 4 + flagBit n.lockout 5 + flagBit s.link.confirmed 6),
    (4, 2, n.id.toNat), (6, 1, s.link.state.code), (7, 1, s.link.lanes)]

/-- Word 2: greeted, session size class. -/
def State.word2 (s : State) : Word :=
  match s.session.greeted with
  | none => packWord [(6, 1, s.session.sizeClass.toNat)]
  | some g =>
    packWord [(0, 2, g.session.toNat), (2, 1, greetKindCode g.kind), (3, 1, g.size.toNat), (4, 1, verdictCode g.verdict),
      (5, 1, reasonCode g.reason), (6, 1, s.session.sizeClass.toNat)]

/-- Word 6: pass number, throttle, occupancies, credits. -/
def State.word6 (s : State) : Word :=
  packWord [(0, 1, s.review.passNumber), (1, 1, s.review.throttle), (2, 2, s.freeze.entries.length),
    (4, 1, s.feed.queue.length), (5, 1, s.feed.window.length), (6, 1, s.feed.credits), (7, 1, s.take.buffer.length)]

/-- Word 11: peer figures, ack sequence, freed total. With the ack sequence NONE its two bytes are written 0, which R187 leaves open (DESIGN
CHOICE, unsafe, log 47). -/
def State.word11 (s : State) : Word :=
  packWord [(0, 2, s.feed.peerFail), (2, 1, peerStateCode s.feed.peerState), (3, 1, if s.take.ackSeq.isSome then 1 else 0),
    (4, 2, (s.take.ackSeq.map BitVec.toNat).getD 0), (6, 1, s.take.freed.toNat)]

/-- The rewinds field: the take's count in the take role, else the feed's (R181). -/
def State.rewinds (s : State) : Nat := if s.session.role = .take then s.take.rewinds else s.feed.rewinds

/-- One fault list place: segment in bits 0 to 17, cause in the highest byte, 0 beyond the list (R187). -/
def faultPlace (l : List (Segment × Cause)) (i : Nat) : Nat :=
  match l[i]? with
  | none => 0
  | some (n, c) => n % 2 ^ 18 + c.code * 2 ^ 24

/-- Word 15: fault summary, interrupted apply. With the record EMPTY the segment number's bytes are written 0, which R187 leaves open (DESIGN
CHOICE, unsafe, log 47). -/
def State.word15 (s : State) : Word :=
  match s.take.interrupted with
  | none => packWord [(0, 2, s.faults.summary.toNat)]
  | some (k, n) => packWord [(0, 2, s.faults.summary.toNat), (2, 1, k.code), (4, 4, n)]

/-- Word 24: last directive, expected number, notices, lines. -/
def State.word24 (s : State) : Word :=
  packWord [(0, 1, s.directive.last.number.toNat), (1, 1, s.directive.last.code.toNat), (2, 1, s.directive.last.outcome.code),
    (3, 1, s.directive.expected.toNat), (4, 1, s.notices.pendingSet), (5, 1, s.notices.enable.toNat),
    (6, 1, flagBit s.chassis.peerRaw 0 + flagBit s.chassis.peerFiltered 1 + flagBit s.chassis.eject 2
      + flagBit s.chassis.takeEn 3)]

/-- Words 28 and 29: the configuration in force in the layout of SETUP words 1 and 2. -/
def Settings.words (c : Settings) : Word × Word :=
  (packWord [(0, 1, c.walk.toNat), (1, 1, c.fill.toNat), (2, 1, c.apply.toNat), (3, 1, c.replay.toNat), (4, 1, c.report.toNat),
     (5, 1, c.yieldCount), (6, 1, c.retry), (7, 1, c.passLimit)],
   packWord [(0, 2, c.budget), (2, 1, flagBit c.throttleOn 0), (3, 1, flagBit (c.policy == .abandon) 0), (4, 1, c.silence),
     (5, 1, c.bringup), (6, 1, c.hold), (7, 1, c.filter)])

/-- A region entry's word among 32 to 47. -/
def Region.word (r : Region) : Word :=
  packWord [(0, 3, r.base.toNat), (3, 3, r.length.toNat), (6, 1, (codeOfClass r.cls).toNat), (7, 1, r.order.toNat)]

/-- The 256 words of a report as the state stands (R181, R187). -/
def State.reportWords (s : State) : List Word :=
  let r := s.review.record
  let m := s.map
  let gen := packWord [(0, 4, s.report.generation)]
  [gen, s.word1, s.word2,
   packWord [(0, 4, m.count .unsent), (4, 4, m.count .opened)],
   packWord [(0, 4, m.count .inflight), (4, 4, m.count .clean)],
   packWord [(0, 4, m.count .dirty), (4, 4, m.count .srcFault)],
   s.word6,
   packWord [(0, 4, r.t), (4, 4, r.c)],
   packWord [(0, 4, r.w), (4, 4, r.d)],
   packWord [(0, 4, r.drain), (4, 4, r.predicted)],
   packWord [(0, 2, r.segTime), (2, 2, r.rate), (4, 1, r.passNumber), (5, 1, r.decision.code)],
   s.word11,
   packWord [(0, 2, s.take.failTotal), (2, 2, s.rewinds), (4, 2, s.link.discarded), (6, 2, s.directive.stray)],
   packWord [(0, 4, m.overflow), (4, 4, m.drift)],
   packWord [(0, 4, s.path.blocked), (4, 2, s.faults.overflow), (6, 1, (s.faults.first.map SessFault.code).getD 0),
     (7, 1, s.faults.list.length)],
   s.word15] ++
  ((List.range 8).map fun k => packWord [(0, 4, faultPlace s.faults.list (2 * k)), (4, 4, faultPlace s.faults.list (2 * k + 1))]) ++
  [s.word24,
   packWord [(0, 4, s.notices.directive.mark), (4, 4, s.notices.state.mark)],
   packWord [(0, 4, s.notices.review.mark), (4, 4, s.notices.fault.mark)],
   packWord [(0, 4, s.notices.line.mark), (4, 4, s.notices.step.mark)],
   s.settings.words.1, s.settings.words.2, 0, 0] ++
  (s.regions.toList.map Region.word) ++ (s.regions.toList.map Region.fill) ++ List.replicate 191 0 ++ [gen]

/-! ### The writer -/

/-- A report starts: the generation rises and the snapshot is taken (R178). -/
def State.startReport (s : State) : State :=
  let s := { s with report :=
    { s.report with generation := nextGeneration s.report.generation, writing := true, nextWord := 0, again := false } }
  { s with report := { s.report with snapshot := s.reportWords } }

/-- The report requested in this command starts, or sets `again` while one is being written (R178, R179). -/
def State.serveReport (s : State) : State :=
  if s.signals.report then
    if s.report.writing then { s with report := { s.report with again := true } } else s.startReport
  else s

/-- The word the writer offers (R178). -/
def State.reportOffer (s : State) : Option MemRequest :=
  if s.report.writing ∧ s.report.nextWord < Config.reportLength then
    some (.write (reportAddr s.chassis.msize s.report.nextWord) ((s.report.snapshot[s.report.nextWord]?).getD 0) fullMask)
  else none

/-- The grant of a report word: the next is offered; at word 255 the report is complete, and a further one is requested if `again` (R178). -/
def State.grantReport (s : State) : State :=
  if s.report.nextWord + 1 < Config.reportLength then { s with report := { s.report with nextWord := s.report.nextWord + 1 } }
  else
    let again := s.report.again
    let s := { s with report := { s.report with writing := false, nextWord := Config.reportLength, again := false } }
    if again then s.requestReport else s

end Sys2Proof.Machine
end

