-- ==== Sys2Proof/Machine/Frames.lean ====
section
/-! DEFINITION. The frames of the mate link as bytes: the frame check, the layout of each kind, and the command an arriving run of bytes
makes (R61 to R63, R185, R188). -/

namespace Sys2Proof.Machine

open Sys2Proof

/-! ### Numbers as bytes -/

/-- A number as `n` bytes, least significant first (R188). -/
def leBytes : Nat → Nat → List Byte
  | 0, _ => []
  | n + 1, v => BitVec.ofNat 8 v :: leBytes n (v / 256)

/-- The number that bytes spell, least significant first (R188). -/
def leNat : List Byte → Nat
  | [] => 0
  | b :: bs => b.toNat + 256 * leNat bs

/-! ### The frame check (R188) -/

/-- The generator polynomial of the frame check. -/
def crcPoly : BitVec 32 := 0x04C11DB7

/-- One bit enters the register. -/
def crcBit (r : BitVec 32) (b : Bool) : BitVec 32 := if r.msb != b then (r <<< 1) ^^^ crcPoly else r <<< 1

/-- One byte enters the register, least significant bit first. -/
def crcByte (r : BitVec 32) (b : Byte) : BitVec 32 := (List.range 8).foldl (fun r i => crcBit r (b.getLsbD i)) r

/-- A register in reflected bit order. -/
def reflect32 (r : BitVec 32) : BitVec 32 :=
  (List.range 32).foldl (fun acc i => if r.getLsbD i then acc ||| ((1 : BitVec 32) <<< (31 - i)) else acc) 0

/-- The frame check of the bytes before it: from all ones, reflected and complemented. -/
def crc32 (bytes : List Byte) : BitVec 32 := ~~~ reflect32 (bytes.foldl crcByte 0xFFFFFFFF)

/-- The frame of a body: its bytes and the check, least significant byte first. -/
def withCheck (body : List Byte) : List Byte := body ++ leBytes 4 (crc32 body).toNat

/-- The body of a run of bytes whose frame check matches (R63). -/
def checkedBody (bytes : List Byte) : Option (List Byte) :=
  let body := bytes.take (bytes.length - 4)
  if 4 ≤ bytes.length ∧ bytes.drop (bytes.length - 4) = leBytes 4 (crc32 body).toNat then some body else none

/-! ### Codes that only frames use (R185) -/

/-- Role codes of TRAIN. -/
def linkRoleCode : LinkRole → Nat
  | .feed => 1
  | .take => 2

/-- The role a TRAIN byte names. -/
def linkRoleOf (b : Byte) : Option LinkRole :=
  match b.toNat with
  | 1 => some .feed
  | 2 => some .take
  | _ => none

/-- CLOSE reason codes. -/
def closeCode : CloseReason → Nat
  | .complete => 1
  | .incomplete => 2
  | .released => 3
  | .aborted => 4
  | .faulted => 5
  | .adopted => 6
  | .lockout => 7
  | .misfit => 8

/-- The reason a CLOSE byte names. -/
def closeOf (b : Byte) : Option CloseReason :=
  match b.toNat with
  | 1 => some .complete
  | 2 => some .incomplete
  | 3 => some .released
  | 4 => some .aborted
  | 5 => some .faulted
  | 6 => some .adopted
  | 7 => some .lockout
  | 8 => some .misfit
  | _ => none

/-- The kind a GREET byte names. -/
def greetKindOf (b : Byte) : Option GreetKind :=
  match b.toNat with
  | 0 => some .fresh
  | 1 => some .resume
  | _ => none

/-- The verdict a GREET_ECHO byte names; 0 is of reports only. -/
def verdictOf (b : Byte) : Option Verdict :=
  match b.toNat with
  | 1 => some .new
  | 2 => some .resumed
  | 3 => some .refused
  | _ => none

/-- The reason a GREET_ECHO byte names. -/
def reasonOf (b : Byte) : Option Reason :=
  match b.toNat with
  | 0 => some .none
  | 1 => some .noSession
  | 2 => some .mismatch
  | _ => none

/-- The state an ACK byte names (log 25). -/
def stateOf (b : Byte) : Option SessState :=
  match b.toNat with
  | 0 => some .idle
  | 1 => some .bringup
  | 2 => some .install
  | 3 => some .sweep
  | 4 => some .catchup
  | 5 => some .freeze
  | 6 => some .replay
  | 7 => some .steady
  | 8 => some .suspended
  | 9 => some .handover
  | 10 => some .receiving
  | 11 => some .synced
  | 12 => some .final
  | 13 => some .held
  | 14 => some .detached
  | _ => none

/-! ### A frame's bytes -/

/-- A code as one byte. -/
def codeByte (n : Nat) : Byte := BitVec.ofNat 8 n

/-- A mirror record's bytes: word address (3), byte mask, data word (8). -/
def recordBytes (r : MirrorRecord) : List Byte := leBytes 3 r.addr.toNat ++ [r.mask] ++ leBytes 8 r.data.toNat

/-- A region entry's bytes in LAYOUT: base (3), length (3), class, sweep order, fill word (8). -/
def regionBytes (r : Region) : List Byte :=
  leBytes 3 r.base.toNat ++ leBytes 3 r.length.toNat ++ [codeOfClass r.cls, codeByte r.order.toNat] ++ leBytes 8 r.fill.toNat

/-- A sequenced frame's body. -/
def seqBody (q : Seq) (f : SeqFrame) : List Byte :=
  match f with
  | .seg n ws => 0x10 :: leBytes 2 q.toNat ++ leBytes 3 n.toNat ++ ws.toList.flatMap fun w => leBytes 8 w.toNat
  | .mir rs => 0x11 :: leBytes 2 q.toNat ++ [codeByte rs.length] ++ rs.flatMap recordBytes
  | .instep => 0x12 :: leBytes 2 q.toNat
  | .stale => 0x13 :: leBytes 2 q.toNat
  | .handover => 0x14 :: leBytes 2 q.toNat

/-- A frame's body: kind byte and fields. An ACK with ack sequence NONE carries 0 in its two sequence bytes, which R188 leaves open (DESIGN
CHOICE, unsafe, log 47). -/
def frameBody : TxFrame → List Byte
  | .train role slot => [0x01, codeByte (linkRoleCode role), slot.setWidth 8]
  | .greet kind session size slot =>
    [0x02, codeByte (greetKindCode kind)] ++ leBytes 2 session.toNat ++ [size.setWidth 8, slot.setWidth 8]
  | .layout rs => 0x03 :: rs.toList.flatMap regionBytes
  | .rewound e => 0x04 :: leBytes 2 e.toNat
  | .pulse => [0x05]
  | .close reason => [0x06, codeByte (closeCode reason)]
  | .sequenced q f => seqBody q f
  | .greetEcho e => 0x21 :: leBytes 2 e.session.toNat ++ [codeByte (verdictCode e.verdict), codeByte (reasonCode e.reason)]
  | .ready => [0x22]
  | .ack a freed fails state =>
    0x23 :: leBytes 2 ((a.map BitVec.toNat).getD 0) ++ [if a.isSome then 1 else 0, freed] ++ leBytes 2 fails.toNat
      ++ [codeByte (stateCode state)]
  | .rewind e => 0x24 :: leBytes 2 e.toNat

/-- A frame as it stands on the link. -/
def frameBytes (f : TxFrame) : List Byte := withCheck (frameBody f)

/-! ### Reading a frame -/

/-- Bytes `from` to `from + n - 1` of a run as a number. -/
def fieldNat (bs : List Byte) (start n : Nat) : Nat := leNat ((bs.drop start).take n)

/-- A mirror record from its 12 bytes. -/
def readRecord (bs : List Byte) : MirrorRecord :=
  { addr := BitVec.ofNat 24 (fieldNat bs 0 3), mask := BitVec.ofNat 8 (fieldNat bs 3 1), data := BitVec.ofNat 64 (fieldNat bs 4 8) }

/-- The records of a MIR frame, `n` of them. -/
def readRecords : Nat → List Byte → List MirrorRecord
  | 0, _ => []
  | n + 1, bs => readRecord (bs.take 12) :: readRecords n (bs.drop 12)

/-- A LAYOUT entry from its 16 bytes. -/
def readEntry (bs : List Byte) : LayoutEntry :=
  { base := BitVec.ofNat 18 (fieldNat bs 0 3), length := BitVec.ofNat 24 (fieldNat bs 3 3), cls := BitVec.ofNat 8 (fieldNat bs 6 1),
    order := BitVec.ofNat 4 (fieldNat bs 7 1), fill := BitVec.ofNat 64 (fieldNat bs 8 8) }

/-- A byte that must be below `2 ^ w`. -/
def smallField (w : Nat) (b : Byte) : Option (BitVec w) := if b.toNat < 2 ^ w then some (BitVec.ofNat w b.toNat) else none

/-- TRAIN's fields. -/
def readTrain (lane : BitVec 2) (role slot : Byte) : Option Instr := do
  let r ← linkRoleOf role
  let t ← smallField 1 slot
  pure (.trainReceived lane r t)

/-- GREET's fields. -/
def readGreet (kind : Byte) (session : Nat) (size slot : Byte) : Option Instr := do
  let k ← greetKindOf kind
  let z ← smallField 2 size
  let t ← smallField 1 slot
  pure (.greetReceived k (BitVec.ofNat 16 session) z t)

/-- GREET_ECHO's fields; the refusal reason is read with REFUSED only. -/
def readEcho (session : Nat) (verdict reason : Byte) : Option Instr := do
  let v ← verdictOf verdict
  let r ← if v = Verdict.refused then reasonOf reason else some Reason.none
  pure (.greetEchoReceived (BitVec.ofNat 16 session) v r)

/-- ACK's fields. -/
def readAck (k : Nat) (valid freed : Byte) (fails : Nat) (state : Byte) : Option Instr := do
  let v ← smallField 1 valid
  let st ← stateOf state
  pure (.ackReceived (if v = 1 then some (BitVec.ofNat 16 k) else none) freed (BitVec.ofNat 16 fails) st)

/-- MIR's fields: the record count must be 1 to 8 and match the length (R63). -/
def readMir (fs : List Byte) : Option Instr :=
  let n := fieldNat fs 2 1
  if 1 ≤ n ∧ n ≤ Config.mirRecords ∧ fs.length = 3 + 12 * n then
    some (.sequencedFrameReceived (BitVec.ofNat 16 (fieldNat fs 0 2)) (.mir (readRecords n (fs.drop 3))))
  else none

/-- SEG's fields. -/
def readSeg (fs : List Byte) : Instr :=
  .sequencedFrameReceived (BitVec.ofNat 16 (fieldNat fs 0 2))
    (.seg (BitVec.ofNat 18 (fieldNat fs 2 3)) (Vector.ofFn fun i => BitVec.ofNat 64 (fieldNat fs (5 + 8 * i.val) 8)))

/-- LAYOUT's fields. -/
def readLayout (fs : List Byte) : Instr := .layoutReceived (Vector.ofFn fun i => readEntry ((fs.drop (16 * i.val)).take 16))

/-- A field of one byte. -/
def fieldByte (fs : List Byte) (i : Nat) : Byte := codeByte (fieldNat fs i 1)

/-- The command that a kind byte and its fields make: kind, length and code fields are those of R188. -/
def readFields (lane : BitVec 2) (kind : Byte) (fs : List Byte) : Option Instr :=
  let seq : Seq := BitVec.ofNat 16 (fieldNat fs 0 2)
  if kind = 0x11 then readMir fs
  else if kind = 0x10 ∧ fs.length = 517 then some (readSeg fs)
  else if kind = 0x03 ∧ fs.length = 256 then some (readLayout fs)
  else if kind = 0x01 ∧ fs.length = 2 then readTrain lane (fieldByte fs 0) (fieldByte fs 1)
  else if kind = 0x02 ∧ fs.length = 5 then readGreet (fieldByte fs 0) (fieldNat fs 1 2) (fieldByte fs 3) (fieldByte fs 4)
  else if kind = 0x04 ∧ fs.length = 2 then some (.rewoundReceived seq)
  else if kind = 0x05 ∧ fs.length = 0 then some .pulseReceived
  else if kind = 0x06 ∧ fs.length = 1 then (closeOf (fieldByte fs 0)).map .closeReceived
  else if kind = 0x12 ∧ fs.length = 2 then some (.sequencedFrameReceived seq .instep)
  else if kind = 0x13 ∧ fs.length = 2 then some (.sequencedFrameReceived seq .stale)
  else if kind = 0x14 ∧ fs.length = 2 then some (.sequencedFrameReceived seq .handover)
  else if kind = 0x21 ∧ fs.length = 4 then readEcho (fieldNat fs 0 2) (fieldByte fs 2) (fieldByte fs 3)
  else if kind = 0x22 ∧ fs.length = 0 then some .readyReceived
  else if kind = 0x23 ∧ fs.length = 7 then
    readAck (fieldNat fs 0 2) (fieldByte fs 2) (fieldByte fs 3) (fieldNat fs 4 2) (fieldByte fs 6)
  else if kind = 0x24 ∧ fs.length = 2 then some (.rewindReceived seq)
  else none

/-- The command that a checked body makes. -/
def readBody (lane : BitVec 2) (body : List Byte) : Option Instr :=
  match body with
  | [] => none
  | kind :: fs => readFields lane kind fs

/-- The command that a run of bytes arriving on a lane makes: a valid frame's, or none where R63 or R188 discards it whoever receives
it. -/
def readFrame (lane : BitVec 2) (bytes : List Byte) : Option Instr := (checkedBody bytes).bind (readBody lane)

/-- The LAYOUT entry that a region entry arrives as. -/
def Region.asEntry (r : Region) : LayoutEntry :=
  { base := r.base, length := r.length.setWidth 24, cls := codeOfClass r.cls, order := r.order, fill := r.fill }

/-- The command that a sent frame makes where it arrives, on the lane it arrives on. -/
def TxFrame.arrives (lane : BitVec 2) : TxFrame → Instr
  | .train role slot => .trainReceived lane role slot
  | .greet kind session size slot => .greetReceived kind session size slot
  | .layout rs => .layoutReceived (rs.map Region.asEntry)
  | .rewound e => .rewoundReceived e
  | .pulse => .pulseReceived
  | .close reason => .closeReceived reason
  | .sequenced q f => .sequencedFrameReceived q f
  | .greetEcho e => .greetEchoReceived e.session e.verdict e.reason
  | .ready => .readyReceived
  | .ack a freed fails state => .ackReceived a freed fails state
  | .rewind e => .rewindReceived e

/-- A frame the part may build: a MIR frame holds 1 to 8 records, and a GREET_ECHO gives a reason with REFUSED only (R61, R62). -/
def TxFrame.wf : TxFrame → Bool
  | .sequenced _ (.mir rs) => 1 ≤ rs.length && rs.length ≤ Config.mirRecords
  | .greetEcho e => e.verdict == .refused || e.reason == .none
  | _ => true

end Sys2Proof.Machine
end

