-- ==== Sys2Proof/Machine/Arbiter.lean ====
section
/-! DEFINITION. The port arbiter: who waits, who is owed, who wins, the wait runs (R13, R14, R15), and the end of every command (held
write, state frames, wait runs, report). -/

namespace Sys2Proof.Machine

open Sys2Proof

/-! ### Who waits (R13) -/

/-- The read return list has room (R12). -/
def State.returnRoom (s : State) : Bool := s.path.returns.length < Config.returnPlaces

/-- A request is ready: a read only while the read return list has room (R13). -/
def State.ready (s : State) (r : MemRequest) : Bool :=
  match r with
  | .read _ => s.returnRoom
  | .write _ _ _ => true

/-- The lookup stream's candidate. -/
def State.lookupOffer (s : State) : Option MemRequest := s.path.lookup.map .read

/-- The maintenance stream's candidate. -/
def State.maintOffer (s : State) : Option MemRequest :=
  match s.path.maint with
  | .read a => some (.read a)
  | .write w => some (.write w.addr w.data w.mask)
  | .held _ => none
  | .empty => none

/-- The request is there and ready. -/
def State.isReady (s : State) (o : Option MemRequest) : Bool := (o.map s.ready).getD false

/-- UPSTREAM waits: a stream has a ready candidate (R13). -/
def State.upstreamWaits (s : State) : Bool := s.isReady s.lookupOffer || s.isReady s.maintOffer

/-- The staging read the walker offers (R49). -/
def State.walkOffer (s : State) : Option MemRequest :=
  match s.walker.offering with
  | none => none
  | some second => (s.walker.buf second).map fun b => .read (wordAddr b.segment b.nextRead)

/-- The overlay entry whose write is offered: the oldest FLUSHING one, at any time; else in REPLAY the oldest one, while its record could
be placed and no state frame waits for a place (R133, R139). -/
def State.overlayOffer (s : State) : Option OverlayEntry :=
  match s.freeze.oldestFlushing with
  | some e => some e
  | none =>
    if s.inFeed && s.session.state == .replay && canPlace s.feed.queue && !s.feed.instepWaiting && !s.session.stalePending then
      s.freeze.entries.head?
    else none

/-- The request of the apply unit (R91, R94). -/
def State.applyOffer (s : State) : Option MemRequest :=
  if s.applying && s.writePermitted then s.take.apply.bind fun a => a.job.offer else none

/-- The request of the fill unit (R91, R105). -/
def State.fillOffer (s : State) : Option MemRequest :=
  if s.filling && s.writePermitted then s.take.fill.bind fun f => f.job.offer else none

/-- The request a part requester offers; none while RESET_N is low (R13, R18). -/
def State.offer (s : State) (r : Requester) : Option MemRequest :=
  if s.live then
    match r with
    | .report => s.reportOffer
    | .replay => s.overlayOffer.map fun e => .write e.addr e.data e.mask
    | .apply => s.applyOffer
    | .fill => s.fillOffer
    | .walk => s.walkOffer
  else none

/-- A part requester is waiting (R13). -/
def State.waits (s : State) (r : Requester) : Bool := s.isReady (s.offer r)

/-! ### Levels and runs -/

/-- The part requesters in the order that settles equal levels (R14). -/
def Requester.order : List Requester := [.report, .replay, .apply, .fill, .walk]

/-- The programmed level of a part requester (R16). -/
def Settings.level (c : Settings) : Requester → Nat
  | .report => c.report.toNat
  | .replay => c.replay.toNat
  | .apply => c.apply.toNat
  | .fill => c.fill.toNat
  | .walk => c.walk.toNat

/-- The wait run of a part requester (R15). -/
def WaitRuns.get (r : WaitRuns) : Requester → Nat
  | .report => r.report
  | .replay => r.replay
  | .apply => r.apply
  | .fill => r.fill
  | .walk => r.walk

/-- Wait runs given requester by requester. -/
def WaitRuns.build (f : Requester → Nat) : WaitRuns :=
  { report := f .report, replay := f .replay, apply := f .apply, fill := f .fill, walk := f .walk }

/-- A requester is owed the next grant: it waits, its level is 0 to 3 and its wait run equals the yield count (R15). -/
def State.owed (s : State) (r : Requester) : Bool :=
  s.waits r && decide (s.settings.level r ≤ 3) && decide (s.settings.yieldCount ≤ s.path.waitRuns.get r)

/-- The first requester of the highest level in a list given in the order of R14. -/
def topOf (c : Settings) : List Requester → Option Requester
  | [] => none
  | r :: rs =>
    match topOf c rs with
    | none => some r
    | some q => if c.level r < c.level q then some q else some r

/-- The winner of a grant. -/
inductive Winner where
  | upstream
  | owed (r : Requester)
  | byLevel (r : Requester)
  deriving DecidableEq, Repr

/-- The arbiter's choice: an owed requester, else the highest level, UPSTREAM standing between 3 and 4 (R14, R15). -/
def State.winner (s : State) : Option Winner :=
  match topOf s.settings (Requester.order.filter fun r => s.owed r) with
  | some r => some (.owed r)
  | none =>
    match topOf s.settings (Requester.order.filter fun r => s.waits r) with
    | some r => if s.upstreamWaits && decide (s.settings.level r ≤ 3) then some .upstream else some (.byLevel r)
    | none => if s.upstreamWaits then some .upstream else none

/-- A wait run after a grant (R15). -/
def runAfter (yieldCount level run : Nat) (waits : Bool) (r : Requester) (win : Winner) : Nat :=
  if 4 ≤ level ∨ !waits then 0
  else
    match win with
    | .upstream => min yieldCount (run + 1)
    | .owed q => if q = r then 0 else run
    | .byLevel _ => 0

/-- The wait runs after a grant (R15). -/
def State.runsAfter (s : State) (win : Winner) : WaitRuns :=
  .build fun r => runAfter s.settings.yieldCount (s.settings.level r) (s.path.waitRuns.get r) (s.waits r) r win

/-- A requester that does not wait, or whose level is 4 to 7, has a wait run of 0 (R15). One whose waiting request a command withdraws or
replaces, and that offers another in the same event (WALK when a flush drops one buffer and the other has a read to offer, R56), still
waits at the command's end and keeps its run: R13 and R49 do not say when the next request is offered (DESIGN CHOICE, unsafe, log 44). -/
def State.clearRuns (s : State) : State :=
  let runs := WaitRuns.build fun r => if s.waits r && decide (s.settings.level r ≤ 3) then s.path.waitRuns.get r else 0
  { s with path := { s.path with waitRuns := runs } }

/-! ### The end of a command -/

/-- STALE is offered when a segment entered DIRTY in STEADY or HANDOVER while the last step is INSTEP (R150). -/
def State.staleStage (s : State) : State :=
  if s.signals.dirtied && (s.session.state == .steady || s.session.state == .handover) && s.lastStep == .instep
      && !s.session.stalePending then
    s.offerStale
  else s

/-- A waiting INSTEP offer is cancelled when a segment is DIRTY or OPEN; else the INSTEP test is made (R149, R155). -/
def State.instepStage (s : State) : State :=
  if s.feed.instepWaiting && (s.dirtyCount != 0 || s.openCount != 0) then
    { s with feed := { s.feed with instepWaiting := false } }
  else s.tryInstep

/-- The signals are cleared (log 30). -/
def State.clearSignals (s : State) : State := { s with signals := .none }

/-- What every command ends with: the held write examined again where a block reported (R7), the state frames offered (R149, R150), the
wait runs of requesters that do not wait cleared (R15), and the requested report started with all changes made (R178). -/
def State.settle (s : State) : State := s.examineHeld.staleStage.instepStage.clearRuns.serveReport.clearSignals

/-- The outputs of the last command are taken away (log 4), and no signal stands (log 30). -/
def State.fresh (s : State) : State := { s with out := .none, signals := .none }

/-- A command as one whole event: outputs cleared, its effect, and what every command ends with. -/
def State.event (f : State → State) (s : State) : State := (f s.fresh).settle

/-- A command that acts only while the part has power and RESET_N is high. -/
def State.liveEvent (f : State → State) (s : State) : State := s.event fun s => if s.live then f s else s

end Sys2Proof.Machine
end

