-- ==== Sys2Proof/Machine/Directives.lean ====
section
/-! DEFINITION. The directive unit: the shadow, the trigger, the tests of a directive, and each kind's effect (R167 to R176). -/

namespace Sys2Proof.Machine

open Sys2Proof

/-- The directive kinds (R185). -/
inductive DirKind where
  | setup
  | region
  | feed
  | take
  | handover
  | release
  | abort
  | adopt
  | notices
  | acknowledge
  | refresh
  deriving DecidableEq, Repr

/-- The code of a directive kind (R185). -/
def DirKind.code : DirKind → Byte
  | .setup => 1
  | .region => 2
  | .feed => 3
  | .take => 4
  | .handover => 5
  | .release => 6
  | .abort => 7
  | .adopt => 8
  | .notices => 9
  | .acknowledge => 10
  | .refresh => 11

/-- Every directive kind. -/
def DirKind.all : List DirKind :=
  [.setup, .region, .feed, .take, .handover, .release, .abort, .adopt, .notices, .acknowledge, .refresh]

/-- The kind a code names, if any (R185). -/
def kindOfCode (c : Byte) : Option DirKind := DirKind.all.find? fun k => k.code == c

/-- The session states in which an ADOPT is taken (R173). -/
def adoptAllowed (st : SessState) (force : Bool) : Bool :=
  match st with
  | .synced => true
  | .final => true
  | .held => true
  | .detached => true
  | .bringup => force
  | .install => force
  | .receiving => force
  | _ => false

/-- The part's session state is one in which the kind is allowed (section 9.3). -/
def State.dirAllowed (s : State) (k : DirKind) : Bool :=
  match k with
  | .setup => s.session.state == .idle
  | .region => s.session.state == .idle
  | .feed => s.session.state == .idle
  | .take => s.session.state == .idle
  | .handover => s.inFeed
  | .release => s.inFeed && s.session.state == .steady
  | .abort => s.inFeed || s.inTake
  | .adopt => s.inTake && adoptAllowed s.session.state (adoptForce (s.directive.word 1))
  | .notices => true
  | .acknowledge => true
  | .refresh => true

/-- The fields of the REGION directive in the shadow (R186). -/
def State.regionRequest (s : State) : RegionFields := regionFields (s.directive.word 1) (s.directive.word 2) (s.directive.word 3)

/-- The parameters pass the kind's value check (R169, R22, R172). -/
def State.dirValue (s : State) (k : DirKind) : Bool :=
  match k with
  | .region => (regionCheck s.chassis.msize s.regions s.regionRequest).isSome
  | .feed => feedSession (s.directive.word 1) != 0 && trackedTotal s.regions != 0
  | _ => true

/-- The outcome of a directive: the first test that fails, else DONE (R169). -/
def State.judge (s : State) (code : Byte) : DirOutcome :=
  match kindOfCode code with
  | none => .unknownKind
  | some k =>
    if !s.dirAllowed k then .refusedState
    else if k == .take && !(s.chassis.takeEn && !s.session.lockout) then .refusedEnable
    else if !s.dirValue k then .refusedValue
    else .done

/-! ### Effects -/

/-- The filtered PEER_PRESENT level becomes the raw level: LINE, and a fall on an UP link is a link loss (R68, R145). -/
def State.filterPeer (s : State) : State :=
  let fell := !s.chassis.peerRaw
  let s := { s.raise .line with chassis := { s.chassis with peerFiltered := s.chassis.peerRaw, peerHeld := 0 } }
  if fell then s.loseLink else s

/-- The yield count and the levels are those of the other settings (R170). -/
def Settings.sameArbiter (a b : Settings) : Bool :=
  a.yieldCount == b.yieldCount && a.walk == b.walk && a.fill == b.fill && a.apply == b.apply && a.replay == b.replay
    && a.report == b.report

/-- SETUP: every value replaced, the wait runs cleared when the yield count or a level changes, and a raw PEER_PRESENT level that has
held for the new filter time taken at once (R15, R170). -/
def State.doSetup (s : State) : State :=
  let c := setupSettings (s.directive.word 1) (s.directive.word 2)
  let s' := { s with
    settings := c
    path := if s.settings.sameArbiter c then s.path else { s.path with waitRuns := .reset } }
  if s'.chassis.peerRaw != s'.chassis.peerFiltered && c.filterTicks ≤ s'.chassis.peerHeld then s'.filterPeer else s'

/-- REGION: the named entry takes the new fields (R22). -/
def State.doRegion (s : State) : State :=
  match regionCheck s.chassis.msize s.regions s.regionRequest with
  | none => s
  | some r => { s with regions := s.regions.set s.regionRequest.index.toNat r }

/-- The link controller as a session starts: TRAINING, the bring-up timer from 0, the discarded frame count 0 (R63, R64, R74). -/
def Link.start (l : Link) : Link := { l.enterTraining with bringup := some 0, discarded := 0 }

/-- FEED: a feed session starts (R26, R112, R114, R121, R122, R147). -/
def State.doFeed (s : State) : State :=
  let s := { s with
    map := SegMap.start s.regions
    link := s.link.start
    feed := { s.feed with rewound := none, instepWaiting := false, peerFail := 0, peerState := none, rewinds := 0 }
    faults := .start
    review := .reset
    session := { s.session with role := .feed, id := feedSession (s.directive.word 1), handoverPending := false,
                                stalePending := false, retiredStep := .stale, resumeKind := .fresh, hold := none } }
  s.setState .bringup

/-- TAKE: a take session starts (R6, R82, R89, R108, R111, R158). -/
def State.doTake (s : State) : State :=
  let s := { s with
    path := { s.path with blocked := 0 }
    link := s.link.start
    take := { s.take.inactive with failTotal := 0, rewinds := 0, interrupted := none, awaitingLayout := false }
    faults := .start
    session := { s.session with role := .take, id := 0, sizeClass := 0, hold := none, greeted := none, layoutInstalled := false } }
  s.setState .bringup

/-- What a taken directive does (R170 to R176). -/
def State.doDirective (k : DirKind) (s : State) : State :=
  match k with
  | .setup => s.doSetup
  | .region => s.doRegion
  | .feed => s.doFeed
  | .take => s.doTake
  | .handover => s.requestHandover
  | .release => s.endFeed (some .released)
  | .abort => s.endSession (some .aborted)
  | .adopt => s.endTake (some .adopted)
  | .notices => { s with notices := { s.notices with enable := noticeSet (s.directive.word 1) } }
  | .acknowledge =>
    { s with notices := s.notices.acknowledge (noticeSet (s.directive.word 1)) (ackGeneration (s.directive.word 1)) }
  | .refresh => s

/-- A valid trigger is handled: the expected number, the last directive record, the effect of a taken directive, the DIRECTIVE notice for
every kind but ACKNOWLEDGE, a report (R169, R175). -/
def State.handleTrigger (number code : Byte) (s : State) : State :=
  let o := s.judge code
  let s := { s with directive :=
    { s.directive with expected := s.directive.expected + 1, last := { number := number, code := code, outcome := o } } }
  let s := match kindOfCode code with
    | none => s
    | some k => if o = DirOutcome.done then s.doDirective k else s
  if kindOfCode code = some .acknowledge then s.requestReport else s.raise .directive

/-- A snooped write to offset 0 is a valid trigger (R168). -/
def State.validTrigger (s : State) (data : Word) (mask : Mask) : Bool :=
  mask == fullMask && byteOf data 0 == 0xC5 && byteOf data 1 == s.directive.expected

/-- A stray trigger raises its count and does nothing else (R168). -/
def State.countStray (s : State) : State :=
  { s with directive := { s.directive with stray := satAdd Config.top16 s.directive.stray 1 } }

/-- A snooped write to offset 0 (R168). -/
def State.snoopTrigger (data : Word) (mask : Mask) (s : State) : State :=
  if s.validTrigger data mask then s.handleTrigger (byteOf data 1) (byteOf data 2) else s.countStray

/-- A snooped write to offset `index` + 1: its bytes replace the shadow's (R167). -/
def State.snoopShadow (index : Nat) (data : Word) (mask : Mask) (s : State) : State :=
  { s with directive := { s.directive with
      shadow := s.directive.shadow.mapIdx fun i w => if i = index then mergeBytes mask data w else w } }

/-- A snooped write to the directive slot, handed to the directive unit at its grant (R10). -/
def State.snoop (offset : Nat) (data : Word) (mask : Mask) (s : State) : State :=
  if offset = 0 then s.snoopTrigger data mask else s.snoopShadow (offset - 1) data mask

end Sys2Proof.Machine
end

