-- ==== Sys2Proof/Machine/Grant.lean ====
section
/-! DEFINITION. What each grant of the arbiter does: upstream reads and writes with the map, the staging buffers, the overlay and the
directive snoop; staging, replay, flush, apply, fill and report requests (R9, R10, R29 to R33, R49, R51, R94, R105, R133, R139, R140,
R178). -/

namespace Sys2Proof.Machine

open Sys2Proof

/-- A read joins the read return list and is passed to memory (R11, R12). -/
def State.issueRead (r : ReadFor) (a : Addr) (s : State) : State :=
  { s.toMemory (.read a) with path := { s.path with returns := s.path.returns ++ [{ requester := r, addr := a }] } }

/-- An upstream read is granted: the overlay entry for its address is looked up as it then stands (R9). -/
def State.grantUpstreamRead (st : Stream) (a : Addr) (s : State) : State :=
  let b := s.overlayBytes a
  s.issueRead (.upstream st b.1 b.2) a

/-- A mirror record is offered for an upstream write; refused, its segment becomes DIRTY and the overflow count rises (R30, R31). -/
def State.offerMirror (w : WriteReq) (s : State) : State :=
  match placeRecord s.feed.queue { addr := w.addr, data := w.data, mask := w.mask } with
  | some q => { s with feed := { s.feed with queue := q } }
  | none =>
    let s := s.changeSeg (segmentOf w.addr) sentToDirty
    { s with map := { s.map with overflow := satAdd Config.top32 s.map.overflow 1 } }

/-- A granted write meets a MIRROR segment (R30, R33). -/
def State.mapMirror (w : WriteReq) (s : State) : State :=
  match s.map.get (segmentOf w.addr) with
  | .clean => if s.session.state = .suspended then s.changeSeg (segmentOf w.addr) cleanToDirty else s.offerMirror w
  | .inflight => s.offerMirror w
  | _ => s

/-- A granted write meets a SNAPSHOT segment (R32). -/
def State.mapSnapshot (w : WriteReq) (s : State) : State :=
  match s.map.get (segmentOf w.addr) with
  | .clean => { s with map := { s.map with drift := satAdd Config.top32 s.map.drift 1 } }
  | .inflight => { s with map := { s.map with drift := satAdd Config.top32 s.map.drift 1 } }
  | _ => s

/-- The segment map sees a granted write while the part is in a feed session (R29). -/
def State.mapWrite (w : WriteReq) (s : State) : State :=
  if s.inFeed then
    match s.classOf w.addr with
    | .mirror => s.mapMirror w
    | .snapshot => s.mapSnapshot w
    | .localOnly => s
    | .fill => s
  else s

/-- The staging buffers see a granted write while the part is in a feed session (R51). -/
def State.patchWrite (w : WriteReq) (s : State) : State := if s.inFeed then s.patchStaging w else s

/-- A granted write to the directive slot is copied to the directive unit (R10). -/
def State.snoopWrite (w : WriteReq) (s : State) : State :=
  match slotOffset s.chassis.msize w.addr with
  | some i => s.snoop i w.data w.mask
  | none => s

/-- An upstream write is granted: passed to memory, and with a non-empty mask seen by overlay, buffers, map and directive unit, but by
none of them while RESET_N is low (R5, R10, R18, R29, R51, R140). -/
def State.grantUpstreamWrite (w : WriteReq) (s : State) : State :=
  let s := s.toMemory (.write w.addr w.data w.mask)
  if s.live && w.mask != 0 then
    ((((s.supersede w).patchWrite w).mapWrite w).snoopWrite w).endReplay
  else s

/-- UPSTREAM is granted: the lookup stream's ready candidate, else the maintenance stream's (R14). The stream's request is then no longer
under treatment (R2). -/
def State.grantUpstream (s : State) : State :=
  if s.isReady s.lookupOffer then
    match s.path.lookup with
    | some a => ({ s with path := { s.path with lookup := none } } : State).grantUpstreamRead .lookup a
    | none => s
  else
    match s.path.maint with
    | .read a => ({ s with path := { s.path with maint := .empty } } : State).grantUpstreamRead .maintenance a
    | .write w => ({ s with path := { s.path with maint := .empty } } : State).grantUpstreamWrite w
    | .held _ => s
    | .empty => s

/-- WALK is granted: the word's read granted flag, the next read, the return list with the read's tag (R49). -/
def State.grantWalk (s : State) : State :=
  match s.walker.offering with
  | none => s
  | some second =>
    match s.walker.buf second with
    | none => s
    | some b =>
      let s := { s with walker := s.walker.setBuf second (some b.grantRead) }
      s.issueRead (.walk second b.nextRead b.use) (wordAddr b.segment b.nextRead)

/-- The mirror record of a replay write is placed; the write was waiting only while it could be (R77, R133). -/
def State.placeReplay (e : OverlayEntry) (s : State) : State :=
  match placeRecord s.feed.queue { addr := e.addr, data := e.data, mask := e.mask } with
  | some q => { s with feed := { s.feed with queue := q } }
  | none => s

/-- REPLAY is granted: a flush write, with no record (R139), or a replay write, with one (R133); the entry leaves the list, and an empty
overlay ends REPLAY (R135). -/
def State.grantReplay (s : State) : State :=
  match s.overlayOffer with
  | none => s
  | some e =>
    let s := s.toMemory (.write e.addr e.data e.mask)
    let s := if e.flushing then s else s.placeReplay e
    (s.dropEntry e.addr).endReplay

/-- A run of rounds is granted what it offers: its read joins the return list (R94). -/
def State.grantJob (r : ReadFor) (j : VerifyJob) (s : State) : State :=
  match j.offer with
  | some (.read a) => s.issueRead r a
  | some (.write a d m) => s.toMemory (.write a d m)
  | none => s

/-- APPLY is granted (R94, R97). -/
def State.grantApply (s : State) : State :=
  match s.take.apply with
  | none => s
  | some a =>
    ({ s with take := { s.take with apply := some { a with job := a.job.granted } } } : State).grantJob (.apply a.job.use) a.job

/-- FILL is granted (R105). -/
def State.grantFill (s : State) : State :=
  match s.take.fill with
  | none => s
  | some f =>
    ({ s with take := { s.take with fill := some { f with job := f.job.granted } } } : State).grantJob (.fill f.job.use) f.job

/-- REPORT is granted: the word the writer offers is passed to memory (R178). -/
def State.grantReportWord (s : State) : State :=
  match s.reportOffer with
  | some r => (s.toMemory r).grantReport
  | none => s

/-- A part requester is granted its request (R11). -/
def State.grantPart (r : Requester) (s : State) : State :=
  match r with
  | .report => s.grantReportWord
  | .replay => s.grantReplay
  | .apply => s.grantApply
  | .fill => s.grantFill
  | .walk => s.grantWalk

/-- The request of the winner is granted. -/
def State.grantTo (win : Winner) (s : State) : State :=
  match win with
  | .upstream => s.grantUpstream
  | .owed r => s.grantPart r
  | .byLevel r => s.grantPart r

/-- One grant: the winner, the wait runs, the winner's request (R14, R15). Nobody waiting, there is no grant (R11). -/
def State.grant (s : State) : State :=
  match s.winner with
  | none => s
  | some win => ({ s with path := { s.path with waitRuns := s.runsAfter win } } : State).grantTo win

/-- ARBITER_GRANT (R14): the memory controller can accept a request. -/
def execArbiterGrant (s : State) : Host.Outcome State Fault Refusal :=
  .next (s.event fun s => if s.chassis.power then s.grant else s)

/-- READ_RESPONSE (R12): the response belongs to the oldest entry of the read return list, which leaves it; with none there is no
response (log 2). -/
def State.readAnswer (status : Status) (data : Word) (s : State) : State :=
  match s.path.returns with
  | [] => s
  | e :: rest =>
    let s := { s with path := { s.path with returns := rest } }
    match e.requester with
    | .upstream st m d => s.upstreamResponse st (upstreamResult m d status data)
    | .walk second offset use => s.stagingResponse second offset use status data
    | .apply use => s.applyResponse use status data
    | .fill use => s.fillResponse use status data

/-- READ_RESPONSE (R12). -/
def execReadResponse (status : Status) (data : Word) (s : State) : Host.Outcome State Fault Refusal :=
  .next (s.event fun s => if s.chassis.power then s.readAnswer status data else s)

end Sys2Proof.Machine
end

