-- ==== Sys2Proof/Machine/Chassis.lean ====
section
/-! DEFINITION. The resets, power, and the chassis lines (R17, R18, R111, R145, R154, R162 to R164, R182, R189). -/

namespace Sys2Proof.Machine

open Sys2Proof

/-! ### Resets -/

/-- The part after PWR_GOOD rises: every block at its cold value, the pins sampled, and the first report requested when RESET_N is high
(R17, R164, R182, R189). The waiting commands stay. -/
def State.coldStart (resetN : Bool) (pins : Pins) (s : State) : State :=
  let c : State := { State.cold resetN pins with pending := s.pending }
  if resetN then c.requestReport else c

/-- COLD_RESET (R17). -/
def execColdReset (resetN : Bool) (pins : Pins) (s : State) : Host.Outcome State Fault Refusal :=
  .next (s.event (State.coldStart resetN pins))

/-- A held write is released as a candidate when RESET_N falls (R18; log 27). -/
def MaintSlot.release : MaintSlot → MaintSlot
  | .held w => .write w
  | m => m

/-- An upstream read on the return list when RESET_N falls is answered with no overlay merge (R18). -/
def ReturnEntry.unmerged (e : ReturnEntry) : ReturnEntry :=
  match e.requester with
  | .upstream st _ _ => { e with requester := .upstream st 0 0 }
  | _ => e

/-- The path at the fall of RESET_N: candidates, unanswered reads and the read return list stay (R12, R18). -/
def Path.warm (p : Path) : Path :=
  { Path.reset with
    lookup := p.lookup, maint := p.maint.release, lookupReads := p.lookupReads, maintReads := p.maintReads,
    returns := p.returns.map ReturnEntry.unmerged }

/-- The chassis block at the fall of RESET_N: raw levels and straps stay, the filtered level is low (R145, R164, R189). -/
def Chassis.warm (c : Chassis) : Chassis := { c with resetN := false, peerFiltered := false, peerHeld := 0, lineDeferred := false }

/-- The part after RESET_N falls: the path open and untreated, every other block at its reset value but the lockout, the interrupted-apply
record and what the path keeps (R18, R111, R164). -/
def State.warmStart (s : State) : State :=
  { s with
    chassis := s.chassis.warm
    path := s.path.warm
    settings := .reset
    regions := Vector.replicate 16 .empty
    map := .reset
    walker := { Walker.reset with nextUse := s.walker.nextUse }
    freeze := .reset
    feed := .reset
    link := .reset
    take := { Take.reset with interrupted := s.take.interruptedAtReset }
    faults := .reset
    review := .reset
    session := { Session.reset with lockout := s.session.lockout }
    directive := .reset
    notices := .reset
    report := .reset .warm }

/-- WARM_RESET (R18): RESET_N falls while PWR_GOOD is high. -/
def execWarmReset (s : State) : Host.Outcome State Fault Refusal := .next (s.liveEvent State.warmStart)

/-- The path at the rise of RESET_N: the values of R17, so that no fixed response is pending any more, but the candidates, the read return list
and the reads that wait for its responses (R17, R18). -/
def Path.rise (p : Path) : Path :=
  { Path.reset with
    lookup := p.lookup, maint := p.maint.release,
    lookupReads := p.lookupReads.filter (· == .waiting), maintReads := p.maintReads.filter (· == .waiting), returns := p.returns }

/-- The chassis block at the rise of RESET_N: straps and lines sampled, the filter restarted (R145, R189). -/
def Chassis.rise (c : Chassis) (p : Pins) : Chassis :=
  { Chassis.atCold true p with tick := c.tick }

/-- The part after RESET_N rises: the path at its values of R18, pins sampled, the LINE notice owed for a TAKE_EN fall raised, the first
report requested (R164, R182, R189). -/
def State.riseStart (pins : Pins) (s : State) : State :=
  let owed := s.chassis.lineDeferred
  let s := { s with chassis := s.chassis.rise pins, path := s.path.rise }
  let s := if owed then s.raise .line else s
  s.requestReport

/-- RESET_N_RISE (R164). -/
def execResetNRise (pins : Pins) (s : State) : Host.Outcome State Fault Refusal :=
  .next (s.event fun s => if s.chassis.power && !s.chassis.resetN then s.riseStart pins else s)

/-- The part as PWR_GOOD falls: unpowered, its link OFF and nothing driven; what else it holds is replaced at the next rise (R17, R189;
log 10). -/
def State.powerDown (s : State) : State :=
  let s := s.closeLink none
  { s with chassis := { s.chassis with power := false } }

/-- PWR_GOOD_FALL (R189). -/
def execPwrGoodFall (s : State) : Host.Outcome State Fault Refusal :=
  .next (s.event fun s => if s.chassis.power then s.powerDown else s)

/-! ### Lines (R145) -/

/-- The raw PEER_PRESENT level changes: the filter starts anew (R145). -/
def State.changePeer (level : Bool) (s : State) : State :=
  if s.chassis.power && level != s.chassis.peerRaw then { s with chassis := { s.chassis with peerRaw := level, peerHeld := 0 } } else s

/-- PEER_PRESENT_CHANGE (R145). -/
def execPeerPresentChange (level : Bool) (s : State) : Host.Outcome State Fault Refusal :=
  .next (s.event (State.changePeer level))

/-- The raw level has held for the filter time: the clock stands at that moment and the filtered level changes (R145; log 1). -/
def State.peerHeldOut (s : State) : State :=
  if s.chassis.peerRaw != s.chassis.peerFiltered then
    (s.advance (s.settings.filterTicks - s.chassis.peerHeld)).filterPeer
  else s

/-- PEER_PRESENT_FILTERED (R145). -/
def execPeerPresentFiltered (s : State) : Host.Outcome State Fault Refusal := .next (s.liveEvent State.peerHeldOut)

/-- EJECT's level changes: LINE while RESET_N is high (R145). -/
def State.setEject (level : Bool) (s : State) : State :=
  let s := { s with chassis := { s.chassis with eject := level } }
  if s.live then s.raise .line else s

/-- An EJECT event reaches the session controller: a handover request at a feed, the session's end at a take (R154, R162). -/
def State.ejected (s : State) : State := if s.inTake then s.endTake (some .aborted) else s.requestHandover

/-- EJECT rises (R145); while RESET_N is low the level is all that changes (R189). -/
def State.ejectRise (s : State) : State :=
  if s.chassis.power && !s.chassis.eject then
    let s := s.setEject true
    if s.live then s.ejected else s
  else s

/-- EJECT_EVENT (R154). -/
def execEjectEvent (s : State) : Host.Outcome State Fault Refusal := .next (s.event State.ejectRise)

/-- EJECT_FALL (R145): the level and LINE; nothing at the session controller. -/
def execEjectFall (s : State) : Host.Outcome State Fault Refusal :=
  .next (s.event fun s => if s.chassis.power && s.chassis.eject then s.setEject false else s)

/-- TAKE_EN's level changes (R145). -/
def State.setTakeEn (level : Bool) (s : State) : State := { s with chassis := { s.chassis with takeEn := level } }

/-- TAKE_EN falls with the part in a take session: the lockout is latched and the session ends with LOCKOUT_TRIP (R102, R163). -/
def State.lockoutTrip (s : State) : State :=
  (({ s with session := { s.session with lockout := true } } : State).recordFault .lockoutTrip).endTake (some .lockout)

/-- TAKE_EN falls: LINE, and the lockout in a take session; while RESET_N is low the LINE notice is owed (R145, R163, R189). -/
def State.takeEnDrop (s : State) : State :=
  if s.chassis.power && s.chassis.takeEn then
    let s := s.setTakeEn false
    if s.live then
      let s := s.raise .line
      if s.inTake then s.lockoutTrip else s
    else { s with chassis := { s.chassis with lineDeferred := true } }
  else s

/-- TAKE_EN_FALL (R163). -/
def execTakeEnFall (s : State) : Host.Outcome State Fault Refusal := .next (s.event State.takeEnDrop)

/-- TAKE_EN rises: the level and LINE (R145). -/
def State.takeEnLift (s : State) : State :=
  if s.chassis.power && !s.chassis.takeEn then
    let s := s.setTakeEn true
    if s.live then s.raise .line else s
  else s

/-- TAKE_EN_RISE (R145). -/
def execTakeEnRise (s : State) : Host.Outcome State Fault Refusal := .next (s.event State.takeEnLift)

end Sys2Proof.Machine
end

