-- ==== Sys2Proof/Machine/Traffic.lean ====
section
/-! DEFINITION. The commands of the engine's streams: a taken request and the throttle's spacing (R2 to R8, R123), and the directive
commands: a snooped word of the slot handled on its own (R167 to R176; log 5). -/

namespace Sys2Proof.Machine

open Sys2Proof

/-! ### Requests -/

/-- A lookup read is taken when the stream has no request under treatment; else it waits at the port (R2, R17; log 11). -/
def State.takeLookup (a : Addr) (s : State) : State :=
  if s.chassis.power && s.path.lookup.isNone then s.examineRead .lookup a else s

/-- LOOKUP_READ (R4). -/
def execLookupRead (a : Addr) (s : State) : Host.Outcome State Fault Refusal := .next (s.event (State.takeLookup a))

/-- A maintenance read is taken when the stream has no request under treatment (R2, R17; log 11). -/
def State.takeMaintRead (a : Addr) (s : State) : State :=
  if s.chassis.power && s.path.maint == .empty then s.examineRead .maintenance a else s

/-- MAINTENANCE_READ (R4). -/
def execMaintenanceRead (a : Addr) (s : State) : Host.Outcome State Fault Refusal := .next (s.event (State.takeMaintRead a))

/-- A maintenance write is taken when the stream has no request under treatment (R2, R17; log 11). -/
def State.takeMaintWrite (w : WriteReq) (s : State) : State :=
  if s.chassis.power && s.path.maint == .empty then s.examineWrite w else s

/-- MAINTENANCE_WRITE (R4). -/
def execMaintenanceWrite (a : Addr) (data : Word) (mask : Mask) (s : State) : Host.Outcome State Fault Refusal :=
  .next (s.event (State.takeMaintWrite { addr := a, data := data, mask := mask }))

/-- The spacing since the last admitted tracked write has passed, with the clock at that moment: the throttle reports it and the held
write is examined again (R7, R123; log 1). -/
def State.spacingPassed (s : State) : State :=
  if s.inFeed && s.passRunning && s.review.throttle != 0 then
    match s.review.lastAdmitted with
    | none => s
    | some k => (s.advance (spacingOf s.review.throttle - (s.chassis.tick - k))).reexamine
  else s

/-- THROTTLE_SPACING_PASSED (R123). -/
def execThrottleSpacingPassed (s : State) : Host.Outcome State Fault Refusal := .next (s.liveEvent State.spacingPassed)

/-! ### Snooped words -/

/-- SHADOW_WRITE (R167): a snooped write to slot offset `index` + 1; an empty mask is not snooped (R5). -/
def execShadowWrite (index : Fin 7) (data : Word) (mask : Mask) (s : State) : Host.Outcome State Fault Refusal :=
  .next (s.liveEvent fun s => if mask = 0 then s else s.snoop (index.val + 1) data mask)

/-- STRAY_TRIGGER (R168): a snooped write to offset 0 that fails a test of a trigger; one that fails none is another command (log 2). -/
def execStrayTrigger (data : Word) (mask : Mask) (s : State) : Host.Outcome State Fault Refusal :=
  .next (s.liveEvent fun s => if mask = 0 ∨ s.validTrigger data mask then s else s.snoop 0 data mask)

/-- A full write of a trigger word with this number and code is snooped at offset 0 (R168). -/
def State.trigger (number code : Byte) (s : State) : State := s.snoop 0 (triggerWord number code) fullMask

/-- UNKNOWN_KIND (R169): a trigger whose code names no kind; one that names a kind is another command (log 2). -/
def execUnknownKind (number code : Byte) (s : State) : Host.Outcome State Fault Refusal :=
  .next (s.liveEvent fun s => if kindOfCode code = none then s.trigger number code else s)

/-- SETUP (R170). -/
def execSetup (number : Byte) (s : State) : Host.Outcome State Fault Refusal :=
  .next (s.liveEvent (State.trigger number DirKind.setup.code))

/-- REGION (R22, R171). -/
def execRegion (number : Byte) (s : State) : Host.Outcome State Fault Refusal :=
  .next (s.liveEvent (State.trigger number DirKind.region.code))

/-- FEED (R147, R172). -/
def execFeed (number : Byte) (s : State) : Host.Outcome State Fault Refusal :=
  .next (s.liveEvent (State.trigger number DirKind.feed.code))

/-- TAKE (R158, R172). -/
def execTake (number : Byte) (s : State) : Host.Outcome State Fault Refusal :=
  .next (s.liveEvent (State.trigger number DirKind.take.code))

/-- HANDOVER (R154, R173). -/
def execHandover (number : Byte) (s : State) : Host.Outcome State Fault Refusal :=
  .next (s.liveEvent (State.trigger number DirKind.handover.code))

/-- RELEASE (R157, R173). -/
def execRelease (number : Byte) (s : State) : Host.Outcome State Fault Refusal :=
  .next (s.liveEvent (State.trigger number DirKind.release.code))

/-- ABORT (R157, R162, R173). -/
def execAbort (number : Byte) (s : State) : Host.Outcome State Fault Refusal :=
  .next (s.liveEvent (State.trigger number DirKind.abort.code))

/-- ADOPT (R162, R173). -/
def execAdopt (number : Byte) (s : State) : Host.Outcome State Fault Refusal :=
  .next (s.liveEvent (State.trigger number DirKind.adopt.code))

/-- NOTICES (R175). -/
def execNotices (number : Byte) (s : State) : Host.Outcome State Fault Refusal :=
  .next (s.liveEvent (State.trigger number DirKind.notices.code))

/-- ACKNOWLEDGE (R176). -/
def execAcknowledge (number : Byte) (s : State) : Host.Outcome State Fault Refusal :=
  .next (s.liveEvent (State.trigger number DirKind.acknowledge.code))

/-- REFRESH (R174). -/
def execRefresh (number : Byte) (s : State) : Host.Outcome State Fault Refusal :=
  .next (s.liveEvent (State.trigger number DirKind.refresh.code))

end Sys2Proof.Machine
end

