-- ==== Sys2Proof/Machine/Feeding.lean ====
section
/-! DEFINITION. The steps the feed's blocks make by themselves: the walker, the queue's places, the ends of a pass and of the drains, the
abandonment of a freeze, the handover's overrun (R45, R47, R54, R125, R132, R137, R149, R150, R155, R156). -/

namespace Sys2Proof.Machine

open Sys2Proof

/-- SEG_FRAME_QUEUED (R54). -/
def execSegFrameQueued (s : State) : Host.Outcome State Fault Refusal := .next (s.liveEvent State.queueSeg)

/-- WALKER_STEP (R45, R46, R48). -/
def execWalkerStep (s : State) : Host.Outcome State Fault Refusal := .next (s.liveEvent State.walkStep)

/-- The pass ends where its condition holds, and the review runs at once (R47). -/
def State.endPass (s : State) : State := if s.passAtEnd then s.runReview else s

/-- PASS_END (R47). -/
def execPassEnd (s : State) : Host.Outcome State Fault Refusal := .next (s.liveEvent State.endPass)

/-- The freeze drain is complete (R132). -/
def State.freezeDrained (s : State) : Bool := s.inFeed && s.session.state == .freeze && s.drained

/-- REPLAY is entered, and left in the same event when the overlay is empty (R132, R135). -/
def State.enterReplay (s : State) : State :=
  (({ s with freeze := { s.freeze with timer := none } } : State).setState .replay).endReplay

/-- DRAIN_COMPLETE (R132). -/
def execDrainComplete (s : State) : Host.Outcome State Fault Refusal :=
  .next (s.liveEvent fun s => if s.freezeDrained then s.enterReplay else s)

/-- The throttle rises at an abandonment when it is enabled and below 3 (R125). -/
def State.raiseAtAbandon (s : State) : State :=
  if s.settings.throttleOn && decide (s.review.throttle < 3) then s.setThrottle (s.review.throttle + 1) else s

/-- A freeze is abandoned: the timer stops, the flush, the throttle, CATCHUP with a new pass, FREEZE_OVERRUN (R125, R137). -/
def State.abandonFreeze (s : State) : State :=
  let s := { s with freeze := { s.freeze with timer := none } }
  let s := s.flushContinuing.raiseAtAbandon
  let s := (s.setState .catchup).startPass (satAdd 255 s.review.passNumber 1)
  s.recordFault .freezeOverrun

/-- The freeze timer reaches its limit in FREEZE, the clock standing at that moment (R131, R137; log 1). -/
def State.freezeExpired (s : State) : State :=
  if s.inFeed && s.session.state == .freeze then
    match s.freeze.timer with
    | none => s
    | some t => (s.advance (s.settings.freezeTicks - t)).abandonFreeze
  else s

/-- FREEZE_ABANDON (R137). -/
def execFreezeAbandon (s : State) : Host.Outcome State Fault Refusal := .next (s.liveEvent State.freezeExpired)

/-- A waiting INSTEP offer is taken as a place is free (R76, R149). -/
def State.takeInstep (s : State) : State :=
  if s.inFeed && s.feed.instepWaiting && s.feed.hasPlace then
    let s := s.enqueue .instep
    { s with feed := { s.feed with instepWaiting := false } }
  else s

/-- INSTEP_QUEUED (R149). -/
def execInstepQueued (s : State) : Host.Outcome State Fault Refusal := .next (s.liveEvent State.takeInstep)

/-- A waiting STALE offer is taken as a place is free, behind an INSTEP that waits (R76, R150). -/
def State.takeStale (s : State) : State :=
  if s.inFeed && s.session.stalePending && !s.feed.instepWaiting && s.feed.hasPlace then
    let s := s.enqueue .stale
    { s with session := { s.session with stalePending := false } }
  else s

/-- STALE_QUEUED (R150). -/
def execStaleQueued (s : State) : Host.Outcome State Fault Refusal := .next (s.liveEvent State.takeStale)

/-- The handover drain is complete, no state frame waiting (R76, R155; log 42). -/
def State.handoverDrained (s : State) : Bool :=
  s.inFeed && s.session.state == .handover && s.drained && s.freeze.entries.isEmpty && !s.feed.instepWaiting && !s.session.stalePending

/-- HANDOVER_DRAIN_COMPLETE (R155): the HANDOVER frame is queued. -/
def execHandoverDrainComplete (s : State) : Host.Outcome State Fault Refusal :=
  .next (s.liveEvent fun s => if s.handoverDrained then s.enqueue .handover else s)

/-- The freeze timer reaches its limit in HANDOVER, the clock standing at that moment: FREEZE_OVERRUN, CLOSE(INCOMPLETE) (R156, R157;
log 1). -/
def State.handoverExpired (s : State) : State :=
  if s.inFeed && s.session.state == .handover then
    match s.freeze.timer with
    | none => s
    | some t => ((s.advance (s.settings.freezeTicks - t)).recordFault .freezeOverrun).endFeed (some .incomplete)
  else s

/-- HANDOVER_OVERRUN (R156). -/
def execHandoverOverrun (s : State) : Host.Outcome State Fault Refusal := .next (s.liveEvent State.handoverExpired)

end Sys2Proof.Machine
end

