-- ==== Sys2Proof/Machine/Timers.lean ====
section
/-! DEFINITION. The commands that are the expiry of a timer or an interval: each carries the clock forward to that moment and has its
effect there (R65, R67, R69, R72, R74, R83, R153, R160; log 1). -/

namespace Sys2Proof.Machine

open Sys2Proof

/-- A TRAIN may be sent: in TRAINING or UP unconfirmed, the filtered PEER_PRESENT level high (R65, R66). -/
def State.trains (s : State) : Bool :=
  (s.link.state == .training || (s.link.state == .up && !s.link.confirmed)) && s.chassis.peerFiltered

/-- The 10 us TRAIN interval expires (R65, R66). With the filtered PEER_PRESENT level low no TRAIN is due any more, also not one that was due
before (DESIGN CHOICE, unsafe, log 50). -/
def State.trainTick (s : State) : State :=
  if s.link.state == .training || (s.link.state == .up && !s.link.confirmed) then
    let s := s.advance (Config.ticks10us - s.link.trainTimer)
    { s with link := { s.link with trainTimer := 0, trainDue := s.chassis.peerFiltered } }
  else s

/-- TRAIN_DUE (R65). -/
def execTrainDue (s : State) : Host.Outcome State Fault Refusal := .next (s.liveEvent State.trainTick)

/-- The 100 us GREET interval expires while GREET is repeated (R69). -/
def State.greetTick (s : State) : State :=
  if s.inFeed && s.link.state == .up && s.link.greeting then
    let s := s.advance (Config.ticks100us - s.link.greetTimer)
    { s with link := { s.link with greetTimer := 0, greetDue := true } }
  else s

/-- GREET_REPEAT_DUE (R69). -/
def execGreetRepeatDue (s : State) : Host.Outcome State Fault Refusal := .next (s.liveEvent State.greetTick)

/-- The 100 us LAYOUT interval expires in INSTALL (R72). -/
def State.layoutTick (s : State) : State :=
  if s.inFeed && s.link.state == .up && s.session.state == .install then
    let s := s.advance (Config.ticks100us - s.link.layoutTimer)
    { s with link := { s.link with layoutTimer := 0, layoutDue := true } }
  else s

/-- LAYOUT_REPEAT_DUE (R72). -/
def execLayoutRepeatDue (s : State) : Host.Outcome State Fault Refusal := .next (s.liveEvent State.layoutTick)

/-- The 100 us REWIND interval expires in DISCARD (R83). -/
def State.rewindTick (s : State) : State :=
  if s.inTake && s.link.state == .up && s.take.rx == .discard then
    let s := s.advance (Config.ticks100us - s.link.rewindTimer)
    { s with link := { s.link with rewindTimer := 0, rewindDue := true } }
  else s

/-- REWIND_REPEAT_DUE (R83). -/
def execRewindRepeatDue (s : State) : Host.Outcome State Fault Refusal := .next (s.liveEvent State.rewindTick)

/-- Nothing has been sent for 10 us on a confirmed link: a PULSE or a keep-alive ACK is due (R67). -/
def State.keepAlive (s : State) : State :=
  let s := s.advance (Config.ticks10us - s.link.idle)
  { s with link := { s.link with keepAliveDue := true } }

/-- PULSE_DUE (R67). -/
def execPulseDue (s : State) : Host.Outcome State Fault Refusal :=
  .next (s.liveEvent fun s => if s.inFeed && s.link.state == .up && s.link.confirmed then s.keepAlive else s)

/-- KEEPALIVE_ACK_DUE (R67). -/
def execKeepaliveAckDue (s : State) : Host.Outcome State Fault Refusal :=
  .next (s.liveEvent fun s => if s.inTake && s.link.state == .up && s.link.confirmed then s.keepAlive else s)

/-- The silence timer reaches its limit on an UP link: the link is lost (R67, R68). -/
def State.silenceExpired (s : State) : State :=
  if s.link.state = .up then (s.advance (s.settings.silenceTicks - s.link.silence)).loseLink else s

/-- SILENCE_TIMEOUT (R67). -/
def execSilenceTimeout (s : State) : Host.Outcome State Fault Refusal := .next (s.liveEvent State.silenceExpired)

/-- The bring-up timer reaches its limit: the session ends, with no CLOSE (R74). -/
def State.bringupExpired (s : State) : State :=
  match s.link.bringup with
  | none => s
  | some t => ((s.advance (s.settings.bringupTicks - t)).recordFault .bringupTimeout).endSession none

/-- BRINGUP_TIMEOUT (R74). -/
def execBringupTimeout (s : State) : Host.Outcome State Fault Refusal := .next (s.liveEvent State.bringupExpired)

/-- The hold timer reaches its limit in SUSPENDED: the session ends, with no CLOSE (R153). -/
def State.feedHoldExpired (s : State) : State :=
  if s.inFeed && s.session.state == .suspended then
    match s.session.hold with
    | none => s
    | some t => ((s.advance (s.settings.holdTicks - t)).recordFault .linkLost).endFeed none
  else s

/-- FEED_HOLD_TIMEOUT (R153). -/
def execFeedHoldTimeout (s : State) : Host.Outcome State Fault Refusal := .next (s.liveEvent State.feedHoldExpired)

/-- The hold timer reaches its limit in HELD: DETACHED (R160). -/
def State.takeHoldExpired (s : State) : State :=
  if s.inTake && s.session.state == .held then
    match s.session.hold with
    | none => s
    | some t => ((s.advance (s.settings.holdTicks - t)).recordFault .linkLost).enterDetached
  else s

/-- TAKE_HOLD_TIMEOUT (R160). -/
def execTakeHoldTimeout (s : State) : Host.Outcome State Fault Refusal := .next (s.liveEvent State.takeHoldExpired)

end Sys2Proof.Machine
end

