-- ==== Sys2Proof/Machine/Transmit.lean ====
section
/-! DEFINITION. The transmitter of both roles: what is sent next, and what its sending does (R65, R69, R72, R78, R79, R85, R87). -/

namespace Sys2Proof.Machine

open Sys2Proof

/-- A due TRAIN is sent, on all four lanes (R65; log 36). -/
def State.sendTrain (role : LinkRole) (s : State) : State :=
  ({ s with link := { s.link with trainDue := false } } : State).send (.train role s.chassis.slotId)

/-- The kind of GREET: FRESH in BRINGUP, the resume kind in SUSPENDED (R69). -/
def State.greetKind (s : State) : GreetKind := if s.session.state = .suspended then s.session.resumeKind else .fresh

/-- A due GREET is sent (R69). -/
def State.sendGreet (s : State) : State :=
  ({ s with link := { s.link with greetDue := false } } : State).send
    (.greet s.greetKind s.session.id s.chassis.msize s.chassis.slotId)

/-- A due LAYOUT is sent, with the table as it stands (R24, R72). -/
def State.sendLayout (s : State) : State :=
  ({ s with link := { s.link with layoutDue := false } } : State).send (.layout s.regions)

/-- The frame at the head of the queue may be sent (R78, R79). -/
def State.headReady (s : State) : Bool :=
  s.link.state == .up && s.link.numbering && s.feed.rewound.isNone && !s.feed.queue.isEmpty
    && decide (s.feed.credits < Config.receiveSlots)

/-- A SEG frame is sent during a pass (R113). -/
def State.countsC (s : State) (f : SeqFrame) : Bool :=
  s.passRunning && (match f with | .seg _ _ => true | .mir _ => false | .instep => false | .stale => false | .handover => false)

/-- The head of the queue is sent: it takes the next number and goes to the end of the window, the sent total rises, a SEG frame is
counted in C, an INSTEP or STALE raises STEP (R78, R113). -/
def State.sendHead (s : State) : State :=
  match s.feed.queue with
  | [] => s
  | f :: rest =>
    let n := s.feed.nextNumber
    let s := { s with
      feed := { s.feed with queue := rest, window := s.feed.window ++ [(n, f)], nextNumber := n + 1,
                            sentTotal := s.feed.sentTotal + 1 }
      review := if s.countsC f then { s.review with c := satAdd Config.topC s.review.c 1 } else s.review }
    let s := if (stepOf f).isSome then s.raise .step else s
    s.send (.sequenced n f)

/-- The pending REWOUND is sent (R87). -/
def State.sendRewound (e : Seq) (s : State) : State :=
  ({ s with feed := { s.feed with rewound := none } } : State).send (.rewound e)

/-- What a feed sends next: REWOUND, TRAIN, GREET or LAYOUT, the queue's head, PULSE (R78). -/
def State.transmitFeed (s : State) : State :=
  let up := s.link.state == .up
  if up && s.feed.rewound.isSome then s.sendRewound (s.feed.rewound.getD 0)
  else if s.trains && s.link.trainDue then s.sendTrain .feed
  else if up && s.link.greetDue then s.sendGreet
  else if up && s.link.layoutDue && s.session.state == .install then s.sendLayout
  else if s.headReady then s.sendHead
  else if up && s.link.confirmed && s.link.keepAliveDue then s.send .pulse
  else s

/-- The oldest GREET_ECHO that is due is sent; the rest stay due (R70). -/
def State.sendEcho (e : Echo) (rest : List Echo) (s : State) : State :=
  ({ s with link := { s.link with echoDue := rest } } : State).send (.greetEcho e)

/-- An ACK is built as it is sent (R85). -/
def State.sendAck (s : State) : State :=
  ({ s with link := { s.link with ackDue := false } } : State).send
    (.ack s.take.ackSeq s.take.freed (BitVec.ofNat 16 s.take.failTotal) s.session.state)

/-- A READY that is due is sent; the others stay due (R72). -/
def State.sendReady (s : State) : State :=
  ({ s with link := { s.link with readyDue := s.link.readyDue - 1 } } : State).send .ready

/-- A READY is sent if one is due, else an ACK that is due on a confirmed link (R72, R78, R85). -/
def State.sendReadyOrAck (s : State) : State :=
  if s.link.readyDue ≠ 0 then s.sendReady
  else if s.link.confirmed && (s.link.ackDue || s.link.keepAliveDue) then s.sendAck
  else s

/-- What a take sends next: REWIND, TRAIN, GREET_ECHO, READY, ACK (R78). -/
def State.transmitTake (s : State) : State :=
  let up := s.link.state == .up
  if up && s.link.rewindDue && s.take.rx == .discard then
    ({ s with link := { s.link with rewindDue := false } } : State).send (.rewind s.take.expected)
  else if s.trains && s.link.trainDue then s.sendTrain .take
  else if up then
    match s.link.echoDue with
    | e :: rest => s.sendEcho e rest
    | [] => s.sendReadyOrAck
  else s

/-- The transmitter is free: the first frame that is ready is sent (R78). A CLOSE, which goes before all of them, never waits here: it has
been sent in the event that ended its session (R75; log 7). -/
def State.transmit (s : State) : State :=
  if s.inFeed then s.transmitFeed else if s.inTake then s.transmitTake else s

/-- TRANSMIT_FRAME (R78). -/
def execTransmitFrame (s : State) : Host.Outcome State Fault Refusal := .next (s.liveEvent State.transmit)

end Sys2Proof.Machine
end

