-- ==== Sys2Proof/Machine/Receive.lean ====
section
/-! DEFINITION. The frames that arrive (R63 to R66, R68 to R75, R80 to R84, R86, R90, R151, R159 to R161). -/

namespace Sys2Proof.Machine

open Sys2Proof

/-! ### Who receives what (R61 to R63) -/

/-- A kind that a feed expects: a take discards it, and a part whose link is OFF receives nothing (R63). -/
def State.feedReceives (f : State → State) (s : State) : State :=
  if s.link.state = .off then s else if s.inTake then s.discardFrame else if s.inFeed then f s else s

/-- A kind that a take expects: a feed discards it, and a part whose link is OFF receives nothing (R63). -/
def State.takeReceives (f : State → State) (s : State) : State :=
  if s.link.state = .off then s else if s.inFeed then s.discardFrame else if s.inTake then f s else s

/-- A valid expected frame on an UP link restarts the silence timer, confirms the link and is handled; in TRAINING it is ignored (R65 to
R67). -/
def State.handled (f : State → State) (s : State) : State := if s.link.state = .up then f s.heard else s

/-! ### TRAIN (R65, R66) -/

/-- The role the part's own TRAIN carries (R65). -/
def State.linkRole (s : State) : LinkRole := if s.inTake then .take else .feed

/-- The link becomes UP; a feed in BRINGUP or SUSPENDED starts greeting (R60, R65, R69). -/
def State.linkUp (s : State) : State :=
  let greets := s.inFeed && (s.session.state == .bringup || s.session.state == .suspended)
  { s with link :=
    { s.link with state := .up, confirmed := false, lanes := laneCount s.link.seen, silence := 0, greeting := greets,
                  greetDue := greets, greetTimer := 0 } }

/-- A TRAIN of the opposite role arrives in TRAINING on a lane: it trains the link once lane 0 has carried one (R60, R65). While the filtered
PEER_PRESENT level is low the part stays in TRAINING; the lane counts as having carried a TRAIN all the same (R60, R65). -/
def State.trainOn (lane : BitVec 2) (s : State) : State :=
  let seen := s.link.seen ||| (1#4 <<< lane.toNat)
  let s := { s with link := { s.link with seen := seen } }
  if seen.getLsbD 0 && s.chassis.peerFiltered then s.linkUp else s

/-- A TRAIN of the opposite role arrives (R65, R66). -/
def State.oppositeTrain (lane : BitVec 2) (s : State) : State :=
  match s.link.state with
  | .off => s
  | .training => s.trainOn lane
  | .up => if s.link.confirmed then s.loseLink.trainOn lane else { s with link := { s.link with silence := 0 } }

/-- A TRAIN arrives: discarded with the part's own slot id, a role clash with its own role (R63, R65). -/
def State.trainArrives (lane : BitVec 2) (role : LinkRole) (slot : BitVec 1) (s : State) : State :=
  if s.link.state = .off then s
  else if slot = s.chassis.slotId then s.discardFrame
  else if !(s.inFeed || s.inTake) then s
  else if role = s.linkRole then (s.recordFault .roleClash).endSession none
  else s.oppositeTrain lane

/-- TRAIN_RECEIVED (R65). -/
def execTrainReceived (lane : BitVec 2) (role : LinkRole) (slot : BitVec 1) (s : State) : Host.Outcome State Fault Refusal :=
  .next (s.liveEvent (State.trainArrives lane role slot))

/-! ### GREET (R70, R159, R160) -/

/-- The verdict on a GREET that is not the one last answered (R70). -/
def State.judgeGreet (s : State) (kind : GreetKind) (session : BitVec 16) (size : BitVec 2) : Verdict × Reason :=
  match s.session.state, kind with
  | .bringup, .fresh => (.new, .none)
  | .held, .fresh => (.new, .none)
  | .detached, .fresh => (.new, .none)
  | .held, .resume =>
    if session = s.session.id then
      if size = s.session.sizeClass then (.resumed, .none) else (.refused, .mismatch)
    else (.refused, .noSession)
  | _, _ => (.refused, .noSession)

/-- What a verdict does at the take (R70, R73, R159, R160). -/
def State.giveVerdict (v : Verdict) (session : BitVec 16) (size : BitVec 2) (s : State) : State :=
  match v with
  | .new =>
    let s := { s with
      take := { s.take with awaitingLayout := true }
      session := { s.session with id := session, sizeClass := size, hold := none } }
    s.setState .bringup
  | .resumed =>
    let s := { s with session := { s.session with hold := none } }
    s.startNumberingTake.setState .receiving
  | .refused => s

/-- A GREET_ECHO is due, behind those already due (R70). -/
def State.owesEcho (e : Echo) (s : State) : State := { s with link := { s.link with echoDue := s.link.echoDue ++ [e] } }

/-- A GREET is answered: one identical to the last answered gets its verdict again; any other is judged, recorded and answered, and the
bring-up timer stops (R70, R74, R159). -/
def State.answerGreet (kind : GreetKind) (session : BitVec 16) (size : BitVec 2) (s : State) : State :=
  match s.session.greeted.filter fun g => g.session == session && g.kind == kind && g.size == size with
  | some g => s.owesEcho { session := session, verdict := g.verdict, reason := g.reason }
  | none =>
    let v := s.judgeGreet kind session size
    let s := (s.giveVerdict v.1 session size).owesEcho { session := session, verdict := v.1, reason := v.2 }
    { s with
      link := { s.link with bringup := none }
      session := { s.session with greeted := some { session := session, kind := kind, size := size, verdict := v.1, reason := v.2 } } }

/-- A GREET arrives at a take: discarded with the part's own slot id (R63, R70). -/
def State.greetArrives (kind : GreetKind) (session : BitVec 16) (size : BitVec 2) (slot : BitVec 1) (s : State) : State :=
  if slot = s.chassis.slotId then s.discardFrame else s.handled (State.answerGreet kind session size)

/-- GREET_RECEIVED (R70). -/
def execGreetReceived (kind : GreetKind) (session : BitVec 16) (size : BitVec 2) (slot : BitVec 1) (s : State) :
    Host.Outcome State Fault Refusal :=
  .next (s.liveEvent (State.takeReceives (State.greetArrives kind session size slot)))

/-! ### GREET_ECHO (R71, R148, R153) -/

/-- The first echo of a bring-up stops the repetition of GREET, the bring-up timer and the hold timer (R71, R74, R153). -/
def State.stopGreeting (s : State) : State :=
  { s with
    link := { s.link with greeting := false, greetDue := false, bringup := none }
    session := { s.session with hold := none } }

/-- NEW: INSTALL, and LAYOUT is repeated (R72, R148, R153). -/
def State.echoNew (s : State) : State :=
  let s := s.stopGreeting
  let s := { s with link := { s.link with layoutDue := true, layoutTimer := 0 } }
  s.setState .install

/-- RESUMED: numbering, UNSENT to DIRTY, CATCHUP with pass 1 and no D_prev (R27, R73, R112, R114, R153). -/
def State.echoResumed (s : State) : State :=
  let s := s.stopGreeting.startNumberingFeed.unsentToDirty
  let s := { s with review := { s.review with dPrev := none } }
  (s.setState .catchup).startPass 1

/-- The first echo of a bring-up, by verdict; the combinations that the guide says cannot arise change nothing (R71, R148, R153; log
15). -/
def State.firstEcho (v : Verdict) (s : State) : State :=
  match s.session.state, v with
  | .bringup, .new => s.echoNew
  | .suspended, .new => if s.session.resumeKind = .fresh then s.echoNew else s
  | .suspended, .resumed => if s.session.resumeKind = .resume then s.echoResumed else s
  | .bringup, .refused => (s.recordFault .refusedByPeer).endFeed none
  | .suspended, .refused => (s.recordFault .refusedByPeer).endFeed none
  | _, _ => s

/-- A GREET_ECHO arrives at a feed: with another session id it is counted as discarded; after the first it is a duplicate (R69, R71). -/
def State.echoArrives (session : BitVec 16) (v : Verdict) (s : State) : State :=
  if session ≠ s.session.id then s.discardFrame
  else s.handled fun s => if s.link.greeting then s.firstEcho v else s

/-- GREET_ECHO_RECEIVED (R71): the refusal reason has no effect at the feed. -/
def execGreetEchoReceived (session : BitVec 16) (verdict : Verdict) (_reason : Reason) (s : State) :
    Host.Outcome State Fault Refusal :=
  .next (s.liveEvent (State.feedReceives (State.echoArrives session verdict)))

/-! ### LAYOUT and READY (R23, R72, R73, R104, R142, R148, R159) -/

/-- A LAYOUT is identical to the installed one: one is installed, and all 16 entries agree in all five fields (R72). The installed entries
are those of the table, where an empty entry holds the values of R19 (log 48). -/
def State.sameLayout (s : State) (es : Vector LayoutEntry 16) : Bool := s.session.layoutInstalled && layoutIdentical es s.regions

/-- A LAYOUT that fits is installed: the table, blocking, INSTALL, the fill unit (R23, R104, R159). -/
def State.installLayout (es : Vector LayoutEntry 16) (s : State) : State :=
  let s := { s with
    regions := layoutTable es
    take := { s.take with awaitingLayout := false }
    session := { s.session with layoutInstalled := true } }
  (s.setState .install).fillFrom 0

/-- A LAYOUT reaches a take that awaits one: not while the overlay holds an entry, a misfit ends the session, a fit is installed (R23,
R72, R142). A misfit that comes while the overlay holds an entry is discarded: R142 and R72 do not order their tests, and the overlay's is
made first (DESIGN CHOICE, unsafe, log 49). -/
def State.awaitedLayout (es : Vector LayoutEntry 16) (s : State) : State :=
  if s.freeze.entries ≠ [] then s.discardFrame
  else if layoutMisfits s.chassis.msize es then (s.heard.recordFault .layoutMisfit).endTake (some .misfit)
  else s.heard.installLayout es

/-- A LAYOUT arrives at a take, by its state; each identical one after the fills makes one more READY due (R72, R106). -/
def State.layoutArrives (es : Vector LayoutEntry 16) (s : State) : State :=
  if s.link.state ≠ .up then s.discardFrame
  else if s.session.state = .bringup ∧ s.take.awaitingLayout then s.awaitedLayout es
  else if s.session.state = .install ∧ s.sameLayout es then s.heard
  else if (s.session.state = .receiving ∨ s.session.state = .synced) ∧ s.sameLayout es then
    let s := s.heard
    { s with link := { s.link with readyDue := s.link.readyDue + 1 } }
  else s.discardFrame

/-- LAYOUT_RECEIVED (R72). -/
def execLayoutReceived (entries : Vector LayoutEntry 16) (s : State) : Host.Outcome State Fault Refusal :=
  .next (s.liveEvent (State.takeReceives (State.layoutArrives entries)))

/-- READY in INSTALL: numbering, SWEEP, pass 1; in any other state nothing more (R73, R148). -/
def State.readyAtFeed (s : State) : State :=
  if s.session.state = .install then (s.startNumberingFeed.setState .sweep).startPass 1 else s

/-- READY_RECEIVED (R73). -/
def execReadyReceived (s : State) : Host.Outcome State Fault Refusal :=
  .next (s.liveEvent (State.feedReceives (State.handled State.readyAtFeed)))

/-! ### Sequenced frames at the take (R82, R83, R90, R91) -/

/-- A MIR frame's record count is 1 to 8 (R63); any other sequenced frame passes. -/
def seqFrameOk (f : SeqFrame) : Bool :=
  match f with
  | .mir rs => 1 ≤ rs.length && rs.length ≤ Config.mirRecords
  | .seg _ _ => true
  | .instep => true
  | .stale => true
  | .handover => true

/-- The frame is the next one and finds a free slot, in IN_ORDER with numbering active (R82). -/
def State.acceptsSeq (s : State) (q : Seq) : Bool :=
  s.link.state == .up && s.link.numbering && s.take.rx == .inOrder && q == s.take.expected
    && decide (s.take.buffer.length < Config.receiveSlots)

/-- A frame is accepted: into the buffer, the expected number up by 1, and the apply unit goes on (R82, R90, R91). -/
def State.acceptSeq (q : Seq) (f : SeqFrame) (s : State) : State :=
  let s := s.heard
  let s := { s with take := { s.take with buffer := s.take.buffer ++ [(q, f)], expected := s.take.expected + 1 } }
  s.applyOn

/-- A sequenced frame arrives at a take: accepted, or discarded and counted, an IN_ORDER take then entering DISCARD (R63, R82, R83). -/
def State.seqArrives (q : Seq) (f : SeqFrame) (s : State) : State :=
  if seqFrameOk f && s.acceptsSeq q then s.acceptSeq q f else s.discardFrame

/-- SEQUENCED_FRAME_RECEIVED (R82). -/
def execSequencedFrameReceived (seq : Seq) (frame : SeqFrame) (s : State) : Host.Outcome State Fault Refusal :=
  .next (s.liveEvent (State.takeReceives (State.seqArrives seq frame)))

/-! ### ACK (R80, R151, R155) -/

/-- The number of the window's oldest frame, or the next number (R80). -/
def Feed.oldest (f : Feed) : Seq := (f.window.head?.map Prod.fst).getD f.nextNumber

/-- The feed's three cases of an ack sequence (R80). -/
inductive AckCase where
  /-- So many frames, oldest first, are retired. -/
  | retires (count : Nat)
  /-- The ACK is older than frames already retired, or its ack sequence is NONE. -/
  | nothing
  /-- The take has applied frames the feed has withdrawn. -/
  | lost
  deriving DecidableEq, Repr

/-- Which case an ack sequence is (R80). -/
def Feed.ackCase (f : Feed) (k : Option Seq) : AckCase :=
  match k with
  | none => .nothing
  | some k =>
    let d := (k - f.oldest).toNat
    if d < f.window.length then .retires (d + 1)
    else if (k - f.nextNumber).toNat < 32768 then .lost
    else .nothing

/-- The window's oldest `n` frames are retired, oldest first (R37, R80, R151). -/
def State.retire (n : Nat) (s : State) : State :=
  let gone := (s.feed.window.take n).map Prod.snd
  let left := (s.feed.window.drop n).map Prod.snd ++ s.feed.queue
  State.retireAll gone left { s with feed := { s.feed with window := s.feed.window.drop n } }

/-- The ACK's freed total and figures are kept; a change of the peer fail total raises FAULT (R80). -/
def State.keepFigures (freed : BitVec 8) (fails : BitVec 16) (st : SessState) (s : State) : State :=
  let s := if s.feed.peerFail = fails.toNat then s else s.raise .fault
  { s with feed := { s.feed with freedTotal := freed, peerFail := fails.toNat, peerState := some st } }

/-- An ACK with numbering active that shows no withdrawn frame applied: retirement, figures, the end of a handover, the test of the freed
total (R80, R155; log 24). -/
def State.takeAck (n : Nat) (freed : BitVec 8) (fails : BitVec 16) (st : SessState) (s : State) : State :=
  let done := (s.feed.window.take n).any fun e => e.2 == .handover
  let s := (s.retire n).keepFigures freed fails st
  if done then s.endFeed (some .complete)
  else if 128 ≤ s.feed.credits then s.loseLink
  else s

/-- An ACK at a feed (R80). -/
def State.ackAtFeed (k : Option Seq) (freed : BitVec 8) (fails : BitVec 16) (st : SessState) (s : State) : State :=
  if s.link.numbering then
    match s.feed.ackCase k with
    | .lost => s.loseLink
    | .nothing => s.takeAck 0 freed fails st
    | .retires n => s.takeAck n freed fails st
  else s

/-- ACK_RECEIVED (R80). -/
def execAckReceived (ack : Option Seq) (freed : BitVec 8) (fails : BitVec 16) (state : SessState) (s : State) :
    Host.Outcome State Fault Refusal :=
  .next (s.liveEvent (State.feedReceives (State.handled (State.ackAtFeed ack freed fails state))))

/-! ### REWIND and REWOUND (R84, R86, R87, R151) -/

/-- REWOUND(e) becomes pending and the feed's rewind count rises (R86). -/
def State.pendRewound (e : Seq) (s : State) : State :=
  { s with feed := { s.feed with rewound := some e, rewinds := satAdd Config.top16 s.feed.rewinds 1 } }

/-- What the session controller does after a withdrawal (R151). -/
def State.afterWithdrawal (frames : List SeqFrame) (s : State) : State :=
  if s.lastStep = .stale then { s with session := { s.session with stalePending := false } }
  else if frames.contains .stale then s.offerStale
  else s

/-- Every window frame from place `d` on is withdrawn: removed together, their effects judged against the frames that remain, the sent
total and the next number set back (R38, R81, R86). -/
def State.withdrawFrom (d : Nat) (e : Seq) (s : State) : State :=
  let gone := (s.feed.window.drop d).map Prod.snd
  let left := (s.feed.window.take d).map Prod.snd ++ s.feed.queue
  let s := { s with feed :=
    { s.feed with window := s.feed.window.take d, nextNumber := e, sentTotal := s.feed.sentTotal - BitVec.ofNat 8 gone.length } }
  ((s.withdrawAll gone left).pendRewound e).afterWithdrawal gone

/-- A REWIND at a feed (R86). -/
def State.rewindAtFeed (e : Seq) (s : State) : State :=
  if s.link.numbering then
    let d := (e - s.feed.oldest).toNat
    if d < s.feed.window.length then s.withdrawFrom d e
    else if e = s.feed.nextNumber then s.pendRewound e
    else (s.recordFault .protocol).endFeed (some .faulted)
  else s

/-- REWIND_RECEIVED (R86). -/
def execRewindReceived (e : Seq) (s : State) : Host.Outcome State Fault Refusal :=
  .next (s.liveEvent (State.feedReceives (State.handled (State.rewindAtFeed e))))

/-- A REWOUND at a take (R84). Back in IN_ORDER no REWIND is sent, also not one that DISCARD made due and the transmitter has not yet sent:
R83 has it sent at the entry and R84 only ends the repeats (DESIGN CHOICE, unsafe, log 45). -/
def State.rewoundAtTake (e : Seq) (s : State) : State :=
  if s.link.numbering then
    if e = s.take.expected then
      if s.take.rx = .discard then
        { s with take := { s.take with rx := .inOrder }, link := { s.link with rewindDue := false } }
      else s
    else s.loseLink
  else s

/-- REWOUND_RECEIVED (R84). -/
def execRewoundReceived (e : Seq) (s : State) : Host.Outcome State Fault Refusal :=
  .next (s.liveEvent (State.takeReceives (State.handled (State.rewoundAtTake e))))

/-! ### PULSE and CLOSE (R67, R75, R157, R161) -/

/-- PULSE_RECEIVED (R67): the silence timer restarts. -/
def execPulseReceived (s : State) : Host.Outcome State Fault Refusal :=
  .next (s.liveEvent (State.takeReceives (State.handled id)))

/-- The reasons a feed gives (R61). -/
def feedReason (r : CloseReason) : Bool :=
  r == .complete || r == .incomplete || r == .released || r == .aborted || r == .faulted

/-- The reasons a take gives (R62). -/
def takeReason (r : CloseReason) : Bool := r == .adopted || r == .aborted || r == .lockout || r == .misfit

/-- A CLOSE from the take ends the feed's session, with CLOSED_BY_PEER unless the reason is ADOPTED, and with no CLOSE in reply (R157). -/
def State.closeAtFeed (r : CloseReason) (s : State) : State :=
  let s := if r = .adopted then s else s.recordFault .closedByPeer
  s.endFeed none

/-- A CLOSE from the feed: FINAL and DETACHED stay, any other state becomes DETACHED, with CLOSED_BY_PEER for three reasons; the link
becomes TRAINING (R75, R161). -/
def State.closeAtTake (r : CloseReason) (s : State) : State :=
  if s.session.state = .final ∨ s.session.state = .detached then s.retrain
  else
    let s := s.enterDetached
    let s := if r = .incomplete ∨ r = .aborted ∨ r = .faulted then s.recordFault .closedByPeer else s
    s.retrain

/-- A CLOSE arrives: one whose reason is not the sending role's is discarded (R75, R188). -/
def State.closeArrives (r : CloseReason) (s : State) : State :=
  if s.link.state = .off then s
  else if s.inFeed then (if takeReason r then s.handled (State.closeAtFeed r) else s.discardFrame)
  else if s.inTake then (if feedReason r then s.handled (State.closeAtTake r) else s.discardFrame)
  else s

/-- CLOSE_RECEIVED (R75). -/
def execCloseReceived (reason : CloseReason) (s : State) : Host.Outcome State Fault Refusal :=
  .next (s.liveEvent (State.closeArrives reason))

/-! ### Discarded runs of bytes (R63, R188) -/

/-- The part's role expects this frame from its peer: its kind, its slot id and its reason (R61 to R63, R188). -/
def State.expects (s : State) (c : Instr) : Bool :=
  match c with
  | .trainReceived _ _ slot => slot != s.chassis.slotId
  | .greetReceived _ _ _ slot => s.inTake && slot != s.chassis.slotId
  | .layoutReceived _ => s.inTake
  | .sequencedFrameReceived _ _ => s.inTake
  | .rewoundReceived _ => s.inTake
  | .pulseReceived => s.inTake
  | .greetEchoReceived _ _ _ => s.inFeed
  | .readyReceived => s.inFeed
  | .ackReceived _ _ _ _ => s.inFeed
  | .rewindReceived _ => s.inFeed
  | .closeReceived r => if s.inFeed then takeReason r else feedReason r
  | _ => false

/-- A run of bytes is discarded under R63 and R188: it makes no valid frame, or one the role does not expect. -/
def State.discards (s : State) (bytes : List Byte) : Bool :=
  match readFrame 0 bytes with
  | none => true
  | some c => !s.expects c

/-- FRAME_DISCARDED (R63): bytes that make a frame the part accepts are that frame's own command (log 28). -/
def execFrameDiscarded (bytes : List Byte) (s : State) : Host.Outcome State Fault Refusal :=
  .next (s.liveEvent fun s => if s.discards bytes then s.discardFrame else s)

end Sys2Proof.Machine
end

