-- ==== Sys2Proof/Machine/Dispatch.lean ====
section
/-! DEFINITION. The meaning of every command: one direct call of its definition, in the table's order. -/

namespace Sys2Proof.Machine

open Sys2Proof

/-- The meaning of a command, on everything but the queue of waiting commands. -/
def exec (i : Instr) (s : State) : Host.Outcome State Fault Refusal :=
  match i with
  | .coldReset resetN pins => Sys2Proof.Machine.execColdReset resetN pins s
  | .warmReset => Sys2Proof.Machine.execWarmReset s
  | .resetNRise pins => Sys2Proof.Machine.execResetNRise pins s
  | .lookupRead addr => Sys2Proof.Machine.execLookupRead addr s
  | .maintenanceRead addr => Sys2Proof.Machine.execMaintenanceRead addr s
  | .maintenanceWrite addr data mask => Sys2Proof.Machine.execMaintenanceWrite addr data mask s
  | .throttleSpacingPassed => Sys2Proof.Machine.execThrottleSpacingPassed s
  | .arbiterGrant => Sys2Proof.Machine.execArbiterGrant s
  | .shadowWrite index data mask => Sys2Proof.Machine.execShadowWrite index data mask s
  | .strayTrigger data mask => Sys2Proof.Machine.execStrayTrigger data mask s
  | .unknownKind number code => Sys2Proof.Machine.execUnknownKind number code s
  | .setup number => Sys2Proof.Machine.execSetup number s
  | .region number => Sys2Proof.Machine.execRegion number s
  | .feed number => Sys2Proof.Machine.execFeed number s
  | .take number => Sys2Proof.Machine.execTake number s
  | .handover number => Sys2Proof.Machine.execHandover number s
  | .release number => Sys2Proof.Machine.execRelease number s
  | .abort number => Sys2Proof.Machine.execAbort number s
  | .adopt number => Sys2Proof.Machine.execAdopt number s
  | .notices number => Sys2Proof.Machine.execNotices number s
  | .acknowledge number => Sys2Proof.Machine.execAcknowledge number s
  | .refresh number => Sys2Proof.Machine.execRefresh number s
  | .readResponse status data => Sys2Proof.Machine.execReadResponse status data s
  | .segFrameQueued => Sys2Proof.Machine.execSegFrameQueued s
  | .walkerStep => Sys2Proof.Machine.execWalkerStep s
  | .passEnd => Sys2Proof.Machine.execPassEnd s
  | .drainComplete => Sys2Proof.Machine.execDrainComplete s
  | .freezeAbandon => Sys2Proof.Machine.execFreezeAbandon s
  | .instepQueued => Sys2Proof.Machine.execInstepQueued s
  | .staleQueued => Sys2Proof.Machine.execStaleQueued s
  | .handoverDrainComplete => Sys2Proof.Machine.execHandoverDrainComplete s
  | .handoverOverrun => Sys2Proof.Machine.execHandoverOverrun s
  | .transmitFrame => Sys2Proof.Machine.execTransmitFrame s
  | .trainDue => Sys2Proof.Machine.execTrainDue s
  | .greetRepeatDue => Sys2Proof.Machine.execGreetRepeatDue s
  | .layoutRepeatDue => Sys2Proof.Machine.execLayoutRepeatDue s
  | .rewindRepeatDue => Sys2Proof.Machine.execRewindRepeatDue s
  | .pulseDue => Sys2Proof.Machine.execPulseDue s
  | .keepaliveAckDue => Sys2Proof.Machine.execKeepaliveAckDue s
  | .silenceTimeout => Sys2Proof.Machine.execSilenceTimeout s
  | .bringupTimeout => Sys2Proof.Machine.execBringupTimeout s
  | .feedHoldTimeout => Sys2Proof.Machine.execFeedHoldTimeout s
  | .takeHoldTimeout => Sys2Proof.Machine.execTakeHoldTimeout s
  | .frameDiscarded bytes => Sys2Proof.Machine.execFrameDiscarded bytes s
  | .trainReceived lane role slot => Sys2Proof.Machine.execTrainReceived lane role slot s
  | .greetReceived kind session size slot => Sys2Proof.Machine.execGreetReceived kind session size slot s
  | .greetEchoReceived session verdict reason => Sys2Proof.Machine.execGreetEchoReceived session verdict reason s
  | .layoutReceived entries => Sys2Proof.Machine.execLayoutReceived entries s
  | .readyReceived => Sys2Proof.Machine.execReadyReceived s
  | .sequencedFrameReceived seq frame => Sys2Proof.Machine.execSequencedFrameReceived seq frame s
  | .ackReceived ack freed fails state => Sys2Proof.Machine.execAckReceived ack freed fails state s
  | .rewindReceived e => Sys2Proof.Machine.execRewindReceived e s
  | .rewoundReceived e => Sys2Proof.Machine.execRewoundReceived e s
  | .pulseReceived => Sys2Proof.Machine.execPulseReceived s
  | .closeReceived reason => Sys2Proof.Machine.execCloseReceived reason s
  | .peerPresentChange level => Sys2Proof.Machine.execPeerPresentChange level s
  | .peerPresentFiltered => Sys2Proof.Machine.execPeerPresentFiltered s
  | .ejectEvent => Sys2Proof.Machine.execEjectEvent s
  | .ejectFall => Sys2Proof.Machine.execEjectFall s
  | .takeEnFall => Sys2Proof.Machine.execTakeEnFall s
  | .takeEnRise => Sys2Proof.Machine.execTakeEnRise s
  | .pwrGoodFall => Sys2Proof.Machine.execPwrGoodFall s

end Sys2Proof.Machine
end

