-- ==== Sys2Proof/Machine/Step.lean ====
section
/-! DEFINITION. One step: the command at the front of the queue, or one pace tick when none waits (log 1, log 31). -/

namespace Sys2Proof.Machine

open Sys2Proof

/-- The pace tick of an empty queue: nothing is driven and one tick passes (log 1). -/
def State.idleTick (s : State) : State := s.fresh.advance 1

/-- One step of the part: the front command runs on the state with the queue's rest; with no command waiting, one pace tick passes. -/
def step (s : State) : Host.Outcome State Fault Refusal :=
  match s.pending with
  | [] => .next s.idleTick
  | c :: rest => exec c { s with pending := rest }

/-- The state with the command that a word spells in front of its queue; unchanged where it spells none. -/
def State.withFetchWord (s : State) (nbits w : Nat) : State :=
  match decodeTableWord nbits w with
  | some c => { s with pending := c :: s.pending }
  | none => s

end Sys2Proof.Machine
end

