-- ==== Sys2Proof/Safety.lean ====
section
/-! DEFINITION. What counts as a safe state: the promises the guide makes about every moment of the part (R12, R25, R64, R76, R79, R89, R108,
R122, R126, R144). -/

namespace Sys2Proof.Machine

open Sys2Proof

/-- No list of the part is longer than the guide allows: read return list (R12), send queue (R76), receive buffer (R89), fault list (R108),
overlay (R126). -/
def State.bounded (s : State) : Prop :=
  s.path.returns.length ≤ Config.returnPlaces ∧ s.feed.queue.length ≤ Config.queuePlaces
    ∧ s.take.buffer.length ≤ Config.receiveSlots ∧ s.faults.list.length ≤ Config.faultPlaces
    ∧ s.freeze.entries.length ≤ Config.overlayPlaces

/-- No two overlay entries share a word address (R126). -/
def State.overlayDistinct (s : State) : Prop := (s.freeze.entries.map OverlayEntry.addr).Nodup

/-- No two fault list entries hold the same segment (R108). -/
def State.faultsDistinct (s : State) : Prop := (s.faults.list.map Prod.fst).Nodup

/-- Each frame of the window is counted in the credits in use, of which there are at most 8, so the window holds at most 8 frames (R79). -/
def State.windowFits (s : State) : Prop := s.feed.window.length ≤ s.feed.credits ∧ s.feed.credits ≤ Config.receiveSlots

/-- The freed total of an ACK agrees with what its ack sequence retires: it leaves the frames still in the window counted in the credits in
use, and takes no credit that the feed has not given out (R79, R80). A take that keeps R92 sends no other. -/
def State.ackAgrees (s : State) (k : Option Seq) (freed : BitVec 8) : Prop :=
  let retired := match s.feed.ackCase k with | .retires n => n | .nothing => 0 | .lost => 0
  s.feed.window.length - retired ≤ (s.feed.sentTotal - freed).toNat ∧ (s.feed.sentTotal - freed).toNat ≤ s.feed.credits

/-- The throttle level is 0 to 3, and 0 in STEADY, HANDOVER and IDLE and outside the feed role (R122). -/
def State.throttleLegal (s : State) : Prop :=
  s.review.throttle ≤ 3
    ∧ (s.inFeed = false ∨ s.session.state = .steady ∨ s.session.state = .handover → s.review.throttle = 0)

/-- The states of a feed session (R144, R185). -/
def feedState (st : SessState) : Bool :=
  match st with
  | .bringup => true
  | .install => true
  | .sweep => true
  | .catchup => true
  | .freeze => true
  | .replay => true
  | .steady => true
  | .suspended => true
  | .handover => true
  | _ => false

/-- The states of a take session (R144, R185). -/
def takeState (st : SessState) : Bool :=
  match st with
  | .bringup => true
  | .install => true
  | .receiving => true
  | .synced => true
  | .final => true
  | .held => true
  | .detached => true
  | _ => false

/-- The session state is IDLE or one of the role's (R144). -/
def State.stateLegal (s : State) : Prop :=
  match s.session.role with
  | .none => s.session.state = .idle
  | .feed => s.session.state = .idle ∨ feedState s.session.state = true
  | .take => s.session.state = .idle ∨ takeState s.session.state = true

/-- While a feed session is active the map holds one state, not NONE, for each tracked segment of the region table, in walk order; at any
other time every segment is NONE (R25, R26, R28). -/
def State.mapLegal (s : State) : Prop :=
  if s.inFeed then s.map.cells.map Prod.fst = walkOrder s.regions ∧ ∀ e ∈ s.map.cells, e.2 ≠ .notTracked
  else s.map.cells = []

/-- While the part has power, its link is OFF exactly in IDLE (R64). -/
def State.linkFollows (s : State) : Prop :=
  s.chassis.power = true → (s.link.state = .off ↔ s.session.state = .idle)

/-- Nothing is left for the end of a command to do: no signal stands, no INSTEP is to be offered or cancelled (R149), and a requester that
does not wait has no wait run (R15). -/
def State.settled (s : State) : Prop :=
  s.signals = .none ∧ s.instepTest = false
    ∧ (s.feed.instepWaiting = true → s.dirtyCount = 0 ∧ s.openCount = 0)
    ∧ ∀ r, s.waits r = false ∨ 4 ≤ s.settings.level r → s.path.waitRuns.get r = 0

/-- What a read of a word returns when memory holds `mem` there: the overlay entry's bytes over memory's (R9, R129). -/
def Freeze.view (f : Freeze) (a : Addr) (mem : Word) : Word :=
  match f.find a with
  | some e => mergeBytes e.mask e.data mem
  | none => mem

/-- Every promise together. -/
def State.safe (s : State) : Prop :=
  s.bounded ∧ s.overlayDistinct ∧ s.faultsDistinct ∧ s.windowFits ∧ s.throttleLegal ∧ s.stateLegal ∧ s.mapLegal ∧ s.linkFollows

/-! ### What commands are held to -/

/-- The command that is a trigger of this kind with this number (R168, R169). -/
def DirKind.command (k : DirKind) (number : Byte) : Instr :=
  match k with
  | .setup => .setup number
  | .region => .region number
  | .feed => .feed number
  | .take => .take number
  | .handover => .handover number
  | .release => .release number
  | .abort => .abort number
  | .adopt => .adopt number
  | .notices => .notices number
  | .acknowledge => .acknowledge number
  | .refresh => .refresh number

/-- Between `s` and `t` this fault alone has been recorded, and no fault list entry made (R146). -/
def faultAdded (f : SessFault) (s t : State) : Prop :=
  t.faults.list = s.faults.list ∧ t.faults.overflow = s.faults.overflow
    ∧ t.faults.summary = s.faults.summary ||| (1#12 <<< (f.code - 1)) ∧ t.faults.first = some (s.faults.first.getD f)
    ∧ t.notices.fault.pending = true

/-- What a session end that gives this CLOSE sends from `s`: the CLOSE where the link was UP, else nothing (R75, R146). -/
def closeSent (close : Option CloseReason) (s : State) : List TxFrame :=
  if s.link.state = .up then close.toList.map TxFrame.close else []

/-- The feed session of `s` has ended in `t` with this CLOSE (R28, R138, R157): IDLE, the map cleared with its two counts kept, buffers,
queue, window and waiting offers gone, every overlay entry FLUSHING, the throttle at 0, the freeze and hold timers stopped, the CLOSE
sent, the link OFF. -/
def feedEnded (close : Option CloseReason) (s t : State) : Prop :=
  t.session.state = .idle ∧ t.session.role = .feed ∧ t.session.id = s.session.id
    ∧ t.session.handoverPending = false ∧ t.session.stalePending = false ∧ t.session.hold = none
    ∧ t.session.lockout = s.session.lockout
    ∧ t.map = { cells := [], drift := s.map.drift, overflow := s.map.overflow }
    ∧ t.walker.buf0 = none ∧ t.walker.buf1 = none
    ∧ t.feed.queue = [] ∧ t.feed.window = [] ∧ t.feed.instepWaiting = false ∧ t.feed.rewound = none
    ∧ t.freeze = { entries := s.freeze.entries.map fun e => { e with flushing := true }, timer := none }
    ∧ t.review.throttle = 0 ∧ t.review.passNumber = s.review.passNumber
    ∧ t.link.state = .off ∧ t.link.numbering = false ∧ t.link.bringup = none ∧ t.out.link = closeSent close s
    ∧ t.regions = s.regions ∧ t.settings = s.settings

/-- The take session of `s` has ended in `t` with this CLOSE (R101, R102, R162): IDLE, the work of the apply and fill units and the receive
buffer gone, no request of either unit waiting, no layout installed, the CLOSE sent, the link OFF; the region table, the fail total and the
interrupted-apply record stay. -/
def takeEnded (close : Option CloseReason) (s t : State) : Prop :=
  t.session.state = .idle ∧ t.session.role = .take ∧ t.session.id = s.session.id ∧ t.session.sizeClass = s.session.sizeClass
    ∧ t.session.greeted = none ∧ t.session.layoutInstalled = false ∧ t.session.hold = none
    ∧ t.take.buffer = [] ∧ t.take.apply = none ∧ t.take.fill = none ∧ t.take.rx = .inactive
    ∧ t.take.failTotal = s.take.failTotal ∧ t.take.interrupted = s.take.interrupted
    ∧ t.offer .apply = none ∧ t.offer .fill = none
    ∧ t.link.state = .off ∧ t.link.numbering = false ∧ t.link.bringup = none ∧ t.out.link = closeSent close s
    ∧ t.regions = s.regions ∧ t.settings = s.settings ∧ t.freeze.entries = s.freeze.entries

/-- The command that handles a granted write to word 0 of the directive slot by itself: the directive its trigger names, or a stray trigger
(R168, R169; log 5). -/
def State.slotZeroCommand (s : State) (w : WriteReq) : Instr :=
  if s.validTrigger w.data w.mask then
    match kindOfCode (byteOf w.data 2) with
    | some k => k.command (byteOf w.data 1)
    | none => .unknownKind (byteOf w.data 1) (byteOf w.data 2)
  else .strayTrigger w.data w.mask

/-- Between `s` and `t` a verify of this segment has failed: it is listed with the cause, the fail total has gone up by 1, and VERIFY_FAIL is
recorded (R96, R98, R105, R109). -/
def verifyFailAdded (n : Segment) (c : Cause) (s t : State) : Prop :=
  t.faults.list = (s.faults.enter n c).list ∧ t.faults.overflow = (s.faults.enter n c).overflow ∧ (n, c) ∈ t.faults.list
    ∧ t.faults.summary = s.faults.summary ||| 0x080#12 ∧ t.faults.first = some (s.faults.first.getD .verifyFail)
    ∧ t.take.failTotal = min 65535 (s.take.failTotal + 1) ∧ t.notices.fault.pending = true

/-- The number a word holds in `len` bytes from byte `start` on (11.3). -/
def wordField (w : Word) (start len : Nat) : Nat := (w.extractLsb' (8 * start) (8 * len)).toNat

/-- A report's words hold the fields of `s` at the places of R187, each count at its field's width and every byte not listed 0. -/
def reportShows (ws : List Word) (s : State) : Prop :=
  let holds := fun i start len v : Nat => wordField ((ws[i]?).getD 0) start len = v % 2 ^ (8 * len)
  let bit := fun (b : Bool) (k : Nat) => if b then 2 ^ k else 0
  let n := s.session
  let r := s.review.record
  let fault := fun i : Nat => match s.faults.list[i]? with | some e => e.1 % 2 ^ 18 + e.2.code * 2 ^ 24 | none => 0
  ws.length = 256
    ∧ (∀ i, i = 0 ∨ i = 255 → holds i 0 4 s.report.generation ∧ holds i 4 4 0)
    ∧ holds 1 0 1 s.report.lastReset.code ∧ holds 1 1 1 n.role.code ∧ holds 1 2 1 (stateCode n.state)
    ∧ holds 1 3 1 (bit n.handoverPending 0 + bit n.stalePending 1 + bit (n.retiredStep == .instep) 2 + bit (n.resumeKind == .resume) 3
        + bit n.layoutInstalled 4 + bit n.lockout 5 + bit s.link.confirmed 6)
    ∧ holds 1 4 2 n.id.toNat ∧ holds 1 6 1 s.link.state.code ∧ holds 1 7 1 s.link.lanes
    ∧ (n.greeted = none → holds 2 0 6 0)
    ∧ (∀ g, n.greeted = some g → holds 2 0 2 g.session.toNat ∧ holds 2 2 1 (greetKindCode g.kind) ∧ holds 2 3 1 g.size.toNat
        ∧ holds 2 4 1 (verdictCode g.verdict) ∧ holds 2 5 1 (reasonCode g.reason))
    ∧ holds 2 6 1 n.sizeClass.toNat ∧ holds 2 7 1 0
    ∧ holds 3 0 4 (s.map.count .unsent) ∧ holds 3 4 4 (s.map.count .opened) ∧ holds 4 0 4 (s.map.count .inflight)
    ∧ holds 4 4 4 (s.map.count .clean) ∧ holds 5 0 4 (s.map.count .dirty) ∧ holds 5 4 4 (s.map.count .srcFault)
    ∧ holds 6 0 1 s.review.passNumber ∧ holds 6 1 1 s.review.throttle ∧ holds 6 2 2 s.freeze.entries.length
    ∧ holds 6 4 1 s.feed.queue.length ∧ holds 6 5 1 s.feed.window.length
    ∧ holds 6 6 1 (s.feed.sentTotal - s.feed.freedTotal).toNat ∧ holds 6 7 1 s.take.buffer.length
    ∧ holds 7 0 4 r.t ∧ holds 7 4 4 r.c ∧ holds 8 0 4 r.w ∧ holds 8 4 4 r.d ∧ holds 9 0 4 r.drain ∧ holds 9 4 4 r.predicted
    ∧ holds 10 0 2 r.segTime ∧ holds 10 2 2 r.rate ∧ holds 10 4 1 r.passNumber ∧ holds 10 5 1 r.decision.code ∧ holds 10 6 2 0
    ∧ holds 11 0 2 s.feed.peerFail ∧ holds 11 2 1 (peerStateCode s.feed.peerState)
    ∧ (s.take.ackSeq = none → holds 11 3 1 0) ∧ (∀ k, s.take.ackSeq = some k → holds 11 3 1 1 ∧ holds 11 4 2 k.toNat)
    ∧ holds 11 6 1 s.take.freed.toNat ∧ holds 11 7 1 0
    ∧ holds 12 0 2 s.take.failTotal ∧ holds 12 2 2 (if n.role = .take then s.take.rewinds else s.feed.rewinds)
    ∧ holds 12 4 2 s.link.discarded ∧ holds 12 6 2 s.directive.stray
    ∧ holds 13 0 4 s.map.overflow ∧ holds 13 4 4 s.map.drift
    ∧ holds 14 0 4 s.path.blocked ∧ holds 14 4 2 s.faults.overflow ∧ holds 14 6 1 ((s.faults.first.map SessFault.code).getD 0)
    ∧ holds 14 7 1 s.faults.list.length
    ∧ holds 15 0 2 s.faults.summary.toNat ∧ (s.take.interrupted = none → holds 15 2 1 0)
    ∧ (∀ k m, s.take.interrupted = some (k, m) → holds 15 2 1 k.code ∧ holds 15 4 4 m) ∧ holds 15 3 1 0
    ∧ (∀ i, i < 8 → holds (16 + i) 0 4 (fault (2 * i)) ∧ holds (16 + i) 4 4 (fault (2 * i + 1)))
    ∧ holds 24 0 1 s.directive.last.number.toNat ∧ holds 24 1 1 s.directive.last.code.toNat
    ∧ holds 24 2 1 s.directive.last.outcome.code ∧ holds 24 3 1 s.directive.expected.toNat
    ∧ holds 24 4 1 (bit s.notices.directive.pending 0 + bit s.notices.state.pending 1 + bit s.notices.review.pending 2
        + bit s.notices.fault.pending 3 + bit s.notices.line.pending 4 + bit s.notices.step.pending 5)
    ∧ holds 24 5 1 s.notices.enable.toNat
    ∧ holds 24 6 1 (bit s.chassis.peerRaw 0 + bit s.chassis.peerFiltered 1 + bit s.chassis.eject 2 + bit s.chassis.takeEn 3)
    ∧ holds 24 7 1 0
    ∧ holds 25 0 4 s.notices.directive.mark ∧ holds 25 4 4 s.notices.state.mark ∧ holds 26 0 4 s.notices.review.mark
    ∧ holds 26 4 4 s.notices.fault.mark ∧ holds 27 0 4 s.notices.line.mark ∧ holds 27 4 4 s.notices.step.mark
    ∧ holds 28 0 1 s.settings.walk.toNat ∧ holds 28 1 1 s.settings.fill.toNat ∧ holds 28 2 1 s.settings.apply.toNat
    ∧ holds 28 3 1 s.settings.replay.toNat ∧ holds 28 4 1 s.settings.report.toNat ∧ holds 28 5 1 s.settings.yieldCount
    ∧ holds 28 6 1 s.settings.retry ∧ holds 28 7 1 s.settings.passLimit
    ∧ holds 29 0 2 s.settings.budget ∧ holds 29 2 1 (bit s.settings.throttleOn 0) ∧ holds 29 3 1 (bit (s.settings.policy == .abandon) 0)
    ∧ holds 29 4 1 s.settings.silence ∧ holds 29 5 1 s.settings.bringup ∧ holds 29 6 1 s.settings.hold ∧ holds 29 7 1 s.settings.filter
    ∧ (∀ i : Fin 16, holds (32 + i.val) 0 3 s.regions[i].base.toNat ∧ holds (32 + i.val) 3 3 s.regions[i].length.toNat
        ∧ holds (32 + i.val) 6 1 (codeOfClass s.regions[i].cls).toNat ∧ holds (32 + i.val) 7 1 s.regions[i].order.toNat
        ∧ (ws[48 + i.val]?).getD 0 = s.regions[i].fill)
    ∧ (∀ i, i = 30 ∨ i = 31 ∨ (64 ≤ i ∧ i ≤ 254) → (ws[i]?).getD 0 = 0)

/-- The SEG frames of a list hold one for the segment. -/
def hasSeg (fs : List SeqFrame) (n : Segment) : Bool := fs.any fun f => isSegFor n f

/-- The MIR frames of a list hold a record for the segment. -/
def hasRecord (fs : List SeqFrame) (n : Segment) : Bool :=
  fs.any fun f =>
    match f with
    | .mir rs => rs.any fun r => segmentOf r.addr == n
    | .seg _ _ => false
    | .instep => false
    | .stale => false
    | .handover => false

end Sys2Proof.Machine
end

