-- ==== Sys2Proof/WellFormed.lean ====
section
/-! DEFINITION. Which terms of the syntax are commands that the part's surroundings can send (R5, R61 to R63, R168, R169, R188). A meaning
is given to every term; an ill-formed one has the effect its own definition states. -/

namespace Sys2Proof

/-- A MIR frame holds 1 to 8 records (R61). -/
def SeqFrame.wf : SeqFrame → Bool
  | .mir rs => 1 ≤ rs.length && rs.length ≤ Config.mirRecords
  | .seg _ _ => true
  | .instep => true
  | .stale => true
  | .handover => true

/-- A REFUSED verdict gives one of the two reasons, any other verdict gives none (R62). -/
def echoWf (v : Verdict) (r : Reason) : Bool :=
  match v, r with
  | .refused, .none => false
  | .refused, _ => true
  | _, .none => true
  | _, _ => false

/-- A command as the surroundings can send it: a snooped write covers a byte (R5), an unknown kind is one (R169), a GREET names a session
(R61), a MIR frame holds 1 to 8 records, an echo's reason goes with its verdict. -/
def Instr.wf : Instr → Bool
  | .shadowWrite _ _ mask => mask != 0
  | .strayTrigger _ mask => mask != 0
  | .unknownKind _ code => code == 0 || decide (11 < code.toNat)
  | .greetReceived _ session _ _ => session != 0
  | .greetEchoReceived session v r => session != 0 && echoWf v r
  | .sequencedFrameReceived _ f => f.wf
  | .coldReset _ _ => true
  | .warmReset => true
  | .resetNRise _ => true
  | .lookupRead _ => true
  | .maintenanceRead _ => true
  | .maintenanceWrite _ _ _ => true
  | .throttleSpacingPassed => true
  | .arbiterGrant => true
  | .setup _ => true
  | .region _ => true
  | .feed _ => true
  | .take _ => true
  | .handover _ => true
  | .release _ => true
  | .abort _ => true
  | .adopt _ => true
  | .notices _ => true
  | .acknowledge _ => true
  | .refresh _ => true
  | .readResponse _ _ => true
  | .segFrameQueued => true
  | .walkerStep => true
  | .passEnd => true
  | .drainComplete => true
  | .freezeAbandon => true
  | .instepQueued => true
  | .staleQueued => true
  | .handoverDrainComplete => true
  | .handoverOverrun => true
  | .transmitFrame => true
  | .trainDue => true
  | .greetRepeatDue => true
  | .layoutRepeatDue => true
  | .rewindRepeatDue => true
  | .pulseDue => true
  | .keepaliveAckDue => true
  | .silenceTimeout => true
  | .bringupTimeout => true
  | .feedHoldTimeout => true
  | .takeHoldTimeout => true
  | .frameDiscarded _ => true
  | .trainReceived _ _ _ => true
  | .layoutReceived _ => true
  | .readyReceived => true
  | .ackReceived _ _ _ _ => true
  | .rewindReceived _ => true
  | .rewoundReceived _ => true
  | .pulseReceived => true
  | .closeReceived _ => true
  | .peerPresentChange _ => true
  | .peerPresentFiltered => true
  | .ejectEvent => true
  | .ejectFall => true
  | .takeEnFall => true
  | .takeEnRise => true
  | .pwrGoodFall => true

end Sys2Proof
end

