-- ==== Sys2Proof/Certificates/Slice0/Obligations.lean ====
section
/-! DEFINITION. The statements for the provers. Where a clause rests on a choice of the model, the docstring names its log entry. -/

section

open Sys2Proof Sys2Proof.Machine

/-! ### The machine as a whole -/

/-- A step runs the command at the front of the queue on the state with the queue's rest (the model's choice, log 31). -/
def Obligations.StepRunsTheFrontCommand : Prop :=
  ∀ (c : Instr) (rest : List Instr) (s : State),
    step { s with pending := c :: rest } = exec c { s with pending := rest }

/-- With no command waiting a live part passes one pace tick: the tick count rises by 1, t rises by 1 up to its largest value exactly
while a pass runs (R112), the freeze timer rises up to its limit (R131), and no other block but the line and link timers and the hold
timer moves. That an idle step is one pace tick is the model's choice (log 1). -/
def Obligations.IdleStepIsOnePaceTick : Prop :=
  ∀ s : State, s.pending = [] → s.live = true →
    ∃ t, step s = .next t ∧ t.chassis.tick = s.chassis.tick + 1
      ∧ t.review = (if s.passRunning then { s.review with t := min Config.top32 (s.review.t + 1) } else s.review)
      ∧ t.freeze.timer = s.freeze.timer.map (fun k => min s.settings.freezeTicks (k + 1))
      ∧ t.freeze.entries = s.freeze.entries ∧ t.session.state = s.session.state ∧ t.session.role = s.session.role
      ∧ t.link.state = s.link.state ∧ t.path = s.path ∧ t.settings = s.settings ∧ t.regions = s.regions ∧ t.map = s.map
      ∧ t.walker = s.walker ∧ t.feed = s.feed ∧ t.take = s.take ∧ t.faults = s.faults ∧ t.directive = s.directive
      ∧ t.notices = s.notices ∧ t.report = s.report ∧ t.out = Out.none ∧ t.pending = []

/-- Every command answers a next state from every state and leaves the waiting commands as they are. -/
def Obligations.EveryCommandAnswersNext : Prop :=
  ∀ (c : Instr) (s : State), ∃ t, exec c s = .next t ∧ t.pending = s.pending

/-- After every command, from every state, no signal stands, no INSTEP is left to offer or to cancel (R149), and no requester that does
not wait has a wait run (R15). The signals, and that none stands between commands, are the model's own bookkeeping (DESIGN CHOICE, log
30). -/
def Obligations.EveryCommandEndsSettled : Prop :=
  ∀ (c : Instr) (s t : State), exec c s = .next t → t.settled

/-! ### Resets and power -/

/-- COLD_RESET gives every block its reset value, samples the pins, and starts the first report, generation 1, when RESET_N is high. The
interval timers at 0 (log 38), the buffers' use counter at 0 (log 23) and the reset of a part that has power already (log 10) are the
model's choices. -/
def Obligations.ColdResetGivesResetValues : Prop :=
  ∀ (resetN : Bool) (pins : Pins) (s : State), ∃ t, exec (.coldReset resetN pins) s = .next t
    ∧ t.path = Path.reset ∧ t.settings = Settings.reset ∧ t.regions = Vector.replicate 16 Region.empty ∧ t.map = SegMap.reset
    ∧ t.walker = Walker.reset ∧ t.freeze = Freeze.reset ∧ t.feed = Feed.reset ∧ t.link = Link.reset ∧ t.take = Take.reset
    ∧ t.faults = Faults.reset ∧ t.review = Review.reset ∧ t.session = Session.reset ∧ t.directive = Directive.reset
    ∧ t.notices = Notices.reset ∧ t.out = Out.none ∧ t.pending = s.pending
    ∧ t.chassis.power = true ∧ t.chassis.resetN = resetN ∧ t.chassis.msize = pins.msize ∧ t.chassis.slotId = pins.slotId
    ∧ t.chassis.peerRaw = pins.peerPresent ∧ t.chassis.peerFiltered = false ∧ t.chassis.eject = pins.eject
    ∧ t.chassis.takeEn = pins.takeEn
    ∧ t.report.lastReset = .cold ∧ t.report.writing = resetN ∧ t.report.generation = (if resetN then 1 else 0)

/-- The machine's reset state is what COLD_RESET with the model's reset pins leaves (straps 0 and lines low: log 8; RESET_N high: log 9). -/
def Obligations.ResetStateIsAColdReset : Prop :=
  ∀ s : State, exec (.coldReset true Pins.reset) s = .next { State.reset with pending := s.pending }

/-- WARM_RESET at a live part: the path keeps its candidates, unanswered reads and the read return list, whose entries keep place, requester
and address, upstream reads losing their overlay bytes; a held write becomes a candidate (log 27); the lockout stays, the interrupted-apply
record is kept or set; every other block takes its reset value, the link's interval timers the model's, 0 (log 38). -/
def Obligations.WarmResetKeepsThePath : Prop :=
  ∀ s : State, s.live = true → ∃ t, exec .warmReset s = .next t
    ∧ t.live = false ∧ t.chassis.power = true ∧ t.chassis.peerFiltered = false ∧ t.chassis.lineDeferred = false
    ∧ t.path.lookup = s.path.lookup ∧ t.path.lookupReads = s.path.lookupReads ∧ t.path.maintReads = s.path.maintReads
    ∧ t.path.maint = (match s.path.maint with | .held w => .write w | m => m)
    ∧ t.path.returns = s.path.returns.map (fun e =>
        match e.requester with
        | .upstream st _ _ => { e with requester := .upstream st 0 0 }
        | _ => e)
    ∧ (∀ e ∈ t.path.returns, ∀ st m d, e.requester = .upstream st m d → m = 0)
    ∧ t.path.blocked = 0 ∧ t.path.waitRuns = WaitRuns.reset
    ∧ t.settings = Settings.reset ∧ t.regions = Vector.replicate 16 Region.empty ∧ t.map = SegMap.reset ∧ t.freeze = Freeze.reset
    ∧ t.feed = Feed.reset ∧ t.link = Link.reset ∧ t.faults = Faults.reset ∧ t.review = Review.reset
    ∧ t.walker.cursor = none ∧ t.walker.buf0 = none ∧ t.walker.buf1 = none
    ∧ t.take = { Take.reset with interrupted := s.take.interruptedAtReset }
    ∧ t.session = { Session.reset with lockout := s.session.lockout }
    ∧ t.directive = Directive.reset ∧ t.notices = Notices.reset ∧ t.report = Report.reset .warm ∧ t.out = Out.none

/-- RESET_N_RISE at a powered part held in reset: the pins are sampled, the filter restarts with the filtered level low, and a report is
requested, which starts when the writer is IDLE. The path takes its cold values, so that no fixed response is pending on either stream, but
keeps its candidates, the read return list and the reads that wait for its responses. -/
def Obligations.ResetRiseSamplesAndReports : Prop :=
  ∀ (pins : Pins) (s : State), s.chassis.power = true → s.chassis.resetN = false → s.report.writing = false →
    ∃ t, exec (.resetNRise pins) s = .next t ∧ t.live = true
      ∧ t.chassis.msize = pins.msize ∧ t.chassis.slotId = pins.slotId ∧ t.chassis.peerRaw = pins.peerPresent
      ∧ t.chassis.peerFiltered = false ∧ t.chassis.peerHeld = 0 ∧ t.chassis.eject = pins.eject ∧ t.chassis.takeEn = pins.takeEn
      ∧ t.report.writing = true ∧ t.report.nextWord = 0 ∧ t.report.generation = nextGeneration s.report.generation
      ∧ t.report.lastReset = s.report.lastReset ∧ (t.notices.line.pending = (s.notices.line.pending || s.chassis.lineDeferred))
      ∧ t.chassis.lineDeferred = false
      ∧ t.session.state = s.session.state
      ∧ t.path.returns = s.path.returns ∧ t.path.lookup = s.path.lookup
      ∧ ((∀ w, s.path.maint ≠ .held w) → t.path.maint = s.path.maint) ∧ (∀ w, t.path.maint ≠ .held w)
      ∧ t.path.lookupReads = s.path.lookupReads.filter (fun x => x = .waiting)
      ∧ t.path.maintReads = s.path.maintReads.filter (fun x => x = .waiting)
      ∧ t.path.blocked = 0 ∧ t.path.waitRuns = WaitRuns.reset ∧ t.out = Out.none

/-- PWR_GOOD_FALL: no power, the link OFF, nothing driven and NOTIFY released. An unpowered part does nothing, whatever command comes, until
the next COLD_RESET; that, and what it then holds, is the model's choice (log 10). -/
def Obligations.PowerFallReleasesEverything : Prop :=
  (∀ s : State, s.chassis.power = true → ∃ t, exec .pwrGoodFall s = .next t
    ∧ t.chassis.power = false ∧ t.link.state = .off ∧ t.notify = false ∧ t.out = Out.none)
  ∧ ∀ (c : Instr) (s : State), (∀ resetN pins, c ≠ .coldReset resetN pins) → s.chassis.power = false → s.settled →
      exec c s = .next { s with out := .none }

/-! ### The streams -/

/-- LOOKUP_READ and MAINTENANCE_READ at a live part whose stream has no request under treatment: a blocked read is answered FAULT, a read
of a word with a full overlay entry is answered from the entry, both at once when no earlier read of the stream waits; any other read
becomes the stream's candidate. While RESET_N is low every read becomes the candidate, whatever its address, and nothing else happens. -/
def Obligations.ReadsAreExamined : Prop :=
  (∀ (st : Stream) (a : Addr) (s : State), s.live = true →
    (match st with | .lookup => s.path.lookup = none | .maintenance => s.path.maint = .empty) →
    ∃ t, exec (match st with | .lookup => .lookupRead a | .maintenance => .maintenanceRead a) s = .next t
      ∧ t.out.mem = [] ∧ t.out.link = [] ∧ t.freeze = s.freeze ∧ t.map = s.map ∧ t.path.returns = s.path.returns
      ∧ (s.blocked a = true → s.path.reads st = [] →
          t.out.engine = [(st, { status := .fault, data := 0 })] ∧ t.path.reads st = []
            ∧ t.path.lookup = s.path.lookup ∧ t.path.maint = s.path.maint)
      ∧ (s.blocked a = false → ∀ e, s.freeze.find a = some e → e.mask = fullMask → s.path.reads st = [] →
          t.out.engine = [(st, { status := .ok, data := e.data })] ∧ t.path.reads st = []
            ∧ t.path.lookup = s.path.lookup ∧ t.path.maint = s.path.maint)
      ∧ (s.blocked a = false → (∀ e, s.freeze.find a = some e → e.mask ≠ fullMask) →
          t.out.engine = [] ∧ t.path.reads st = s.path.reads st ++ [.waiting]
            ∧ (match st with | .lookup => t.path.lookup = some a | .maintenance => t.path.maint = .read a)))
  ∧ (∀ (a : Addr) (s : State), s.chassis.power = true → s.chassis.resetN = false → s.settled →
    (s.path.lookup = none → exec (.lookupRead a) s = .next { s with
        path := { s.path with lookup := some a, lookupReads := s.path.lookupReads ++ [.waiting] }, out := .none })
      ∧ (s.path.maint = .empty → exec (.maintenanceRead a) s = .next { s with
        path := { s.path with maint := .read a, maintReads := s.path.maintReads ++ [.waiting] }, out := .none }))

/-- A response that is fixed is returned to the engine only behind every earlier read of its stream: what is returned is a prefix of the
stream's reads with their fixed responses, in order, and the oldest read left still waits for memory. READ_RESPONSE goes to the oldest
entry of the read return list, which leaves it; the engine gets memory's word with the bytes of the overlay entry found at the grant, or
FAULT with the all-zero word. -/
def Obligations.ReadsAreAnsweredInOrder : Prop :=
  (∀ (st : Stream) (r : ReadResult) (s : State),
    ∃ given : List ReadResult,
      (s.upstreamResponse st r).out.engine = s.out.engine ++ given.map (fun x => (st, x))
        ∧ fixOldest r (s.path.reads st) = given.map .answered ++ (s.upstreamResponse st r).path.reads st
        ∧ (∀ x, ((s.upstreamResponse st r).path.reads st).head? = some x → x = .waiting))
    ∧ (∀ (s : State) (st : Stream) (m : Mask) (bytes : Word) (a : Addr) (rest : List ReturnEntry) (reads : List PendingRead)
        (data : Word), s.chassis.power = true → s.path.returns = { requester := .upstream st m bytes, addr := a } :: rest →
      s.path.reads st = .waiting :: reads → (∀ x ∈ reads, x = .waiting) →
      (∃ t, exec (.readResponse .ok data) s = .next t ∧ t.path.returns = rest
          ∧ t.out.engine = [(st, { status := .ok, data := mergeBytes m bytes data })] ∧ t.path.reads st = reads)
        ∧ (∃ t, exec (.readResponse .fault data) s = .next t ∧ t.path.returns = rest
          ∧ t.out.engine = [(st, { status := .fault, data := 0 })] ∧ t.path.reads st = reads))

/-- MAINTENANCE_WRITE at a live part with the stream free, in the order of R4: an empty mask passes at once; a write outside LOCAL at a take
with an installed layout is blocked, discarded and counted; a write to a MIRROR region is held by the throttle's spacing in SWEEP and
CATCHUP, by a full overlay in FREEZE, and in HANDOVER; one to a MIRROR region in FREEZE, or to an address with an entry in REPLAY, is kept in
the overlay; any other becomes the candidate. An admitted write to a tracked segment in a feed session is counted in w while a pass runs,
and its tick is recorded. While RESET_N is low every write becomes the candidate, and nothing else happens. -/
def Obligations.WritesAreExamined : Prop :=
  (∀ (a : Addr) (data : Word) (mask : Mask) (s : State), s.live = true → s.path.maint = .empty →
    let w : WriteReq := { addr := a, data := data, mask := mask }
    let st := s.session.state
    let spacing := if s.review.throttle = 0 then 0 else if s.review.throttle = 1 then 1 else if s.review.throttle = 2 then 4 else 16
    let blocked := s.inTake = true ∧ s.session.layoutInstalled = true ∧ s.classOf a ≠ .localOnly
    let held := s.inFeed = true ∧ s.classOf a = .mirror
      ∧ (((st = .sweep ∨ st = .catchup) ∧ ∃ k, s.review.lastAdmitted = some k ∧ s.chassis.tick - k < spacing)
        ∨ (st = .freeze ∧ s.freeze.find a = none ∧ 4096 ≤ s.freeze.entries.length) ∨ st = .handover)
    let kept := s.inFeed = true ∧ ((st = .freeze ∧ s.classOf a = .mirror) ∨ (st = .replay ∧ s.freeze.find a ≠ none))
    let admitted : Review :=
      if s.inFeed = true ∧ (s.classOf a = .mirror ∨ s.classOf a = .snapshot) then
        { s.review with
          w := if s.session.state = .sweep ∨ s.session.state = .catchup then min Config.top32 (s.review.w + 1) else s.review.w
          lastAdmitted := some s.chassis.tick }
      else s.review
    ∃ t, exec (.maintenanceWrite a data mask) s = .next t ∧ t.out = Out.none ∧ t.map = s.map ∧ t.walker = s.walker
      ∧ t.path.lookup = s.path.lookup ∧ t.path.returns = s.path.returns ∧ t.session = s.session
      ∧ (mask = 0 → t.path.maint = .write w ∧ t.path.blocked = s.path.blocked ∧ t.review = s.review ∧ t.freeze = s.freeze)
      ∧ (mask ≠ 0 → blocked →
          t.path.maint = .empty ∧ t.path.blocked = min Config.top32 (s.path.blocked + 1) ∧ t.review = s.review ∧ t.freeze = s.freeze)
      ∧ (mask ≠ 0 → ¬ blocked → held →
          t.path.maint = .held w ∧ t.path.blocked = s.path.blocked ∧ t.review = s.review ∧ t.freeze = s.freeze)
      ∧ (mask ≠ 0 → ¬ blocked → ¬ held → kept →
          t.path.maint = .empty ∧ t.path.blocked = s.path.blocked ∧ t.freeze = s.freeze.capture w ∧ t.review = admitted)
      ∧ (mask ≠ 0 → ¬ blocked → ¬ held → ¬ kept →
          t.path.maint = .write w ∧ t.path.blocked = s.path.blocked ∧ t.freeze = s.freeze ∧ t.review = admitted))
  ∧ (∀ (a : Addr) (data : Word) (mask : Mask) (s : State), s.chassis.power = true → s.chassis.resetN = false → s.settled →
    s.path.maint = .empty → exec (.maintenanceWrite a data mask) s = .next { s with
      path := { s.path with maint := .write { addr := a, data := data, mask := mask } }, out := .none })

/-- THROTTLE_SPACING_PASSED: with the clock at the moment the spacing ends, a held write to a MIRROR region in SWEEP or CATCHUP is
admitted: it becomes the candidate, its tick is recorded and w counts it. That the command carries the clock to that moment is the
model's choice (log 1). -/
def Obligations.SpacingPassedAdmitsHeldWrite : Prop :=
  ∀ (s : State) (w : WriteReq) (k : Nat), s.live = true → s.inFeed = true →
    (s.session.state = .sweep ∨ s.session.state = .catchup) → s.review.throttle ≠ 0 → s.review.lastAdmitted = some k →
    k ≤ s.chassis.tick → s.chassis.tick ≤ k + spacingOf s.review.throttle →
    s.path.maint = .held w → w.mask ≠ 0 → s.blocked w.addr = false → s.classOf w.addr = .mirror →
    ∃ t, exec .throttleSpacingPassed s = .next t ∧ t.chassis.tick = k + spacingOf s.review.throttle
      ∧ t.path.maint = .write w ∧ t.review.lastAdmitted = some (k + spacingOf s.review.throttle)
      ∧ t.review.w = min Config.top32 (s.review.w + 1) ∧ t.review.throttle = s.review.throttle
      ∧ t.freeze.entries = s.freeze.entries ∧ t.map = s.map

/-! ### The overlay -/

/-- A write kept in a full or partly filled overlay: the address then has an entry of kind CAPTURED whose mask is the union of the masks
and whose bytes are the write's over the earlier ones; every other address finds what it found before; an address that had an entry adds
none, a new one adds one at the end. -/
def Obligations.CaptureMergesOrAppends : Prop :=
  ∀ (f : Freeze) (w : WriteReq),
    (∀ e, f.find w.addr = some e →
        (f.capture w).find w.addr =
          some { addr := w.addr, data := mergeBytes w.mask w.data e.data, mask := e.mask ||| w.mask, flushing := false }
        ∧ (f.capture w).entries.length = f.entries.length)
      ∧ (f.find w.addr = none →
        (f.capture w).entries =
          f.entries ++ [{ addr := w.addr, data := keepBytes w.mask w.data, mask := w.mask, flushing := false }])
      ∧ (∀ a, a ≠ w.addr → (f.capture w).find a = f.find a)
      ∧ (f.capture w).timer = f.timer

/-- What a read of a word returns is kept by the overlay's own memory writes and follows the engine's writes: a captured write, a granted
write that supersedes, and the retirement of an entry each leave every word as memory with all unretired entries applied. -/
def Obligations.OverlayKeepsEveryWordsView : Prop :=
  ∀ (s : State) (w : WriteReq) (a : Addr) (mem : Word), (s.freeze.entries.map OverlayEntry.addr).Nodup →
    (s.freeze.capture w).view a mem = (if a = w.addr then mergeBytes w.mask w.data (s.freeze.view a mem) else s.freeze.view a mem)
      ∧ (s.supersede w).freeze.view a (if a = w.addr then mergeBytes w.mask w.data mem else mem)
          = (if a = w.addr then mergeBytes w.mask w.data (s.freeze.view a mem) else s.freeze.view a mem)
      ∧ (∀ e ∈ s.freeze.entries,
          (s.dropEntry e.addr).freeze.view a (if a = e.addr then mergeBytes e.mask e.data mem else mem) = s.freeze.view a mem)

/-! ### The arbiter -/

/-- The arbiter's choice. With a requester owed the next grant, the grant goes to one that is owed. With none owed (R14), the waiting
requester of the highest level wins, UPSTREAM standing between 3 and 4; among part requesters of one level the first in the order REPORT,
REPLAY, APPLY, FILL, WALK; nobody wins only where nobody waits. When UPSTREAM wins with both streams' candidates ready the lookup stream's is
granted, with one ready that one. -/
def Obligations.ArbiterChoosesByOwedThenLevel : Prop :=
  ∀ s : State,
    let ahead := fun r q : Requester => s.settings.level q < s.settings.level r
      ∨ (s.settings.level q = s.settings.level r ∧ Requester.order.idxOf r < Requester.order.idxOf q)
    ((∃ q, s.owed q = true) → ∃ r, s.winner = some (.owed r) ∧ s.owed r = true)
      ∧ ((∀ q, s.owed q = false) →
          (s.winner = none ↔ s.upstreamWaits = false ∧ ∀ q, s.waits q = false)
            ∧ (s.winner = some .upstream ↔ s.upstreamWaits = true ∧ ∀ q, s.waits q = true → s.settings.level q ≤ 3)
            ∧ (∀ r, s.winner = some (.byLevel r) ↔
                s.waits r = true ∧ (s.upstreamWaits = true → 4 ≤ s.settings.level r) ∧ ∀ q, s.waits q = true → q ≠ r → ahead r q)
            ∧ (∀ r, s.winner ≠ some (.owed r)))
      ∧ (s.chassis.power = true → s.winner = some .upstream →
          ∃ t, exec .arbiterGrant s = .next t
            ∧ (∀ a, s.path.lookup = some a → s.path.returns.length < Config.returnPlaces →
                t.out.mem = [.read a] ∧ t.path.lookup = none ∧ t.path.maint = s.path.maint)
            ∧ ((s.path.lookup = none ∨ Config.returnPlaces ≤ s.path.returns.length) →
                (∀ a, s.path.maint = .read a → t.out.mem = [.read a])
                  ∧ (∀ w, s.path.maint = .write w → t.out.mem = [.write w.addr w.data w.mask])
                  ∧ t.path.maint = .empty ∧ t.path.lookup = s.path.lookup))

/-- The yield rule. The wait run of each part requester lies from 0 to the yield count, and every step keeps it there. At a grant, for a
requester that waits at level 0 to 3: UPSTREAM's grant raises its run by 1, stopping at the yield count; its own grant makes it 0; another's
grant by level makes it 0; another's grant for being owed leaves it. A change of the yield count or of a level makes every run 0; a requester
that does not wait, or whose level is 4 to 7, has the run 0. A requester is owed while it waits and its run equals the yield count; a grant
with any owed goes to the owed one of the highest level, at equal levels in the order of R14; with none owed it is made under R14. -/
def Obligations.WaitRunsFollowTheGrant : Prop :=
  ∀ s : State,
    ((∀ r, s.path.waitRuns.get r ≤ s.settings.yieldCount) →
        (∀ t, step s = .next t → ∀ r, t.path.waitRuns.get r ≤ t.settings.yieldCount)
          ∧ ∀ r, s.owed r = true ↔
              s.waits r = true ∧ s.settings.level r ≤ 3 ∧ s.path.waitRuns.get r = s.settings.yieldCount)
      ∧ (∀ r, s.waits r = true → s.settings.level r ≤ 3 →
          (s.runsAfter .upstream).get r = min s.settings.yieldCount (s.path.waitRuns.get r + 1)
            ∧ (s.runsAfter (.owed r)).get r = 0
            ∧ (∀ q, (s.runsAfter (.byLevel q)).get r = 0)
            ∧ (∀ q, q ≠ r → (s.runsAfter (.owed q)).get r = s.path.waitRuns.get r))
      ∧ (∀ r, s.waits r = false ∨ 4 ≤ s.settings.level r → ∀ win, (s.runsAfter win).get r = 0)
      ∧ (∀ win, s.chassis.power = true → s.winner = some win →
          ∃ t, exec .arbiterGrant s = .next t ∧ (t.settings = s.settings →
            ∀ r, t.waits r = true → t.settings.level r ≤ 3 → t.path.waitRuns.get r = (s.runsAfter win).get r))
      ∧ (∀ c t, exec c s = .next t →
          (∀ r, t.waits r = false ∨ 4 ≤ t.settings.level r → t.path.waitRuns.get r = 0)
            ∧ (t.settings.yieldCount ≠ s.settings.yieldCount ∨ (∃ q, t.settings.level q ≠ s.settings.level q) →
                ∀ r, t.path.waitRuns.get r = 0)
            ∧ (c ≠ .arbiterGrant → s.settled → t.settings = s.settings →
                ∀ r, s.waits r = true → t.waits r = true → t.offer r = s.offer r →
                  t.path.waitRuns.get r = s.path.waitRuns.get r))
      ∧ ((∃ q, s.owed q = true) → ∃ r, s.winner = some (.owed r) ∧ s.owed r = true ∧ ∀ q, s.owed q = true → q ≠ r →
          s.settings.level q < s.settings.level r
            ∨ (s.settings.level q = s.settings.level r ∧ Requester.order.idxOf r < Requester.order.idxOf q))
      ∧ ((∀ q, s.owed q = false) → ∀ r, s.winner ≠ some (.owed r))

/-- ARBITER_GRANT at a powered part passes exactly one request to memory, the winner's, when a requester waits, and none otherwise; no read is
granted while the read return list holds 64 entries. REPLAY's grant writes the oldest FLUSHING entry, else REPLAY's oldest entry, whose mirror
record is then placed in the queue; the entry leaves the list, and an overlay left empty ends REPLAY in STEADY, or in HANDOVER when one is
pending. REPORT's grant writes the word offered; after word 255 the report is complete, and a further one that was requested starts, its
snapshot showing the part as it then stands (the bytes of fields the guide gives no value for: log 47). WALK's grant reads the next word of
the buffer with reads left, of two the one taken first: the word is marked granted, and the read joins the end of the return list with the
buffer's use. APPLY's and FILL's grants pass the next write of the round, or after the last write its next verify read, which joins the end of
the return list and awaits its response. A CLOSE leaves only where the granted write ends a session whose link was UP (logs 5, 7). -/
def Obligations.GrantPassesTheWinnersRequest : Prop :=
  ∀ s : State, s.chassis.power = true →
    ∃ t, exec .arbiterGrant s = .next t ∧ t.out.engine = []
      ∧ (t.out.link = [] ∨ ∃ r, t.out.link = [.close r] ∧ s.link.state = .up ∧ t.link.state = .off)
      ∧ (s.winner = none → t.out.mem = [] ∧ t.path.returns = s.path.returns)
      ∧ (s.winner = some .upstream → s.isReady s.lookupOffer = true → ∃ q, s.lookupOffer = some q ∧ t.out.mem = [q])
      ∧ (s.winner = some .upstream → s.isReady s.lookupOffer = false → ∃ q, s.maintOffer = some q ∧ t.out.mem = [q])
      ∧ (∀ r, s.winner = some (.owed r) ∨ s.winner = some (.byLevel r) → ∃ q, s.offer r = some q ∧ t.out.mem = [q])
      ∧ (Config.returnPlaces ≤ s.path.returns.length → t.path.returns = s.path.returns)
      ∧ (s.winner = some (.owed .replay) ∨ s.winner = some (.byLevel .replay) →
          ∃ e : OverlayEntry,
            (s.freeze.entries.find? (fun x => x.flushing) = some e
              ∨ ((∀ x ∈ s.freeze.entries, x.flushing = false) ∧ s.inFeed = true ∧ s.session.state = .replay
                  ∧ s.freeze.entries.head? = some e))
            ∧ (let left := s.freeze.entries.filter fun x => x.addr ≠ e.addr
               let r : MirrorRecord := { addr := e.addr, data := e.data, mask := e.mask }
               let queued := fun q : List SeqFrame =>
                 t.feed.queue = q ∨ (t.session.state = .steady ∧ t.feed.queue = q ++ [.instep])
               t.out.mem = [.write e.addr e.data e.mask]
                 ∧ ((∀ w, s.path.maint ≠ .held w) → t.freeze.entries = left)
                 ∧ (e.flushing = true → queued s.feed.queue)
                 ∧ (e.flushing = false → ∀ q rs, s.feed.queue = q ++ [.mir rs] → rs.length < 8 → queued (q ++ [.mir (rs ++ [r])]))
                 ∧ (e.flushing = false → (∀ q rs, s.feed.queue = q ++ [.mir rs] → 8 ≤ rs.length) →
                     queued (s.feed.queue ++ [.mir [r]]))
                 ∧ (s.session.state = .replay → left = [] →
                     t.session.state = (if s.session.handoverPending then .handover else .steady)
                       ∧ t.session.handoverPending = false ∧ t.review.throttle = 0 ∧ t.walker.cursor = some 0
                       ∧ t.notices.state.pending = true)
                 ∧ (s.session.state ≠ .replay ∨ left ≠ [] → t.session = s.session ∧ t.walker = s.walker)
                 ∧ t.map = s.map ∧ t.feed.window = s.feed.window ∧ t.path.returns = s.path.returns ∧ t.faults = s.faults))
      ∧ (s.winner = some (.owed .report) ∨ s.winner = some (.byLevel .report) →
          t.out.mem = [.write (BitVec.ofNat 24 ((segmentsOf s.chassis.msize - 16) * 64 + 64 + s.report.nextWord))
              ((s.report.snapshot[s.report.nextWord]?).getD 0) fullMask]
            ∧ (s.report.nextWord < 255 → t.report = { s.report with nextWord := s.report.nextWord + 1 })
            ∧ (s.report.nextWord = 255 → s.report.again = false → t.report = { s.report with writing := false, nextWord := 256 })
            ∧ (s.report.nextWord = 255 → s.report.again = true →
                t.report.writing = true ∧ t.report.nextWord = 0 ∧ t.report.again = false
                  ∧ t.report.generation = nextGeneration s.report.generation ∧ t.report.lastReset = s.report.lastReset
                  ∧ reportShows t.report.snapshot t)
            ∧ t.session = s.session ∧ t.map = s.map ∧ t.freeze = s.freeze ∧ t.path.returns = s.path.returns)
      ∧ (s.winner = some (.owed .walk) ∨ s.winner = some (.byLevel .walk) →
          ∃ (second : Bool) (b c : Buffer), s.walker.buf second = some b ∧ b.waiting = false ∧ b.nextRead < 64
            ∧ (∀ o, s.walker.buf (!second) = some o → o.waiting = false → o.nextRead < 64 → b.use ≤ o.use)
            ∧ t.out.mem = [.read (wordAddr b.segment b.nextRead)]
            ∧ t.path.returns = s.path.returns ++
                [{ requester := .walk second b.nextRead b.use, addr := wordAddr b.segment b.nextRead }]
            ∧ t.walker = s.walker.setBuf second (some c)
            ∧ c = { b with nextRead := b.nextRead + 1, words := c.words }
            ∧ (∀ k : Fin 64, c.words[k] = if k.val = b.nextRead then { b.words[k] with granted := true } else b.words[k])
            ∧ t.map = s.map ∧ t.session = s.session ∧ t.freeze = s.freeze ∧ t.take = s.take)
      ∧ (s.winner = some (.owed .apply) ∨ s.winner = some (.byLevel .apply) →
          ∃ a, s.take.apply = some a
            ∧ (∀ i ws, a.job.writes = i :: ws →
                t.out.mem = [.write i.addr i.data i.mask] ∧ t.path.returns = s.path.returns
                  ∧ t.take = { s.take with apply := some { a with job := { a.job with writes := ws } } })
            ∧ (∀ i rs, a.job.writes = [] → a.job.reads = i :: rs →
                t.out.mem = [.read i.addr] ∧ t.path.returns = s.path.returns ++ [{ requester := .apply a.job.use, addr := i.addr }]
                  ∧ t.take = { s.take with apply := some { a with job :=
                      { a.job with reads := rs, awaiting := a.job.awaiting ++ [i] } } })
            ∧ (a.job.writes ≠ [] ∨ a.job.reads ≠ []) ∧ t.session = s.session ∧ t.faults = s.faults ∧ t.freeze = s.freeze)
      ∧ (s.winner = some (.owed .fill) ∨ s.winner = some (.byLevel .fill) →
          ∃ f, s.take.fill = some f
            ∧ (∀ i ws, f.job.writes = i :: ws →
                t.out.mem = [.write i.addr i.data i.mask] ∧ t.path.returns = s.path.returns
                  ∧ t.take = { s.take with fill := some { f with job := { f.job with writes := ws } } })
            ∧ (∀ i rs, f.job.writes = [] → f.job.reads = i :: rs →
                t.out.mem = [.read i.addr] ∧ t.path.returns = s.path.returns ++ [{ requester := .fill f.job.use, addr := i.addr }]
                  ∧ t.take = { s.take with fill := some { f with job :=
                      { f.job with reads := rs, awaiting := f.job.awaiting ++ [i] } } })
            ∧ (f.job.writes ≠ [] ∨ f.job.reads ≠ []) ∧ t.session = s.session ∧ t.faults = s.faults ∧ t.freeze = s.freeze)

/-- The grants of UPSTREAM. A read's grant takes its stream's candidate away and puts it at the end of the read return list with the overlay
entry's bytes as they stand at the grant. A maintenance write goes to memory unchanged. With a non-empty mask its bytes leave the overlay
entry of its address, which leaves the list with its last byte, and in a feed session they patch its word in each staging buffer that holds
its segment: a word arrived or granted takes the bytes, one granted and not arrived keeps them for its response, any other is left alone. One
to words 1 to 7 of the directive slot replaces the covered bytes of that word of the shadow and of no other; one outside the slot leaves the
directive unit alone. One to word 0 is handled, in the same event, exactly as the directive or stray trigger that its bytes are: the grant
answers what that command answers, with the write passed. That the directives are commands of their own beside the granted write is the
model's choice (log 5). A write with an empty mask, and any write while RESET_N is low, goes to memory and does nothing else. -/
def Obligations.UpstreamGrantsLookUpAndSnoop : Prop :=
  ∀ s : State, s.chassis.power = true → s.winner = some .upstream →
    (∀ (st : Stream) (a : Addr),
      (match st with
        | .lookup => s.path.lookup = some a ∧ s.path.returns.length < Config.returnPlaces
        | .maintenance => s.path.lookup = none ∧ s.path.maint = .read a) →
      ∃ t, exec .arbiterGrant s = .next t ∧ t.freeze = s.freeze ∧ t.map = s.map ∧ t.directive = s.directive
        ∧ t.walker = s.walker ∧ t.out.mem = [.read a] ∧ t.path.reads st = s.path.reads st
        ∧ t.path.lookup = none ∧ t.path.maint = (match st with | .lookup => s.path.maint | .maintenance => .empty)
        ∧ t.path.returns = s.path.returns ++
            [{ requester := .upstream st ((s.freeze.find a).map OverlayEntry.mask |>.getD 0)
                              ((s.freeze.find a).map OverlayEntry.data |>.getD 0), addr := a }])
    ∧ (∀ w : WriteReq, s.isReady s.lookupOffer = false → s.path.maint = .write w →
        (w.mask = 0 ∨ s.live = false → s.settled →
          exec .arbiterGrant s = .next { s with
            path := { s.path with maint := .empty, waitRuns := s.runsAfter .upstream }
            out := { Out.none with mem := [.write w.addr w.data w.mask] } })
        ∧ (s.live = true → w.mask ≠ 0 → slotOffset s.chassis.msize w.addr ≠ some 0 →
          ∃ t, exec .arbiterGrant s = .next t ∧ t.out.mem = [.write w.addr w.data w.mask] ∧ t.path.returns = s.path.returns
            ∧ t.path.maint = .empty ∧ t.path.lookup = s.path.lookup
            ∧ (∀ e, e ∈ t.freeze.entries ↔ (e ∈ s.freeze.entries ∧ e.addr ≠ w.addr)
                ∨ ∃ o ∈ s.freeze.entries, o.addr = w.addr ∧ o.mask &&& ~~~ w.mask ≠ 0
                    ∧ e = { o with mask := o.mask &&& ~~~ w.mask, data := keepBytes (o.mask &&& ~~~ w.mask) o.data })
            ∧ (t.freeze.entries.map OverlayEntry.addr).Sublist (s.freeze.entries.map OverlayEntry.addr)
            ∧ (s.inFeed = false → t.walker.buf0 = s.walker.buf0 ∧ t.walker.buf1 = s.walker.buf1 ∧ t.map = s.map)
            ∧ (s.inFeed = true → ∀ second : Bool,
                (s.walker.buf second = none → t.walker.buf second = none)
                  ∧ ∀ b, s.walker.buf second = some b →
                      (b.segment ≠ segmentOf w.addr → t.walker.buf second = some b)
                        ∧ (b.segment = segmentOf w.addr → ∃ c, t.walker.buf second = some c ∧ c = { b with words := c.words }
                            ∧ ∀ k : Fin 64, c.words[k] =
                                if k.val ≠ w.addr.toNat % 64 then b.words[k]
                                else if b.words[k].arrived then
                                  { b.words[k] with data := mergeBytes w.mask w.data b.words[k].data }
                                else if b.words[k].granted then
                                  { b.words[k] with
                                    data := mergeBytes w.mask w.data b.words[k].data, patch := b.words[k].patch ||| w.mask }
                                else b.words[k]))
            ∧ (slotOffset s.chassis.msize w.addr = none → t.directive = s.directive)
            ∧ ∀ i : Fin 7, slotOffset s.chassis.msize w.addr = some (i.val + 1) →
                (∀ j : Fin 7, t.directive.shadow[j] =
                    if j = i then mergeBytes w.mask w.data s.directive.shadow[j] else s.directive.shadow[j])
                  ∧ t.directive.expected = s.directive.expected ∧ t.directive.stray = s.directive.stray
                  ∧ t.directive.last = s.directive.last)
        ∧ (s.live = true → w.mask ≠ 0 → slotOffset s.chassis.msize w.addr = some 0 →
          s.classOf w.addr = .localOnly → (∀ e ∈ s.freeze.entries, e.addr ≠ w.addr) →
          (∀ b, s.walker.buf0 = some b ∨ s.walker.buf1 = some b → b.segment ≠ segmentOf w.addr) →
          (s.session.state = .replay → s.freeze.entries ≠ []) →
          ∃ u, exec (s.slotZeroCommand w) { s with path := { s.path with maint := .empty, waitRuns := s.runsAfter .upstream } } = .next u
            ∧ exec .arbiterGrant s = .next { u with out := { u.out with mem := [.write w.addr w.data w.mask] } }))

/-! ### The segment map -/

/-- A granted write to a MIRROR segment in a feed session. INFLIGHT, or CLEAN outside SUSPENDED, makes a mirror record: appended to the
queue's last frame where that is a MIR frame with fewer than 8 records, else in a new MIR frame at the end while the queue holds fewer
than 16 frames, else refused, the segment becoming DIRTY and the overflow count rising. CLEAN in SUSPENDED becomes DIRTY with no record.
In any other state nothing changes. ARBITER_GRANT of the write does this: it leaves that map, and that queue but for an INSTEP that may be
queued behind in STEADY. -/
def Obligations.MirrorWriteAtGrant : Prop :=
  ∀ (s : State) (w : WriteReq), s.inFeed = true → s.classOf w.addr = .mirror →
    let n := segmentOf w.addr
    let r : MirrorRecord := { addr := w.addr, data := w.data, mask := w.mask }
    let t := s.mapWrite w
    (s.map.get n = .inflight ∨ (s.map.get n = .clean ∧ s.session.state ≠ .suspended) →
        (∀ q rs, s.feed.queue = q ++ [.mir rs] → rs.length < 8 →
            t = { s with feed := { s.feed with queue := q ++ [.mir (rs ++ [r])] } })
          ∧ ((∀ q rs, s.feed.queue = q ++ [.mir rs] → 8 ≤ rs.length) → s.feed.queue.length < 16 →
              t = { s with feed := { s.feed with queue := s.feed.queue ++ [.mir [r]] } })
          ∧ ((∀ q rs, s.feed.queue = q ++ [.mir rs] → 8 ≤ rs.length) → 16 ≤ s.feed.queue.length →
              t.map.get n = .dirty ∧ t.map.overflow = min Config.top32 (s.map.overflow + 1) ∧ t.feed = s.feed
                ∧ ∀ k, k ≠ n → t.map.get k = s.map.get k))
      ∧ (s.map.get n = .clean → s.session.state = .suspended →
          t.map.get n = .dirty ∧ t.map.overflow = s.map.overflow ∧ t.feed = s.feed ∧ ∀ k, k ≠ n → t.map.get k = s.map.get k)
      ∧ (s.map.get n ≠ .inflight → s.map.get n ≠ .clean → t = s)
      ∧ (s.live = true → s.winner = some .upstream → s.isReady s.lookupOffer = false → s.path.maint = .write w → w.mask ≠ 0 →
          slotOffset s.chassis.msize w.addr ≠ some 0 →
          ∃ u, exec .arbiterGrant s = .next u ∧ u.out.mem = [.write w.addr w.data w.mask] ∧ u.map = t.map
            ∧ (u.feed.queue = t.feed.queue ∨ (u.session.state = .steady ∧ u.feed.queue = t.feed.queue ++ [.instep]))
            ∧ u.feed.window = s.feed.window)

/-- A granted write to a SNAPSHOT segment in a feed session makes no record and leaves every state: INFLIGHT or CLEAN raises the drift
write count, any other state changes nothing. ARBITER_GRANT of the write does this: it leaves that map, and the queue as it was but for an
INSTEP that may be queued behind in STEADY. -/
def Obligations.SnapshotWriteAtGrant : Prop :=
  ∀ (s : State) (w : WriteReq), s.inFeed = true → s.classOf w.addr = .snapshot →
    let st := s.map.get (segmentOf w.addr)
    (st = .inflight ∨ st = .clean →
        s.mapWrite w = { s with map := { s.map with drift := min Config.top32 (s.map.drift + 1) } })
      ∧ (st ≠ .inflight → st ≠ .clean → s.mapWrite w = s)
      ∧ (s.live = true → s.winner = some .upstream → s.isReady s.lookupOffer = false → s.path.maint = .write w → w.mask ≠ 0 →
          slotOffset s.chassis.msize w.addr ≠ some 0 →
          ∃ u, exec .arbiterGrant s = .next u ∧ u.out.mem = [.write w.addr w.data w.mask] ∧ u.map = (s.mapWrite w).map
            ∧ (u.feed.queue = s.feed.queue ∨ (u.session.state = .steady ∧ u.feed.queue = s.feed.queue ++ [.instep]))
            ∧ u.feed.window = s.feed.window)

/-- While the map is legal for a feed session, its six counts sum to the number of tracked segments of the region table; outside one they
are all zero. -/
def Obligations.CountsSumToTrackedSegments : Prop :=
  ∀ s : State, s.mapLegal →
    (s.inFeed = true →
        s.map.count .unsent + s.map.count .opened + s.map.count .inflight + s.map.count .clean + s.map.count .dirty
          + s.map.count .srcFault = trackedTotal s.regions)
      ∧ (s.inFeed = false →
        s.map.count .unsent = 0 ∧ s.map.count .opened = 0 ∧ s.map.count .inflight = 0 ∧ s.map.count .clean = 0
          ∧ s.map.count .dirty = 0 ∧ s.map.count .srcFault = 0)

/-- Retiring a SEG frame makes its INFLIGHT segment CLEAN when no later SEG frame for it remains, and else leaves it; a segment in any
other state, and every other segment, stays; MIR and state frames change no segment. -/
def Obligations.RetirementMovesInflightToClean : Prop :=
  ∀ (s : State) (f : SeqFrame) (left : List SeqFrame),
    (∀ n ws, f = .seg n ws →
        (s.retireOne f left).map.get n.toNat =
            (if s.map.get n.toNat = .inflight ∧ left.any (isSegFor n.toNat) = false then .clean else s.map.get n.toNat)
          ∧ ∀ k, k ≠ n.toNat → (s.retireOne f left).map.get k = s.map.get k)
      ∧ ((∀ n ws, f ≠ .seg n ws) → (s.retireOne f left).map = s.map)
      ∧ (f = .instep → (s.retireOne f left).session.retiredStep = .instep)
      ∧ (f = .stale → (s.retireOne f left).session.retiredStep = .stale)

/-! ### Staging -/

/-- A staging word's final value is the read response's word with every write granted after the read merged in, in grant order, whether
the write came before the response or after it. -/
def Obligations.StagedWordHoldsLaterWrites : Prop :=
  ∀ (x : StageWord) (before after : List WriteReq) (data : Word),
    x.granted = true → x.arrived = false → x.data = 0 → x.patch = 0 →
    (after.foldl (fun y w => y.patchWrite w)
        ((before.foldl (fun y w => y.patchWrite w) x).respond .ok data)).data
      = (before ++ after).foldl (fun d w => mergeBytes w.mask w.data d) data

/-- WALKER_STEP with a segment at the cursor. To be copied, with no FLUSHING overlay entry and a buffer FREE: buffer 0 if it is FREE, else
buffer 1, is READING for it with nothing granted, the segment is OPEN, and the cursor moves to the next place. Not to be copied: the cursor
moves on and there is no memory access. To be copied while neither buffer is FREE, or holding a FLUSHING entry: the cursor stays. -/
def Obligations.WalkerWorksAtItsCursor : Prop :=
  ∀ (s : State) (i : Nat) (n : Segment), s.live = true → s.walking = true → s.walker.cursor = some i →
    (walkOrder s.regions)[i]? = some n →
    ∃ t, exec .walkerStep s = .next t ∧ t.out = Out.none ∧ t.session.state = s.session.state ∧ t.link = s.link
      ∧ t.regions = s.regions ∧ t.path.returns = s.path.returns ∧ t.freeze.timer = s.freeze.timer ∧ t.feed.window = s.feed.window
      ∧ (s.toCopy (s.map.get n) = true → s.freeze.flushingIn n = false → s.walker.buf0 = none →
          t.map.get n = .opened ∧ (∀ k, k ≠ n → t.map.get k = s.map.get k)
            ∧ t.walker.buf0 = some (Buffer.start n s.walker.nextUse) ∧ t.walker.buf1 = s.walker.buf1
            ∧ t.walker.cursor = nextPlace s.walkMode (walkOrder s.regions).length i)
      ∧ (s.toCopy (s.map.get n) = true → s.freeze.flushingIn n = false → s.walker.buf0 ≠ none → s.walker.buf1 = none →
          t.map.get n = .opened ∧ (∀ k, k ≠ n → t.map.get k = s.map.get k)
            ∧ t.walker.buf1 = some (Buffer.start n s.walker.nextUse) ∧ t.walker.buf0 = s.walker.buf0
            ∧ t.walker.cursor = nextPlace s.walkMode (walkOrder s.regions).length i)
      ∧ (s.toCopy (s.map.get n) = false →
          t.walker = { s.walker with cursor := nextPlace s.walkMode (walkOrder s.regions).length i } ∧ t.map = s.map)
      ∧ (s.toCopy (s.map.get n) = true → s.walker.hasFree = false ∨ s.freeze.flushingIn n = true →
          t.walker = s.walker ∧ t.map = s.map)

/-- SEG_FRAME_QUEUED with a WAITING buffer, of two the one taken first, a free place and no state frame ahead: the SEG frame of the buffer's
segment and its 64 staged words goes to the end of the queue, with nothing behind it but, in STEADY, at most an INSTEP; the segment is
INFLIGHT and the buffer FREE. Where the cursor waits for a buffer, the walker takes a FREE one in the same event. The model's readings: the
buffer taken first is the one that became WAITING first (log 21), and the freed buffer is taken at once (log 20). -/
def Obligations.QueuedSegFrameIsTheBuffers : Prop :=
  ∀ (second : Bool) (s : State) (b : Buffer), s.live = true → s.inFeed = true → s.walker.buf second = some b → b.waiting = true →
    (∀ c, s.walker.buf (!second) = some c → c.waiting = true → b.use < c.use) → s.feed.queue.length < Config.queuePlaces →
    s.session.stalePending = false → s.feed.instepWaiting = false → s.map.get b.segment = .opened →
    let seg : SeqFrame := .seg (BitVec.ofNat 18 b.segment) (b.words.map StageWord.data)
    ∃ t, exec .segFrameQueued s = .next t
      ∧ (t.feed.queue = s.feed.queue ++ [seg]
          ∨ (s.session.state = .steady ∧ t.feed.queue = s.feed.queue ++ [seg, .instep]))
      ∧ t.map.get b.segment = .inflight ∧ t.feed.window = s.feed.window ∧ t.session = s.session ∧ t.out = Out.none
      ∧ ((∀ i n, s.walker.cursor = some i → (walkOrder s.regions)[i]? = some n → s.toCopy (s.map.get n) = false) →
          t.walker = s.walker.setBuf second none ∧ ∀ k, k ≠ b.segment → t.map.get k = s.map.get k)
      ∧ (∀ i n, s.walking = true → s.walker.cursor = some i → (walkOrder s.regions)[i]? = some n →
          s.toCopy (s.map.get n) = true → s.freeze.flushingIn n = false →
          t.feed.queue = s.feed.queue ++ [seg] ∧ t.map.get n = .opened
            ∧ (∀ k, k ≠ b.segment → k ≠ n → t.map.get k = s.map.get k)
            ∧ t.walker.cursor = nextPlace s.walkMode (walkOrder s.regions).length i
            ∧ (second = false ∨ s.walker.buf0 = none →
                t.walker.buf0 = some (Buffer.start n s.walker.nextUse)
                  ∧ t.walker.buf1 = if second then none else s.walker.buf1)
            ∧ (second = true → s.walker.buf0 ≠ none →
                t.walker.buf0 = s.walker.buf0 ∧ t.walker.buf1 = some (Buffer.start n s.walker.nextUse)))

/-- READ_RESPONSE for a staging read of either buffer. Its use no longer the buffer's, or the buffer FREE: the response is discarded, and
nothing but the read return list changes. Its use the buffer's: the word has arrived and the response counts; an OK puts the data into the
word with the bytes written since the read's grant merged in, a FAULT leaves the word's bytes and is remembered. Before the 64th response
nothing else changes. The 64th with all OK makes the buffer WAITING, its segment still OPEN. The 64th with a FAULT among the 64, be it the
last one or an earlier one: the segment is SRCFAULT, the buffer FREE, the segment listed with cause SOURCE, SOURCE_FAULT recorded, and the
session continues. -/
def Obligations.SourceFaultAtLastResponse : Prop :=
  ∀ (second : Bool) (s : State) (i use : Nat) (a : Addr) (rest : List ReturnEntry) (status : Status) (data : Word),
    s.live = true → s.path.returns = { requester := .walk second i use, addr := a } :: rest →
    ((∀ b, s.walker.buf second = some b → b.use ≠ use) → s.settled →
      exec (.readResponse status data) s = .next { s with path := { s.path with returns := rest }, out := .none })
    ∧ ∀ b, s.walker.buf second = some b → b.use = use →
      (b.responses < 63 ∨ (b.responses = 63 ∧ status = .ok ∧ b.faultSeen = false) →
        ∃ t, exec (.readResponse status data) s = .next t ∧ t.path.returns = rest ∧ t.map = s.map ∧ t.faults = s.faults
          ∧ t.session = s.session ∧ t.out = Out.none
          ∧ ∃ c, t.walker = s.walker.setBuf second (some c)
            ∧ c = { b with responses := b.responses + 1, faultSeen := b.faultSeen || status == .fault, words := c.words
                           waiting := b.waiting || b.responses == 63 }
            ∧ ∀ k : Fin 64, c.words[k] =
                if k.val ≠ i then b.words[k]
                else if status = .ok then
                  { b.words[k] with arrived := true, data := mergeBytes b.words[k].patch b.words[k].data data, patch := 0 }
                else { b.words[k] with arrived := true })
      ∧ (b.responses = 63 → status = .fault ∨ b.faultSeen = true → s.map.get b.segment = .opened →
        (∀ i n, s.walker.cursor = some i → (walkOrder s.regions)[i]? = some n → s.toCopy (s.map.get n) = false) →
        ∃ t, exec (.readResponse status data) s = .next t ∧ t.path.returns = rest ∧ t.map.get b.segment = .srcFault
          ∧ (∀ k, k ≠ b.segment → t.map.get k = s.map.get k) ∧ t.walker = s.walker.setBuf second none
          ∧ (b.segment, Cause.source) ∈ t.faults.list ∧ t.faults.list = (s.faults.enter b.segment .source).list
          ∧ t.faults.summary = s.faults.summary ||| 0x040#12
          ∧ t.faults.first = (match s.faults.first with | none => some .sourceFault | some f => some f)
          ∧ t.notices.fault.pending = true ∧ t.session.state = s.session.state ∧ t.report.writing = true)

/-! ### Directives -/

/-- The snooped words that are no taken directive. A write to slot word `i` + 1 replaces the covered bytes of that word of the shadow and of
no other; a write to word 0 that fails one of the three tests raises the stray trigger count and does nothing else; a trigger whose kind
code names no kind has the outcome UNKNOWN_KIND, raises DIRECTIVE, and changes nothing else. That each is a command on its own is the
model's choice (log 5). -/
def Obligations.SlotWordsThatAreNoDirective : Prop :=
  ∀ s : State, s.live = true → s.settled →
    (∀ (i : Fin 7) (data : Word) (mask : Mask), mask ≠ 0 → ∃ t, exec (.shadowWrite i data mask) s = .next t
        ∧ (∀ j : Fin 7, t.directive.shadow[j] = if j = i then mergeBytes mask data s.directive.shadow[j] else s.directive.shadow[j])
        ∧ t = { s with directive := { s.directive with shadow := t.directive.shadow }, out := .none })
    ∧ (∀ (data : Word) (mask : Mask), mask ≠ 0 →
        ¬ (mask = fullMask ∧ byteOf data 0 = 0xC5 ∧ byteOf data 1 = s.directive.expected) →
        exec (.strayTrigger data mask) s =
          .next { s with directive := { s.directive with stray := min 65535 (s.directive.stray + 1) }, out := .none })
    ∧ (∀ code : Byte, code = 0 ∨ 11 < code.toNat → ∃ t, exec (.unknownKind s.directive.expected code) s = .next t
        ∧ t.directive = { s.directive with expected := s.directive.expected + 1,
                                           last := { number := s.directive.expected, code := code, outcome := .unknownKind } }
        ∧ t.notices = s.notices.set .directive (raised s.report.generation) ∧ t.report.writing = true
        ∧ t.settings = s.settings ∧ t.regions = s.regions ∧ t.session = s.session ∧ t.link = s.link ∧ t.feed = s.feed
        ∧ t.take = s.take ∧ t.map = s.map ∧ t.walker = s.walker ∧ t.freeze = s.freeze ∧ t.review = s.review
        ∧ t.faults = s.faults ∧ t.out = Out.none)

/-- A trigger with the expected number is judged by the tests in their order, and its number, kind code and outcome become the last
directive record; the expected number goes up by 1; DIRECTIVE is raised for every kind but ACKNOWLEDGE, and a report is requested. A refused
directive changes nothing else. SETUP, REGION, FEED and TAKE are allowed in IDLE; HANDOVER in every feed session state; RELEASE in the feed's
STEADY; ABORT in every session state; ADOPT in the take's SYNCED, FINAL, HELD and DETACHED, and with the force flag in its BRINGUP, INSTALL
and RECEIVING; NOTICES, ACKNOWLEDGE and REFRESH everywhere; in any other state each is REFUSED_STATE. TAKE with TAKE_EN low or the lockout
latched is REFUSED_ENABLE. A REGION that fails the check of R22, and a FEED with session id 0 or no tracked segment, are REFUSED_VALUE. A
trigger with any other number is stray. That each is a command on its own is the model's choice (log 5). -/
def Obligations.DirectivesAreJudgedInOrder : Prop :=
  ∀ (k : DirKind) (s : State), s.live = true →
    let st := s.session.state
    let feed := s.session.role = .feed ∧ st ≠ .idle
    let take := s.session.role = .take ∧ st ≠ .idle
    let w := s.directive.word
    let allowed : Prop :=
      match k with
      | .setup | .region | .feed | .take => st = .idle
      | .handover => feed
      | .release => feed ∧ st = .steady
      | .abort => feed ∨ take
      | .adopt => take ∧ (st = .synced ∨ st = .final ∨ st = .held ∨ st = .detached
          ∨ ((st = .bringup ∨ st = .install ∨ st = .receiving) ∧ (w 1).getLsbD 0 = true))
      | .notices | .acknowledge | .refresh => True
    let base := (w 1).toNat % 2 ^ 18
    let length := (w 1).toNat / 2 ^ 32 % 2 ^ 18
    let fits := length = 0
      ∨ (base + length - 1 ≤ segmentsOf s.chassis.msize - 17 ∧ (w 2).toNat / 2 ^ 8 % 2 ^ 8 ≤ 3
        ∧ ∀ j : Fin 16, j.val ≠ (w 2).toNat % 16 → s.regions[j].length ≠ 0 →
            s.regions[j].base.toNat + s.regions[j].length.toNat ≤ base ∨ base + length ≤ s.regions[j].base.toNat)
    let tracked := ∃ j : Fin 16, s.regions[j].length ≠ 0 ∧ (s.regions[j].cls = .mirror ∨ s.regions[j].cls = .snapshot)
    let enabled := k = .take → s.chassis.takeEn = true ∧ s.session.lockout = false
    let valid := (k = .region → fits) ∧ (k = .feed → (w 1).toNat % 2 ^ 16 ≠ 0 ∧ tracked)
    (s.stateLegal →
      (feed ↔ s.session.role = .feed ∧ (st = .bringup ∨ st = .install ∨ st = .sweep ∨ st = .catchup ∨ st = .freeze ∨ st = .replay
          ∨ st = .steady ∨ st = .suspended ∨ st = .handover))
        ∧ (take ↔ s.session.role = .take ∧ (st = .bringup ∨ st = .install ∨ st = .receiving ∨ st = .synced ∨ st = .final ∨ st = .held
          ∨ st = .detached)))
    ∧ (∀ o : DirOutcome,
        (¬ allowed ∧ o = .refusedState) ∨ (allowed ∧ ¬ enabled ∧ o = .refusedEnable)
          ∨ (allowed ∧ enabled ∧ ¬ valid ∧ o = .refusedValue) ∨ (allowed ∧ enabled ∧ valid ∧ o = .done) →
        ∃ t, exec (k.command s.directive.expected) s = .next t
        ∧ t.directive = { s.directive with expected := s.directive.expected + 1,
                                           last := { number := s.directive.expected, code := k.code, outcome := o } }
        ∧ t.report.writing = true ∧ (s.report.writing = true → t.report.again = true)
        ∧ (k ≠ .acknowledge → t.notices.directive = raised s.report.generation)
        ∧ (o ≠ .done → s.settled →
            t.settings = s.settings ∧ t.regions = s.regions ∧ t.session = s.session ∧ t.link = s.link ∧ t.feed = s.feed
              ∧ t.take = s.take ∧ t.map = s.map ∧ t.walker = s.walker ∧ t.freeze = s.freeze ∧ t.review = s.review
              ∧ t.faults = s.faults ∧ t.chassis = s.chassis ∧ t.out = Out.none))
    ∧ (∀ n, n ≠ s.directive.expected → s.settled →
        exec (k.command n) s =
          .next { s with directive := { s.directive with stray := min 65535 (s.directive.stray + 1) }, out := .none })

/-- SETUP in IDLE is taken: every configuration value becomes the one its field of shadow words 1 and 2 holds, 0 taken as 1 where the range
starts at 1 and a value above 15 taken as 15 for the pass limit and the filter; a change of the yield count or of a level clears the wait
runs. -/
def Obligations.SetupReplacesEveryValue : Prop :=
  ∀ s : State, s.live = true → s.session.state = .idle →
    let w1 := s.directive.word 1
    let w2 := s.directive.word 2
    ∃ t, exec (.setup s.directive.expected) s = .next t ∧ t.directive.last.outcome = .done
      ∧ t.settings.walk.toNat = (byteOf w1 0).toNat % 8 ∧ t.settings.fill.toNat = (byteOf w1 1).toNat % 8
      ∧ t.settings.apply.toNat = (byteOf w1 2).toNat % 8 ∧ t.settings.replay.toNat = (byteOf w1 3).toNat % 8
      ∧ t.settings.report.toNat = (byteOf w1 4).toNat % 8
      ∧ t.settings.yieldCount = max 1 (byteOf w1 5).toNat ∧ t.settings.retry = max 1 ((byteOf w1 6).toNat % 16)
      ∧ t.settings.passLimit = min 15 (max 1 (byteOf w1 7).toNat)
      ∧ t.settings.budget = max 1 ((byteOf w2 0).toNat + 256 * (byteOf w2 1).toNat)
      ∧ (t.settings.throttleOn = true ↔ (byteOf w2 2).toNat % 2 = 1)
      ∧ (t.settings.policy = .abandon ↔ (byteOf w2 3).toNat % 2 = 1)
      ∧ t.settings.silence = max 1 (byteOf w2 4).toNat ∧ t.settings.bringup = max 1 (byteOf w2 5).toNat
      ∧ t.settings.hold = max 1 (byteOf w2 6).toNat ∧ t.settings.filter = min 15 (max 1 (byteOf w2 7).toNat)
      ∧ (s.settings.sameArbiter t.settings = false → t.path.waitRuns = WaitRuns.reset)
      ∧ t.regions = s.regions ∧ t.map = s.map ∧ t.walker = s.walker ∧ t.session = s.session ∧ t.link = s.link ∧ t.take = s.take
      ∧ t.faults = s.faults ∧ t.freeze.timer = s.freeze.timer ∧ t.out = Out.none

/-- REGION in IDLE. With length 0 the named entry becomes empty. With another length, an entry that ends below
the control area, shares no segment with another non-empty entry and names a class is written with all five fields; any other is refused with
REFUSED_VALUE and leaves the table. No other entry changes. -/
def Obligations.RegionRewritesItsEntry : Prop :=
  ∀ s : State, s.live = true → s.session.state = .idle →
    let f := s.regionRequest
    let fits := f.base.toNat + f.length.toNat - 1 ≤ segmentsOf s.chassis.msize - 17 ∧ f.cls.toNat ≤ 3
      ∧ ∀ j : Fin 16, j.val ≠ f.index.toNat → s.regions[j].length ≠ 0 →
          s.regions[j].base.toNat + s.regions[j].length.toNat ≤ f.base.toNat
            ∨ f.base.toNat + f.length.toNat ≤ s.regions[j].base.toNat
    ∃ t, exec (.region s.directive.expected) s = .next t
      ∧ (∀ j : Fin 16, j.val ≠ f.index.toNat → t.regions[j] = s.regions[j])
      ∧ (∀ j : Fin 16, j.val = f.index.toNat →
          (f.length = 0 → t.regions[j] = Region.empty ∧ t.directive.last.outcome = .done)
            ∧ (f.length ≠ 0 → fits →
                t.regions[j].base = f.base ∧ t.regions[j].length = f.length ∧ codeOfClass t.regions[j].cls = f.cls
                  ∧ t.regions[j].order = f.order ∧ t.regions[j].fill = f.fill ∧ t.directive.last.outcome = .done)
            ∧ (f.length ≠ 0 → ¬ fits → t.regions[j] = s.regions[j] ∧ t.directive.last.outcome = .refusedValue))
      ∧ t.settings = s.settings ∧ t.session = s.session ∧ t.map = s.map ∧ t.walker = s.walker ∧ t.link = s.link ∧ t.take = s.take
      ∧ t.faults = s.faults ∧ t.chassis = s.chassis ∧ t.freeze.timer = s.freeze.timer ∧ t.out = Out.none

/-- FEED in IDLE with a session id and a tracked segment starts a feed session: BRINGUP, every tracked segment UNSENT in walk order, the
link in TRAINING with the bring-up timer from 0, the fault records emptied, and the figures that start at FEED at their start values. That the
first TRAIN is due also while the filtered PEER_PRESENT level is low is the model's choice (log 50). -/
def Obligations.FeedStartsASession : Prop :=
  ∀ s : State, s.live = true → s.session.state = .idle → feedSession (s.directive.word 1) ≠ 0 → trackedTotal s.regions ≠ 0 →
    ∃ t, exec (.feed s.directive.expected) s = .next t ∧ t.directive.last.outcome = .done
      ∧ t.session.role = .feed ∧ t.session.state = .bringup ∧ t.session.id = feedSession (s.directive.word 1)
      ∧ t.session.handoverPending = false ∧ t.session.stalePending = false ∧ t.session.retiredStep = .stale
      ∧ t.session.resumeKind = .fresh ∧ t.session.hold = none ∧ t.session.lockout = s.session.lockout
      ∧ t.faults = Faults.reset ∧ t.map.cells = (walkOrder s.regions).map (fun n => (n, .unsent)) ∧ t.map.drift = 0
      ∧ t.map.overflow = 0 ∧ t.link.state = .training ∧ t.link.trainDue = true ∧ t.link.bringup = some 0 ∧ t.link.discarded = 0
      ∧ t.link.numbering = false ∧ t.review.record = ReviewRecord.reset ∧ t.review.dPrev = none ∧ t.review.passNumber = 0
      ∧ t.review.t = 0 ∧ t.review.c = 0 ∧ t.review.w = 0 ∧ ((∀ w, s.path.maint ≠ .held w) → t.review.lastAdmitted = none)
      ∧ t.review.throttle = 0 ∧ t.feed.peerFail = 0 ∧ t.feed.peerState = none ∧ t.feed.rewinds = 0 ∧ t.feed.rewound = none
      ∧ t.notices.state.pending = true ∧ t.regions = s.regions ∧ t.settings = s.settings ∧ t.freeze = s.freeze
      ∧ t.walker = s.walker ∧ t.take = s.take ∧ t.chassis = s.chassis ∧ t.out = Out.none

/-- TAKE in IDLE with TAKE_EN high and the lockout clear starts a take session: BRINGUP, session id and size class 0, no GREET answered, no
layout installed, the link in TRAINING with the bring-up timer from 0, and the counts and records that start at TAKE at their start
values. That the first TRAIN is due also while the filtered PEER_PRESENT level is low is the model's choice (log 50). -/
def Obligations.TakeStartsASession : Prop :=
  ∀ s : State, s.live = true → s.session.state = .idle → s.chassis.takeEn = true → s.session.lockout = false →
    ∃ t, exec (.take s.directive.expected) s = .next t ∧ t.directive.last.outcome = .done
      ∧ t.session.role = .take ∧ t.session.state = .bringup ∧ t.session.id = 0 ∧ t.session.sizeClass = 0
      ∧ t.session.greeted = none ∧ t.session.layoutInstalled = false ∧ t.session.hold = none ∧ t.session.lockout = false
      ∧ t.faults = Faults.reset ∧ t.take.failTotal = 0 ∧ t.take.rewinds = 0 ∧ t.take.interrupted = none ∧ t.take.rx = .inactive
      ∧ t.path.blocked = 0 ∧ t.link.state = .training ∧ t.link.trainDue = true ∧ t.link.bringup = some 0 ∧ t.link.discarded = 0
      ∧ t.link.numbering = false ∧ t.notices.state.pending = true ∧ t.regions = s.regions ∧ t.settings = s.settings
      ∧ t.freeze = s.freeze ∧ t.map = s.map ∧ t.walker = s.walker ∧ t.chassis = s.chassis ∧ t.out = Out.none

/-- A handover request at a feed, by the HANDOVER directive or by an EJECT event: STEADY enters HANDOVER with the freeze timer from 0 and
no handover pending; HANDOVER does nothing; any other state becomes handover pending. -/
def Obligations.HandoverRequestActsByState : Prop :=
  ∀ (c : Instr) (s : State), s.live = true → s.inFeed = true →
    c = .handover s.directive.expected ∨ (c = .ejectEvent ∧ s.chassis.eject = false) →
    ∃ t, exec c s = .next t
      ∧ (s.session.state = .steady →
          t.session.state = .handover ∧ t.session.handoverPending = false ∧ t.freeze.timer = some 0
            ∧ t.notices.state.pending = true)
      ∧ (s.session.state = .handover →
          t.session.state = .handover ∧ t.session.handoverPending = s.session.handoverPending ∧ t.freeze.timer = s.freeze.timer)
      ∧ (s.session.state ≠ .steady → s.session.state ≠ .handover →
          t.session.state = s.session.state ∧ t.session.handoverPending = true ∧ t.freeze.timer = s.freeze.timer)
      ∧ (c = .ejectEvent → t.chassis.eject = true ∧ t.notices.line.pending = true ∧ t.directive = s.directive)
      ∧ t.session.role = s.session.role ∧ t.map = s.map ∧ t.walker = s.walker ∧ t.link = s.link ∧ t.take = s.take
      ∧ t.faults = s.faults ∧ t.regions = s.regions ∧ t.settings = s.settings ∧ t.feed.window = s.feed.window ∧ t.out = Out.none

/-- A feed session ends by RELEASE in STEADY, by ABORT, by a CLOSE from the take, by the freeze timer in HANDOVER, by the hold limit in
SUSPENDED, by the bring-up limit or by a role clash, each with its own CLOSE and fault. That the CLOSE leaves in the
event of the end, the link UP, and that the link is then OFF, is how the model reads R75 and R157 (DEDUCED, log 7). -/
def Obligations.FeedSessionEnds : Prop :=
  ∀ s : State, s.live = true → s.inFeed = true →
    (s.session.state = .steady →
        ∃ t, exec (.release s.directive.expected) s = .next t ∧ feedEnded (some .released) s t ∧ t.faults = s.faults)
    ∧ (∃ t, exec (.abort s.directive.expected) s = .next t ∧ feedEnded (some .aborted) s t ∧ t.faults = s.faults)
    ∧ (∀ r, r = .adopted ∨ r = .aborted ∨ r = .lockout ∨ r = .misfit → s.link.state = .up →
        ∃ t, exec (.closeReceived r) s = .next t ∧ feedEnded none s t
          ∧ (r = .adopted → t.faults = s.faults) ∧ (r ≠ .adopted → faultAdded .closedByPeer s t))
    ∧ (s.session.state = .handover → s.freeze.timer ≠ none →
        ∃ t, exec .handoverOverrun s = .next t ∧ feedEnded (some .incomplete) s t ∧ faultAdded .freezeOverrun s t)
    ∧ (s.session.state = .suspended → s.session.hold ≠ none →
        ∃ t, exec .feedHoldTimeout s = .next t ∧ feedEnded none s t ∧ faultAdded .linkLost s t)
    ∧ (s.link.bringup ≠ none → ∃ t, exec .bringupTimeout s = .next t ∧ feedEnded none s t ∧ faultAdded .bringupTimeout s t)
    ∧ (∀ lane slot, s.link.state ≠ .off → slot ≠ s.chassis.slotId →
        ∃ t, exec (.trainReceived lane .feed slot) s = .next t ∧ feedEnded none s t ∧ faultAdded .roleClash s t)

/-- A take session ends by ADOPT in the states it is allowed in, by ABORT, by an EJECT event, by a TAKE_EN fall (which latches the lockout),
by the bring-up limit or by a role clash, each with its own CLOSE and fault. That the CLOSE leaves in the event of the end, and the link is
then OFF, is how the model reads R75 and R162 (DEDUCED, log 7); that the receive numbering ends with the session is log 43 (DEDUCED). -/
def Obligations.TakeSessionEnds : Prop :=
  ∀ s : State, s.live = true → s.inTake = true →
    (s.session.state = .synced ∨ s.session.state = .final ∨ s.session.state = .held ∨ s.session.state = .detached
        ∨ (adoptForce (s.directive.word 1) = true
            ∧ (s.session.state = .bringup ∨ s.session.state = .install ∨ s.session.state = .receiving)) →
        ∃ t, exec (.adopt s.directive.expected) s = .next t ∧ takeEnded (some .adopted) s t ∧ t.faults = s.faults
          ∧ t.session.lockout = s.session.lockout)
    ∧ (∃ t, exec (.abort s.directive.expected) s = .next t ∧ takeEnded (some .aborted) s t ∧ t.faults = s.faults
          ∧ t.session.lockout = s.session.lockout)
    ∧ (s.chassis.eject = false →
        ∃ t, exec .ejectEvent s = .next t ∧ takeEnded (some .aborted) s t ∧ t.faults = s.faults ∧ t.chassis.eject = true
          ∧ t.notices.line.pending = true ∧ t.session.lockout = s.session.lockout)
    ∧ (s.chassis.takeEn = true →
        ∃ t, exec .takeEnFall s = .next t ∧ takeEnded (some .lockout) s t ∧ faultAdded .lockoutTrip s t
          ∧ t.session.lockout = true ∧ t.chassis.takeEn = false ∧ t.notices.line.pending = true)
    ∧ (s.link.bringup ≠ none →
        ∃ t, exec .bringupTimeout s = .next t ∧ takeEnded none s t ∧ faultAdded .bringupTimeout s t
          ∧ t.session.lockout = s.session.lockout)
    ∧ (∀ lane slot, s.link.state ≠ .off → slot ≠ s.chassis.slotId →
        ∃ t, exec (.trainReceived lane .take slot) s = .next t ∧ takeEnded none s t ∧ faultAdded .roleClash s t
          ∧ t.session.lockout = s.session.lockout)

/-- NOTIFY is asserted at a live part exactly while a notice is both pending and enabled, so a command that changes either evaluates it anew.
NOTICES sets the enable mask to its six bits. ACKNOWLEDGE with generation g clears each named notice's pending flag when g is 0 or the
notice's raise mark is g or one of the 2,147,483,647 generations before it, and leaves every other. REFRESH, in every state, does nothing
but raise DIRECTIVE and have a report requested, which, with the writer idle, starts and shows the part as it then stands (the bytes of
fields the guide gives no value for: log 47). -/
def Obligations.NoticesAndRefresh : Prop :=
  (∀ s : State, s.notify = true ↔
    s.live = true ∧ ∃ k : NoticeKind, (s.notices.get k).pending = true ∧ s.notices.enable.getLsbD k.bit = true)
  ∧ ∀ s : State, s.live = true →
    let named := noticeSet (s.directive.word 1)
    let g := ackGeneration (s.directive.word 1)
    (∃ t, exec (.notices s.directive.expected) s = .next t ∧ t.notices.enable = named ∧ t.directive.last.outcome = .done
        ∧ t.notices.directive = raised s.report.generation ∧ (∀ k, k ≠ .directive → t.notices.get k = s.notices.get k)
        ∧ t.report.writing = true ∧ t.session.state = s.session.state ∧ t.settings = s.settings)
    ∧ (∃ t, exec (.acknowledge s.directive.expected) s = .next t ∧ t.directive.last.outcome = .done
        ∧ t.notices.enable = s.notices.enable ∧ t.report.writing = true
        ∧ (∀ k : NoticeKind, 1 ≤ (s.notices.get k).mark → (s.notices.get k).mark ≤ 4294967295 →
            t.notices.get k =
              if named.getLsbD k.bit = true
                  ∧ (g = 0 ∨ ((g : Int) - (s.notices.get k).mark) % 4294967295 ≤ 2147483647) then
                { s.notices.get k with pending := false }
              else s.notices.get k)
        ∧ t.session.state = s.session.state ∧ t.settings = s.settings)
    ∧ (s.settled → ∃ t, exec (.refresh s.directive.expected) s = .next t ∧ t.directive.last.outcome = .done
        ∧ t.notices = s.notices.set .directive (raised s.report.generation) ∧ t.report.writing = true
        ∧ (s.report.writing = false →
            t.report.generation = nextGeneration s.report.generation ∧ t.report.nextWord = 0 ∧ reportShows t.report.snapshot t)
        ∧ (s.report.writing = true → t.report = { s.report with again := true })
        ∧ t.settings = s.settings ∧ t.regions = s.regions ∧ t.session = s.session ∧ t.link = s.link ∧ t.feed = s.feed
        ∧ t.take = s.take ∧ t.map = s.map ∧ t.walker = s.walker ∧ t.freeze = s.freeze ∧ t.review = s.review
        ∧ t.faults = s.faults ∧ t.chassis = s.chassis)

/-! ### The review, the freeze, the state frames -/

/-- The review's figures: seg_time is 65,535 where C is 0, else 1 where t is 0, else t / C rounded up and clamped to 1 to 65,535; drain is
D times seg_time; rate is 0 where t is 0, else 256 w / t rounded down and clamped to 65,535; predicted is rate times drain / 256 rounded
up; both products stop at 4,294,967,295; and the drain fits when it is at most 10 B ticks and predicted at most 3,584. -/
def Obligations.ReviewArithmetic : Prop :=
  ∀ s : State,
    let r := s.reviewRecord
    let t := s.review.t
    let c := s.review.c
    let w := s.review.w
    r.d = s.dirtyCount ∧ (c = 0 → r.segTime = 65535) ∧ (c ≠ 0 → t = 0 → r.segTime = 1)
      ∧ (c ≠ 0 → t ≠ 0 → ∀ k, 1 ≤ k → (k - 1) * c < t → t ≤ k * c → r.segTime = max 1 (min 65535 k))
      ∧ r.drain = min 4294967295 (r.d * r.segTime)
      ∧ (t = 0 → r.rate = 0) ∧ (t ≠ 0 → ∀ q, q * t ≤ w * 256 → w * 256 < (q + 1) * t → r.rate = min 65535 q)
      ∧ (∀ p, r.rate * r.drain ≤ p * 256 → (p = 0 ∨ (p - 1) * 256 < r.rate * r.drain) → r.predicted = min 4294967295 p)
      ∧ (fits r.drain (budgetOf s.settings.budget) r.predicted = true ↔ r.drain ≤ s.settings.budget * 10 ∧ r.predicted ≤ 3584)

/-- PASS_END with the cursor at END, both buffers FREE, and queue and window empty: the review runs on the figures as they stand, the first
case that applies decides, and the decision is acted on: STEADY with INSTEP queued, or HANDOVER behind it when a handover is pending;
FREEZE with its timer from 0; the session's end with CONVERGE_FAIL; or the next pass in CATCHUP, the throttle one higher under its
conditions. That the CLOSE of the end leaves in its event is how the model reads R75 (log 7); that INSTEP needs an empty overlay and STALE as
the last step is R149 read into R120 (log 40). -/
def Obligations.PassEndRunsTheReview : Prop :=
  ∀ s : State, s.live = true → s.inFeed = true → (s.session.state = .sweep ∨ s.session.state = .catchup) →
    s.walker.cursor = none → s.walker.buf0 = none → s.walker.buf1 = none → s.feed.queue = [] → s.feed.window = [] →
    let r := s.reviewRecord
    r.decision = (if s.dirtyCount = 0 ∧ s.unsentCount = 0 ∧ s.openCount = 0 then .steady
        else if fits r.drain (budgetOf s.settings.budget) r.predicted then .fit
        else if s.session.handoverPending then .forcedHandover
        else if s.settings.passLimit ≤ s.review.passNumber then
          (if s.settings.policy = .force then .forcedLimit else .abandon)
        else .nextPass)
    ∧ ∃ t, exec .passEnd s = .next t ∧ t.review.record = r ∧ t.review.dPrev = some s.dirtyCount ∧ t.notices.review.pending = true
      ∧ t.report.writing = true
      ∧ (r.decision = .steady →
          t.session.state = (if s.session.handoverPending then .handover else .steady) ∧ t.session.handoverPending = false
            ∧ t.review.throttle = 0 ∧ t.walker.cursor = some 0 ∧ t.map = s.map
            ∧ (s.freeze.entries = [] → s.lastStep = .stale → s.feed.instepWaiting = false → t.feed.queue = [.instep]))
      ∧ (r.decision = .fit ∨ r.decision = .forcedHandover ∨ r.decision = .forcedLimit →
          t.session.state = .freeze ∧ t.freeze.timer = some 0 ∧ t.walker.cursor = some 0 ∧ t.map = s.map
            ∧ t.review.throttle = s.review.throttle ∧ t.session.handoverPending = s.session.handoverPending)
      ∧ (r.decision = .abandon → feedEnded (some .faulted) s t ∧ faultAdded .convergeFail s t)
      ∧ (r.decision = .nextPass →
          t.session.state = .catchup ∧ t.review.passNumber = min 255 (s.review.passNumber + 1) ∧ t.review.t = 0 ∧ t.review.c = 0
            ∧ t.walker.cursor = some 0 ∧ t.map = s.map
            ∧ t.review.throttle = (if s.settings.throttleOn = true ∧ (∃ p, s.review.dPrev = some p ∧ p ≤ s.dirtyCount)
                  ∧ s.review.throttle < 3 then s.review.throttle + 1 else s.review.throttle))

/-- FREEZE ends in two ways. DRAIN_COMPLETE, with no segment DIRTY or OPEN and queue and window empty: REPLAY with the freeze timer
stopped, or, the overlay being empty, STEADY with the throttle at 0, and HANDOVER when one is pending. FREEZE_ABANDON: CATCHUP and a new
pass, the timer stopped, every entry FLUSHING, each entry's segment DIRTY, the buffers of such segments dropped, the throttle one higher
where it may be, FREEZE_OVERRUN recorded, queue and window kept. -/
def Obligations.FreezeEndsInReplayOrCatchup : Prop :=
  ∀ s : State, s.live = true → s.inFeed = true → s.session.state = .freeze →
    (s.dirtyCount = 0 → s.openCount = 0 → s.feed.queue = [] → s.feed.window = [] →
      ∃ t, exec .drainComplete s = .next t ∧ t.map = s.map ∧ t.faults = s.faults ∧ t.review.passNumber = s.review.passNumber
        ∧ (s.freeze.entries ≠ [] → (∀ w, s.path.maint ≠ .held w) →
            t.session.state = .replay ∧ t.freeze = { entries := s.freeze.entries, timer := none } ∧ t.walker = s.walker
              ∧ t.review.throttle = s.review.throttle)
        ∧ (s.freeze.entries = [] → s.session.handoverPending = false →
            t.session.state = .steady ∧ t.freeze.timer = none ∧ t.review.throttle = 0 ∧ t.walker.cursor = some 0)
        ∧ (s.freeze.entries = [] → s.session.handoverPending = true →
            t.session.state = .handover ∧ t.session.handoverPending = false ∧ t.freeze.timer = some 0 ∧ t.review.throttle = 0))
    ∧ (s.freeze.timer ≠ none →
      ∃ t, exec .freezeAbandon s = .next t ∧ t.session.state = .catchup ∧ faultAdded .freezeOverrun s t
        ∧ t.freeze = { entries := s.freeze.entries.map fun e => { e with flushing := true }, timer := none }
        ∧ t.review.passNumber = min 255 (s.review.passNumber + 1) ∧ t.review.t = 0 ∧ t.review.c = 0
        ∧ t.review.dPrev = s.review.dPrev ∧ t.review.record = s.review.record ∧ t.walker.cursor = some 0
        ∧ t.review.throttle = (if s.settings.throttleOn = true ∧ s.review.throttle < 3 then s.review.throttle + 1
            else s.review.throttle)
        ∧ (∀ n, t.map.get n =
            if (∃ e ∈ s.freeze.entries, segmentOf e.addr = n)
                ∧ (s.map.get n = .clean ∨ s.map.get n = .inflight ∨ s.map.get n = .opened) then .dirty else s.map.get n)
        ∧ (∀ b, t.walker.buf0 = some b ↔
            s.walker.buf0 = some b ∧ ∀ e ∈ s.freeze.entries, segmentOf e.addr ≠ b.segment)
        ∧ (∀ b, t.walker.buf1 = some b ↔
            s.walker.buf1 = some b ∧ ∀ e ∈ s.freeze.entries, segmentOf e.addr ≠ b.segment)
        ∧ t.feed.queue = s.feed.queue ∧ t.feed.window = s.feed.window)

/-- A state frame that waits joins the end of the queue when it has a place: INSTEP_QUEUED, STALE_QUEUED behind no waiting INSTEP, and
HANDOVER_DRAIN_COMPLETE in HANDOVER with no segment DIRTY or OPEN, queue, window and overlay empty and no state frame waiting. What waits is
then waiting no more. The steps at which a waiting offer is taken, and STALE's place behind a waiting INSTEP, are the model's choice (logs
6, 42). -/
def Obligations.StateFramesAreQueued : Prop :=
  ∀ s : State, s.live = true → s.inFeed = true → s.feed.queue.length < Config.queuePlaces →
    (s.feed.instepWaiting = true → ∃ t, exec .instepQueued s = .next t ∧ t.feed.queue = s.feed.queue ++ [.instep]
        ∧ t.feed.instepWaiting = false ∧ t.feed.window = s.feed.window ∧ t.map = s.map ∧ t.session = s.session ∧ t.link = s.link)
    ∧ (s.session.stalePending = true → s.feed.instepWaiting = false →
        ∃ t, exec .staleQueued s = .next t ∧ (s.feed.queue ++ [.stale]) <+: t.feed.queue
          ∧ (s.dirtyCount ≠ 0 → t.feed.queue = s.feed.queue ++ [.stale])
          ∧ t.session = { s.session with stalePending := false } ∧ t.feed.window = s.feed.window ∧ t.map = s.map ∧ t.link = s.link)
    ∧ (s.session.state = .handover → s.dirtyCount = 0 → s.openCount = 0 → s.feed.queue = [] → s.feed.window = [] →
        s.freeze.entries = [] → s.feed.instepWaiting = false → s.session.stalePending = false →
        ∃ t, exec .handoverDrainComplete s = .next t ∧ t.feed.queue = [.handover] ∧ t.feed.window = [] ∧ t.map = s.map
          ∧ t.session = s.session ∧ t.link = s.link)

/-! ### What is sent, and when -/

/-- TRANSMIT_FRAME sends the first frame that is ready in the order of preference of the part's role, and nothing, with nothing else changed,
where none is ready. The frame a feed sends from the head of its queue takes the next number and goes to the end of the window; the sent total
and the next number rise by 1; a SEG frame sent during a pass counts in C; an INSTEP or STALE raises STEP. A CLOSE, which goes before all, is
never found waiting, since it leaves in the event of its session's end (log 7); one TRAIN stands for those of the four lanes (log 36). -/
def Obligations.TransmitterSendsTheFirstReady : Prop :=
  ∀ s : State, s.live = true → s.settled →
    let up := s.link.state = .up
    let train := (s.link.state = .training ∨ (up ∧ s.link.confirmed = false)) ∧ s.chassis.peerFiltered = true ∧ s.link.trainDue = true
    let noRewound := up → s.feed.rewound = none
    let layout := s.link.layoutDue = true ∧ s.session.state = .install
    let rewind := s.link.rewindDue = true ∧ s.take.rx = .discard
    ∃ t, exec .transmitFrame s = .next t ∧ t.out.mem = [] ∧ t.out.engine = []
      ∧ (t.out.link ≠ [] → t.link.idle = 0 ∧ t.link.keepAliveDue = false)
      ∧ (s.inFeed = true →
          (∀ e, up → s.feed.rewound = some e → t.out.link = [.rewound e] ∧ t.feed = { s.feed with rewound := none })
          ∧ (noRewound → train → t.out.link = [.train .feed s.chassis.slotId] ∧ t.link.trainDue = false)
          ∧ (noRewound → ¬ train → up → s.link.greetDue = true →
              t.out.link = [.greet (if s.session.state = .suspended then s.session.resumeKind else .fresh) s.session.id s.chassis.msize
                s.chassis.slotId] ∧ t.link.greetDue = false)
          ∧ (noRewound → ¬ train → up → s.link.greetDue = false → layout →
              t.out.link = [.layout s.regions] ∧ t.link.layoutDue = false)
          ∧ (∀ f rest, noRewound → ¬ train → up → s.link.greetDue = false → ¬ layout → s.link.numbering = true →
              (s.feed.sentTotal - s.feed.freedTotal).toNat < 8 → s.feed.queue = f :: rest →
              t.out.link = [.sequenced s.feed.nextNumber f] ∧ t.feed.queue = rest
                ∧ t.feed.window = s.feed.window ++ [(s.feed.nextNumber, f)] ∧ t.feed.nextNumber = s.feed.nextNumber + 1
                ∧ t.feed.sentTotal = s.feed.sentTotal + 1 ∧ t.feed.freedTotal = s.feed.freedTotal
                ∧ (∀ n ws, f = .seg n ws → s.passRunning = true → t.review.c = min 262144 (s.review.c + 1))
                ∧ (s.passRunning = false ∨ (∀ n ws, f ≠ .seg n ws) → t.review.c = s.review.c)
                ∧ (f = .instep ∨ f = .stale → t.notices.step.pending = true))
          ∧ (noRewound → ¬ train → up → s.link.greetDue = false → ¬ layout →
              (s.link.numbering = false ∨ 8 ≤ (s.feed.sentTotal - s.feed.freedTotal).toNat ∨ s.feed.queue = []) →
              s.link.confirmed = true → s.link.keepAliveDue = true → t.out.link = [.pulse] ∧ t.feed = s.feed)
          ∧ (noRewound → ¬ train → (up → s.link.greetDue = false ∧ ¬ layout
                ∧ (s.link.numbering = false ∨ 8 ≤ (s.feed.sentTotal - s.feed.freedTotal).toNat ∨ s.feed.queue = [])
                ∧ (s.link.confirmed = false ∨ s.link.keepAliveDue = false)) →
              t = { s with out := .none }))
      ∧ (s.inTake = true →
          (up → rewind → t.out.link = [.rewind s.take.expected] ∧ t.link.rewindDue = false)
          ∧ (¬ (up ∧ rewind) → train → t.out.link = [.train .take s.chassis.slotId] ∧ t.link.trainDue = false)
          ∧ (∀ e rest, ¬ rewind → ¬ train → up → s.link.echoDue = e :: rest →
              t.out.link = [.greetEcho e] ∧ t.link.echoDue = rest ∧ t.link.readyDue = s.link.readyDue)
          ∧ (¬ rewind → ¬ train → up → s.link.echoDue = [] → s.link.readyDue ≠ 0 →
              t.out.link = [.ready] ∧ t.link.readyDue = s.link.readyDue - 1)
          ∧ (¬ rewind → ¬ train → up → s.link.echoDue = [] → s.link.readyDue = 0 →
              s.link.confirmed = true → (s.link.ackDue = true ∨ s.link.keepAliveDue = true) →
              t.out.link = [.ack s.take.ackSeq s.take.freed (BitVec.ofNat 16 s.take.failTotal) s.session.state]
                ∧ t.link.ackDue = false)
          ∧ (¬ train → (up → ¬ rewind ∧ s.link.echoDue = [] ∧ s.link.readyDue = 0
                ∧ (s.link.confirmed = false ∨ (s.link.ackDue = false ∧ s.link.keepAliveDue = false))) →
              t = { s with out := .none })
          ∧ t.take = s.take)
      ∧ (s.inFeed = false → s.inTake = false → t = { s with out := .none })
      ∧ t.session = s.session ∧ t.map = s.map ∧ t.walker = s.walker ∧ t.freeze = s.freeze ∧ t.faults = s.faults
      ∧ t.regions = s.regions ∧ t.settings = s.settings ∧ t.directive = s.directive ∧ t.chassis = s.chassis

/-- The expiry of the TRAIN, GREET, LAYOUT and REWIND intervals makes the frame due and starts the interval anew; a TRAIN is due only while
the filtered PEER_PRESENT level is high. That the command carries the clock to the expiry (log 1), and that with the level low it takes away a
TRAIN that was due (log 50), is the model's choice. -/
def Obligations.IntervalsMakeFramesDue : Prop :=
  ∀ (c : Instr) (s : State), s.live = true →
    (c = .trainDue ∧ (s.link.state = .training ∨ (s.link.state = .up ∧ s.link.confirmed = false)))
      ∨ (c = .greetRepeatDue ∧ s.inFeed = true ∧ s.link.state = .up ∧ s.link.greeting = true)
      ∨ (c = .layoutRepeatDue ∧ s.inFeed = true ∧ s.link.state = .up ∧ s.session.state = .install)
      ∨ (c = .rewindRepeatDue ∧ s.inTake = true ∧ s.link.state = .up ∧ s.take.rx = .discard) →
    ∃ t, exec c s = .next t
      ∧ (c = .trainDue → t.link.trainDue = s.chassis.peerFiltered ∧ t.link.trainTimer = 0
            ∧ t.chassis.tick = s.chassis.tick + (100 - s.link.trainTimer))
      ∧ (c = .greetRepeatDue → t.link.greetDue = true ∧ t.link.greetTimer = 0
            ∧ t.chassis.tick = s.chassis.tick + (1000 - s.link.greetTimer))
      ∧ (c = .layoutRepeatDue → t.link.layoutDue = true ∧ t.link.layoutTimer = 0
            ∧ t.chassis.tick = s.chassis.tick + (1000 - s.link.layoutTimer))
      ∧ (c = .rewindRepeatDue → t.link.rewindDue = true ∧ t.link.rewindTimer = 0
            ∧ t.chassis.tick = s.chassis.tick + (1000 - s.link.rewindTimer))
      ∧ t.link.state = s.link.state ∧ t.link.confirmed = s.link.confirmed ∧ t.link.lanes = s.link.lanes
      ∧ t.session.state = s.session.state ∧ t.take = s.take ∧ t.map = s.map ∧ t.walker = s.walker ∧ t.feed.window = s.feed.window
      ∧ t.faults = s.faults ∧ t.notices = s.notices ∧ t.regions = s.regions ∧ t.settings = s.settings
      ∧ t.directive = s.directive ∧ t.out = Out.none

/-- The keep-alive of a confirmed link: 10 us without a frame sent make a PULSE due at the feed and an ACK at the take; a PULSE that arrives
at a take restarts its silence timer, confirms the link, and does nothing else; at a feed it is discarded and counted. That the due commands
carry the clock, and that a discarded PULSE restarts no timer, is the model's choice (logs 1, 12). -/
def Obligations.KeepAlives : Prop :=
  ∀ s : State, s.live = true → s.link.state = .up →
    (∀ c, (c = .pulseDue ∧ s.inFeed = true) ∨ (c = .keepaliveAckDue ∧ s.inTake = true) → s.link.confirmed = true →
      ∃ t, exec c s = .next t ∧ t.link.keepAliveDue = true ∧ t.chassis.tick = s.chassis.tick + (100 - s.link.idle)
        ∧ t.link.state = .up ∧ t.link.confirmed = true ∧ t.session.state = s.session.state ∧ t.take = s.take ∧ t.map = s.map
        ∧ t.feed.window = s.feed.window ∧ t.faults = s.faults ∧ t.notices = s.notices ∧ t.out = Out.none)
    ∧ (s.inTake = true → s.settled →
        exec .pulseReceived s = .next { s with link := { s.link with silence := 0, confirmed := true }, out := .none })
    ∧ (s.inFeed = true → s.settled →
        exec .pulseReceived s = .next { s with link := { s.link with discarded := min 65535 (s.link.discarded + 1) }, out := .none })

/-! ### The loss of the link -/

/-- A feed loses its UP link by silence or by the fall of the filtered PEER_PRESENT level: the link is in TRAINING, every frame of window
and queue is withdrawn, buffers are dropped, every overlay entry is FLUSHING, each segment that a frame, record, buffer or entry stood for
is DIRTY, and the session is SUSPENDED, but in BRINGUP, with its resume kind, its hold timer and a handover still pending. That the
first TRAIN is due also while the filtered PEER_PRESENT level is low is the model's choice (log 50). -/
def Obligations.LinkLossAtTheFeed : Prop :=
  ∀ (c : Instr) (s : State), s.live = true → s.inFeed = true → s.link.state = .up → feedState s.session.state = true →
    c = .silenceTimeout ∨ (c = .peerPresentFiltered ∧ s.chassis.peerRaw = false ∧ s.chassis.peerFiltered = true) →
    let frames := s.feed.window.map Prod.snd ++ s.feed.queue
    let entry := fun n => ∃ e ∈ s.freeze.entries, segmentOf e.addr = n
    let inBuf := fun n => (∃ b, s.walker.buf0 = some b ∧ b.segment = n) ∨ (∃ b, s.walker.buf1 = some b ∧ b.segment = n)
    ∃ t, exec c s = .next t ∧ t.link.state = .training ∧ t.link.confirmed = false ∧ t.link.lanes = 0 ∧ t.link.numbering = false
      ∧ t.link.silence = 0 ∧ t.link.trainDue = true
      ∧ t.feed.queue = [] ∧ t.feed.window = [] ∧ t.feed.rewound = none ∧ t.feed.sentTotal = 0 ∧ t.feed.freedTotal = 0
      ∧ t.feed.instepWaiting = false ∧ t.walker.buf0 = none ∧ t.walker.buf1 = none
      ∧ t.freeze.entries = s.freeze.entries.map (fun e => { e with flushing := true })
      ∧ (∀ n, (s.map.get n = .inflight ∧ (hasSeg frames n = true ∨ hasRecord frames n = true ∨ entry n))
            ∨ (s.map.get n = .clean ∧ (hasRecord frames n = true ∨ entry n)) ∨ (s.map.get n = .opened ∧ (inBuf n ∨ entry n)) →
          t.map.get n = .dirty)
      ∧ (∀ n, ¬ ((s.map.get n = .inflight ∧ (hasSeg frames n = true ∨ hasRecord frames n = true ∨ entry n))
            ∨ (s.map.get n = .clean ∧ (hasRecord frames n = true ∨ entry n)) ∨ (s.map.get n = .opened ∧ (inBuf n ∨ entry n))) →
          t.map.get n = s.map.get n)
      ∧ (s.session.state = .bringup → t.session.state = .bringup)
      ∧ (s.session.state ≠ .bringup → t.session.state = .suspended)
      ∧ (s.session.state ≠ .bringup → s.session.state ≠ .suspended →
          t.session.hold = some 0 ∧ t.session.stalePending = false ∧ t.session.retiredStep = .stale ∧ t.freeze.timer = none
            ∧ t.session.resumeKind = (if s.session.state = .install then .fresh else .resume))
      ∧ (t.session.handoverPending = true ↔ s.session.handoverPending = true ∨ s.session.state = .handover)
      ∧ t.faults = s.faults ∧ t.regions = s.regions ∧ t.review.throttle = s.review.throttle
      ∧ (c = .peerPresentFiltered → t.chassis.peerFiltered = false ∧ t.notices.line.pending = true)

/-- A take loses its UP link by silence or by the fall of the filtered PEER_PRESENT level: the link is in TRAINING, numbering inactive, and
BRINGUP awaiting LAYOUT, INSTALL, RECEIVING and SYNCED become HELD with the hold timer from 0 and the work dropped, FINAL stays with its
buffer discarded, and every other state stays. The hold limit in HELD makes it DETACHED with LINK_LOST. A CLOSE from the feed makes every
state but FINAL DETACHED, and the link TRAINING. -/
def Obligations.TakeIsHeldOrDetached : Prop :=
  ∀ s : State, s.live = true → s.inTake = true → takeState s.session.state = true →
    (∀ c : Instr, s.link.state = .up →
      c = .silenceTimeout ∨ (c = .peerPresentFiltered ∧ s.chassis.peerRaw = false ∧ s.chassis.peerFiltered = true) →
      ∃ t, exec c s = .next t ∧ t.link.state = .training ∧ t.link.confirmed = false ∧ t.link.lanes = 0
        ∧ t.link.numbering = false ∧ t.take.rx = .inactive ∧ t.take.expected = 0
        ∧ (c = .peerPresentFiltered → t.chassis.peerFiltered = false ∧ t.notices.line.pending = true)
        ∧ (c = .silenceTimeout → t.chassis.peerFiltered = s.chassis.peerFiltered)
        ∧ ((s.session.state = .bringup ∧ s.take.awaitingLayout = true) ∨ s.session.state = .install ∨ s.session.state = .receiving
              ∨ s.session.state = .synced →
            t.session.state = .held ∧ t.session.hold = some 0 ∧ t.session.greeted = none ∧ t.take.buffer = [] ∧ t.take.apply = none
              ∧ t.take.fill = none)
        ∧ (s.session.state = .final → t.session.state = .final ∧ t.take.buffer = [])
        ∧ ((s.session.state = .bringup ∧ s.take.awaitingLayout = false) ∨ s.session.state = .held ∨ s.session.state = .detached →
            t.session.state = s.session.state)
        ∧ t.take.ackSeq = s.take.ackSeq ∧ t.take.freed = s.take.freed ∧ t.take.failTotal = s.take.failTotal
        ∧ t.regions = s.regions ∧ t.faults = s.faults ∧ t.session.layoutInstalled = s.session.layoutInstalled)
    ∧ (s.session.state = .held → s.session.hold ≠ none →
      ∃ t, exec .takeHoldTimeout s = .next t ∧ t.session.state = .detached ∧ t.session.hold = none ∧ t.session.greeted = none
        ∧ faultAdded .linkLost s t ∧ t.link.bringup = none ∧ t.link.state = s.link.state ∧ t.regions = s.regions)
    ∧ (∀ r, r = .complete ∨ r = .incomplete ∨ r = .released ∨ r = .aborted ∨ r = .faulted → s.link.state = .up →
      ∃ t, exec (.closeReceived r) s = .next t ∧ t.link.state = .training ∧ t.link.numbering = false ∧ t.take.rx = .inactive
        ∧ (s.session.state = .final ∨ s.session.state = .detached →
            t.session.state = s.session.state ∧ t.faults = s.faults)
        ∧ (s.session.state ≠ .final → s.session.state ≠ .detached →
            t.session.state = .detached ∧ t.session.hold = none ∧ t.session.greeted = none ∧ t.link.bringup = none
              ∧ t.take.buffer = [] ∧ t.take.apply = none ∧ t.take.fill = none
              ∧ (r = .complete ∨ r = .released → t.faults = s.faults)
              ∧ (r ≠ .complete → r ≠ .released → faultAdded .closedByPeer s t))
        ∧ t.regions = s.regions ∧ t.session.id = s.session.id ∧ t.take.failTotal = s.take.failTotal)

/-! ### What arrives -/

/-- A TRAIN of the opposite role from the other slot. In TRAINING the link becomes UP once lane 0 has carried one, with the largest of 4, 2
or 1 lanes that all have, but stays in TRAINING while the filtered PEER_PRESENT level is low; on an unconfirmed UP link the silence timer
restarts and nothing else happens; on a confirmed one the link is lost and the TRAIN trains it anew. A TRAIN with the part's own slot id is
discarded and counted. That a discarded TRAIN restarts no silence timer is the model's choice (log 12). -/
def Obligations.TrainTrainsTheLink : Prop :=
  ∀ (lane : BitVec 2) (role : LinkRole) (s : State), s.live = true → s.settled →
    (s.inFeed = true ∧ role = .take) ∨ (s.inTake = true ∧ role = .feed) →
    let slot := ~~~ s.chassis.slotId
    let seen := s.link.seen ||| (1#4 <<< lane.toNat)
    (s.link.state = .training →
      ∃ t, exec (.trainReceived lane role slot) s = .next t ∧ t.link.seen = seen ∧ t.session = s.session ∧ t.take = s.take
        ∧ t.feed = s.feed ∧ t.map = s.map ∧ t.faults = s.faults ∧ t.link.numbering = s.link.numbering
        ∧ (seen.getLsbD 0 = false ∨ s.chassis.peerFiltered = false → t.link = { s.link with seen := seen })
        ∧ (seen.getLsbD 0 = true → s.chassis.peerFiltered = true → t.link.state = .up ∧ t.link.confirmed = false ∧ t.link.silence = 0
            ∧ t.link.lanes = (if seen.getLsbD 1 && seen.getLsbD 2 && seen.getLsbD 3 then 4 else if seen.getLsbD 1 then 2 else 1)
            ∧ (s.inFeed = true → s.session.state = .bringup ∨ s.session.state = .suspended →
                t.link.greeting = true ∧ t.link.greetDue = true)))
    ∧ (s.link.state = .up → s.link.confirmed = false →
        exec (.trainReceived lane role slot) s = .next { s with link := { s.link with silence := 0 }, out := .none })
    ∧ (s.link.state = .up → s.link.confirmed = true →
      ∃ t, exec (.trainReceived lane role slot) s = .next t ∧ t.link.confirmed = false ∧ t.link.numbering = false
        ∧ (lane = 0 → s.chassis.peerFiltered = true → t.link.state = .up ∧ t.link.lanes = 1)
        ∧ (lane ≠ 0 ∨ s.chassis.peerFiltered = false → t.link.state = .training ∧ t.link.lanes = 0)
        ∧ (s.inFeed = true → t.feed.queue = [] ∧ t.feed.window = []) ∧ (s.inTake = true → t.take.rx = .inactive))
    ∧ (s.link.state ≠ .off → s.link.numbering = false →
        exec (.trainReceived lane role s.chassis.slotId) s =
          .next { s with link := { s.link with discarded := min 65535 (s.link.discarded + 1) }, out := .none })

/-- A GREET from the other slot at a take whose link is UP is answered: its echo is due behind those due already. One that is the last
answered again gets the verdict again and changes nothing else. Any other is judged by the take's state, the answer is recorded, and the
bring-up timer stops: NEW makes the GREET's session and size class the take's, in BRINGUP awaiting LAYOUT; RESUMED starts numbering in
RECEIVING; REFUSED leaves the state. -/
def Obligations.GreetIsAnswered : Prop :=
  ∀ (kind : GreetKind) (id : BitVec 16) (size : BitVec 2) (s : State), s.live = true → s.inTake = true → s.link.state = .up →
    let c : Instr := .greetReceived kind id size (~~~ s.chassis.slotId)
    let v : Verdict × Reason :=
      if kind = .fresh ∧ (s.session.state = .bringup ∨ s.session.state = .held ∨ s.session.state = .detached) then (.new, .none)
      else if kind = .resume ∧ s.session.state = .held ∧ id = s.session.id then
        (if size = s.session.sizeClass then (.resumed, .none) else (.refused, .mismatch))
      else (.refused, .noSession)
    (∀ g, s.session.greeted = some g → g.session = id → g.kind = kind → g.size = size → s.settled →
        exec c s = .next { s with
          link := { s.link with silence := 0, confirmed := true,
                                echoDue := s.link.echoDue ++ [{ session := id, verdict := g.verdict, reason := g.reason }] }
          out := .none })
    ∧ ((∀ g, s.session.greeted = some g → ¬ (g.session = id ∧ g.kind = kind ∧ g.size = size)) →
        ∃ t, exec c s = .next t ∧ t.link.echoDue = s.link.echoDue ++ [{ session := id, verdict := v.1, reason := v.2 }]
          ∧ t.session.greeted = some { session := id, kind := kind, size := size, verdict := v.1, reason := v.2 }
          ∧ t.link.bringup = none ∧ t.link.silence = 0 ∧ t.link.confirmed = true
          ∧ (v.1 = .new → t.session.state = .bringup ∧ t.session.id = id ∧ t.session.sizeClass = size ∧ t.session.hold = none
              ∧ t.take.awaitingLayout = true ∧ t.link.numbering = s.link.numbering)
          ∧ (v.1 = .resumed → t.session.state = .receiving ∧ t.session.id = s.session.id ∧ t.session.hold = none
              ∧ t.link.numbering = true ∧ t.take.rx = .inOrder ∧ t.take.expected = 0 ∧ t.take.freed = 0 ∧ t.take.ackSeq = none
              ∧ t.take.buffer = [])
          ∧ (v.1 = .refused → t.session.state = s.session.state ∧ t.session.id = s.session.id ∧ t.take = s.take
              ∧ t.session.hold = s.session.hold)
          ∧ t.regions = s.regions ∧ t.session.layoutInstalled = s.session.layoutInstalled ∧ t.faults = s.faults
          ∧ t.take.failTotal = s.take.failTotal)

/-- The answers to a feed whose link is UP. An echo with another session id is discarded and counted; the first with its own stops the
GREETs: NEW leads to INSTALL with LAYOUT due, RESUMED to CATCHUP, pass 1, with numbering started and every UNSENT segment DIRTY, REFUSED
ends the session. READY in INSTALL starts numbering and SWEEP, pass 1; in any other state it only restarts the silence timer. That a
discarded echo restarts no silence timer is the model's choice (log 12). -/
def Obligations.EchoAndReadyAtTheFeed : Prop :=
  ∀ s : State, s.live = true → s.inFeed = true → s.link.state = .up →
    (∀ id v r, id ≠ s.session.id → s.settled →
        exec (.greetEchoReceived id v r) s =
          .next { s with link := { s.link with discarded := min 65535 (s.link.discarded + 1) }, out := .none })
    ∧ (∀ r, s.link.greeting = true →
        s.session.state = .bringup ∨ (s.session.state = .suspended ∧ s.session.resumeKind = .fresh) →
        ∃ t, exec (.greetEchoReceived s.session.id .new r) s = .next t ∧ t.session.state = .install ∧ t.link.layoutDue = true
          ∧ t.link.greeting = false ∧ t.link.greetDue = false ∧ t.link.bringup = none ∧ t.session.hold = none
          ∧ t.link.silence = 0 ∧ t.link.confirmed = true ∧ t.map = s.map ∧ t.regions = s.regions ∧ t.faults = s.faults)
    ∧ (∀ r, s.link.greeting = true → s.session.state = .suspended → s.session.resumeKind = .resume →
        ∃ t, exec (.greetEchoReceived s.session.id .resumed r) s = .next t ∧ t.session.state = .catchup
          ∧ t.review.passNumber = 1 ∧ t.review.dPrev = none ∧ t.walker.cursor = some 0 ∧ t.session.hold = none
          ∧ t.link.greeting = false ∧ t.link.bringup = none ∧ t.link.numbering = true ∧ t.feed.nextNumber = 0
          ∧ t.feed.window = [] ∧ t.feed.sentTotal = 0 ∧ t.feed.freedTotal = 0 ∧ t.feed.rewound = none
          ∧ (∀ n, t.map.get n = if s.map.get n = .unsent then .dirty else s.map.get n)
          ∧ t.session.handoverPending = s.session.handoverPending ∧ t.regions = s.regions ∧ t.faults = s.faults)
    ∧ (∀ r, s.link.greeting = true → s.session.state = .bringup ∨ s.session.state = .suspended →
        ∃ t, exec (.greetEchoReceived s.session.id .refused r) s = .next t ∧ feedEnded none s t ∧ faultAdded .refusedByPeer s t)
    ∧ (∀ v r, s.link.greeting = false → s.settled →
        exec (.greetEchoReceived s.session.id v r) s =
          .next { s with link := { s.link with silence := 0, confirmed := true }, out := .none })
    ∧ (s.session.state = .install →
        ∃ t, exec .readyReceived s = .next t ∧ t.session.state = .sweep ∧ t.review.passNumber = 1 ∧ t.review.t = 0
          ∧ t.review.c = 0 ∧ t.walker.cursor = some 0 ∧ t.link.numbering = true ∧ t.feed.nextNumber = 0 ∧ t.feed.window = []
          ∧ t.feed.sentTotal = 0 ∧ t.feed.freedTotal = 0 ∧ t.feed.rewound = none ∧ t.map = s.map ∧ t.regions = s.regions
          ∧ t.link.silence = 0 ∧ t.link.confirmed = true ∧ t.faults = s.faults)
    ∧ (s.session.state ≠ .install → s.settled →
        exec .readyReceived s = .next { s with link := { s.link with silence := 0, confirmed := true }, out := .none })

/-- A LAYOUT at a take whose link is UP. One awaited that fits, the overlay being empty, is installed entry by entry, blocking comes into
force, and the fills start, or, with no FILL segment, are finished at once: READY is due, numbering starts, RECEIVING. One that misfits ends
the session with LAYOUT_MISFIT and CLOSE(MISFIT). One identical to the table in all five fields of all 16 entries is heard in INSTALL, and
makes a further READY due in RECEIVING and SYNCED. Any other is discarded: an awaited one while the overlay holds an entry, a differing one in
INSTALL, RECEIVING and SYNCED, and every one in BRINGUP before a NEW, in FINAL, HELD and DETACHED. The model's readings: the CLOSE leaves in
the event of the end (log 7), which ends the receive numbering (log 43); a discarded LAYOUT restarts no silence timer and takes IN_ORDER to
DISCARD (logs 12, 13); an identical one in FINAL, HELD and DETACHED is discarded too (log 14); the fit is judged with the length's 24 bits
(log 26); identity is judged against the table, whose empty entries hold zeros (log 48); a misfit that comes while the overlay holds an entry
is discarded, not judged (log 49). -/
def Obligations.LayoutAtTheTake : Prop :=
  ∀ (es : Vector LayoutEntry 16) (s : State), s.live = true → s.inTake = true → s.link.state = .up →
    let fits := ∀ i : Fin 16, es[i].length ≠ 0 →
      es[i].base.toNat + es[i].length.toNat - 1 ≤ segmentsOf s.chassis.msize - 17 ∧ es[i].cls.toNat ≤ 3
        ∧ ∀ j : Fin 16, j ≠ i → es[j].length ≠ 0 →
            es[j].base.toNat + es[j].length.toNat ≤ es[i].base.toNat ∨ es[i].base.toNat + es[i].length.toNat ≤ es[j].base.toNat
    let identical := s.session.layoutInstalled = true ∧ ∀ i : Fin 16, es[i].base = s.regions[i].base
      ∧ es[i].length.toNat = s.regions[i].length.toNat
      ∧ es[i].cls = codeOfClass s.regions[i].cls ∧ es[i].order = s.regions[i].order ∧ es[i].fill = s.regions[i].fill
    let awaited := s.session.state = .bringup ∧ s.take.awaitingLayout = true
    let heard := { s.link with silence := 0, confirmed := true }
    (awaited → s.freeze.entries = [] → fits →
      ∃ t, exec (.layoutReceived es) s = .next t ∧ t.session.layoutInstalled = true ∧ t.take.awaitingLayout = false
        ∧ (∀ i : Fin 16, es[i].length = 0 → t.regions[i] = Region.empty)
        ∧ (∀ i : Fin 16, es[i].length ≠ 0 →
            t.regions[i].base = es[i].base ∧ t.regions[i].length.toNat = es[i].length.toNat
              ∧ codeOfClass t.regions[i].cls = es[i].cls ∧ t.regions[i].order = es[i].order ∧ t.regions[i].fill = es[i].fill)
        ∧ (fillOrder t.regions = [] →
            t.session.state = .receiving ∧ t.link.readyDue = s.link.readyDue + 1 ∧ t.link.numbering = true ∧ t.take.rx = .inOrder
              ∧ t.take.expected = 0 ∧ t.take.ackSeq = none ∧ t.take.freed = 0)
        ∧ (∀ n rest, fillOrder t.regions = n :: rest →
            t.session.state = .install ∧ ∃ f, t.take.fill = some f ∧ f.segment = n ∧ f.place = 0 ∧ f.job.limit = s.settings.retry
              ∧ f.job.writes = segmentItems n (fun _ => fillWordOf t.regions n) ∧ f.job.reads = f.job.writes)
        ∧ t.link.silence = 0 ∧ t.link.confirmed = true ∧ t.session.id = s.session.id ∧ t.faults = s.faults ∧ t.freeze = s.freeze)
    ∧ (awaited → s.freeze.entries = [] → ¬ fits →
      ∃ t, exec (.layoutReceived es) s = .next t ∧ takeEnded (some .misfit) s t ∧ faultAdded .layoutMisfit s t)
    ∧ (s.session.state = .install → identical → s.settled →
        exec (.layoutReceived es) s = .next { s with link := heard, out := .none })
    ∧ (s.session.state = .receiving ∨ s.session.state = .synced → identical → s.settled →
        exec (.layoutReceived es) s = .next { s with link := { heard with readyDue := s.link.readyDue + 1 }, out := .none })
    ∧ ((awaited ∧ s.freeze.entries ≠ [])
          ∨ ((s.session.state = .install ∨ s.session.state = .receiving ∨ s.session.state = .synced) ∧ ¬ identical)
          ∨ (s.session.state = .bringup ∧ s.take.awaitingLayout = false)
          ∨ s.session.state = .final ∨ s.session.state = .held ∨ s.session.state = .detached → s.settled →
        (s.link.numbering = false ∨ s.take.rx ≠ .inOrder →
          exec (.layoutReceived es) s =
            .next { s with link := { s.link with discarded := min 65535 (s.link.discarded + 1) }, out := .none })
        ∧ (s.link.numbering = true → s.take.rx = .inOrder →
          exec (.layoutReceived es) s = .next { s with
            take := { s.take with rx := .discard, rewinds := min 65535 (s.take.rewinds + 1) }
            link := { s.link with discarded := min 65535 (s.link.discarded + 1), rewindDue := true, rewindTimer := 0 }
            out := .none }))

/-- Sequenced frames and discarded runs of bytes at a take whose link is UP. The frame with the expected number that finds a free slot in
IN_ORDER is accepted: behind the frames already there, or, where none is, its apply begins at once. A state frame is applied: SYNCED,
RECEIVING or FINAL, acknowledged and its slot freed. A SEG frame's apply begins with its 64 words to write and read back, or, its segment
not tracked by an installed layout, completes as a failed verify. A MIR frame's begins with its first record that needs memory, the
records before it with an empty mask being complete and those outside MIRROR failed; with no such record it completes. In FINAL each frame
completes with no memory access, a SEG frame and each record counting as a failed verify (a state frame leaves FINAL: log 34). With
numbering active any other sequenced frame, and any run of bytes whose check fails, is counted as discarded and takes IN_ORDER to DISCARD,
where REWIND is due; in DISCARD nothing new happens. At a feed both are counted and no more. That no discarded frame restarts the silence
timer, and that each takes IN_ORDER to DISCARD, is the model's choice (logs 12, 13). -/
def Obligations.SequencedFramesAreTakenInOrder : Prop :=
  ∀ (q : Seq) (f : SeqFrame) (bytes : List Byte) (s : State), s.live = true → s.link.state = .up → s.settled →
    (s.inTake = true → s.link.numbering = true → s.take.rx = .inOrder → q = s.take.expected → f.wf = true →
      (s.take.buffer.length < 8 → s.take.apply ≠ none →
        exec (.sequencedFrameReceived q f) s = .next { s with
          take := { s.take with buffer := s.take.buffer ++ [(q, f)], expected := q + 1 }
          link := { s.link with silence := 0, confirmed := true }
          out := .none })
      ∧ (s.take.buffer = [] → s.take.apply = none → (s.session.state = .receiving ∨ s.session.state = .synced) →
          f = .instep ∨ f = .stale ∨ f = .handover →
          ∃ t, exec (.sequencedFrameReceived q f) s = .next t
            ∧ t.session.state = (if f = .instep then .synced else if f = .stale then .receiving else .final)
            ∧ t.take = { s.take with expected := q + 1, ackSeq := some q, freed := s.take.freed + 1 } ∧ t.link.ackDue = true
            ∧ (f ≠ .handover → t.notices.step.pending = true) ∧ t.regions = s.regions ∧ t.faults = s.faults ∧ t.out = Out.none)
      ∧ (s.take.buffer = [] → s.take.apply = none → (s.session.state = .receiving ∨ s.session.state = .synced) →
          let cls := fun n : Segment => if s.session.layoutInstalled then classOfSegment s.regions n else .localOnly
          let waits := fun (t : State) (a : ApplyWork) => t.take.buffer = [(q, f)] ∧ t.take.apply = some a ∧ a.limit = s.settings.retry
            ∧ a.job.limit = s.settings.retry ∧ a.job.round = 0 ∧ a.job.reads = a.job.writes ∧ a.job.awaiting = [] ∧ a.job.bad = []
            ∧ t.take.ackSeq = s.take.ackSeq ∧ t.take.freed = s.take.freed ∧ t.link.ackDue = s.link.ackDue
          let done := fun t : State => t.take.buffer = [] ∧ t.take.apply = none ∧ t.take.ackSeq = some q
            ∧ t.take.freed = s.take.freed + 1 ∧ t.link.ackDue = true
          let failed := fun (t : State) (rs : List MirrorRecord) => t.faults.list =
              (rs.foldl (fun fs r => fs.enter (segmentOf r.addr) .verify) s.faults).list
            ∧ t.take.failTotal = (if rs = [] then s.take.failTotal else min 65535 (s.take.failTotal + rs.length))
            ∧ (rs ≠ [] → t.faults.summary = s.faults.summary ||| 0x080#12)
          let outside := fun r : MirrorRecord => decide (r.mask ≠ 0 ∧ cls (segmentOf r.addr) ≠ .mirror)
          ∀ (n : BitVec 18) (ws : Vector Word 64) (before after : List MirrorRecord) (r : MirrorRecord),
          (f = .seg n ws ∨ f = .mir before ∨ f = .mir (before ++ r :: after) →
            ∃ t, exec (.sequencedFrameReceived q f) s = .next t ∧ t.out = Out.none ∧ t.session = s.session
              ∧ t.take.expected = q + 1 ∧ t.take.rx = .inOrder ∧ t.regions = s.regions
              ∧ (f = .seg n ws → cls n.toNat = .mirror ∨ cls n.toNat = .snapshot →
                  t.faults = s.faults ∧ ∃ a, waits t a ∧ a.kind = .seg ∧ a.segment = n.toNat ∧ a.rest = []
                    ∧ a.job.writes = segmentItems n.toNat (fun i => (ws.toList[i]?).getD 0))
              ∧ (f = .seg n ws → cls n.toNat = .localOnly ∨ cls n.toNat = .fill → done t ∧ verifyFailAdded n.toNat .verify s t)
              ∧ (f = .mir before → (∀ x ∈ before, x.mask = 0 ∨ outside x = true) → done t ∧ failed t (before.filter outside))
              ∧ (f = .mir (before ++ r :: after) → (∀ x ∈ before, x.mask = 0 ∨ outside x = true) → r.mask ≠ 0 →
                  cls (segmentOf r.addr) = .mirror →
                  failed t (before.filter outside) ∧ ∃ a, waits t a ∧ a.kind = .mir ∧ a.segment = segmentOf r.addr ∧ a.rest = after
                    ∧ a.job.writes = [{ addr := r.addr, data := r.data, mask := r.mask }])))
      ∧ (s.take.buffer = [] → s.take.apply = none → s.session.state = .final →
          ∃ t, exec (.sequencedFrameReceived q f) s = .next t ∧ t.out = Out.none ∧ t.session = s.session
            ∧ t.take.buffer = [] ∧ t.take.apply = none ∧ t.take.expected = q + 1 ∧ t.take.ackSeq = some q
            ∧ t.take.freed = s.take.freed + 1 ∧ t.link.ackDue = true
            ∧ (∀ n ws, f = .seg n ws → verifyFailAdded n.toNat .verify s t)
            ∧ (∀ rs, f = .mir rs → t.take.failTotal = min 65535 (s.take.failTotal + rs.length)
                ∧ t.faults.list = (rs.foldl (fun fs r => fs.enter (segmentOf r.addr) .verify) s.faults).list
                ∧ t.faults.summary = s.faults.summary ||| 0x080#12)
            ∧ (f = .instep ∨ f = .stale ∨ f = .handover → t.faults = s.faults ∧ t.take.failTotal = s.take.failTotal)))
    ∧ (∀ c : Instr,
        (c = .sequencedFrameReceived q f
            ∧ (s.inFeed = true ∨ s.link.numbering = false ∨ s.take.rx ≠ .inOrder ∨ q ≠ s.take.expected ∨ 8 ≤ s.take.buffer.length))
          ∨ (c = .frameDiscarded bytes ∧ checkedBody bytes = none) →
        (s.inTake = true ∧ s.link.numbering = true ∧ s.take.rx = .inOrder →
          exec c s = .next { s with
            take := { s.take with rx := .discard, rewinds := min 65535 (s.take.rewinds + 1) }
            link := { s.link with discarded := min 65535 (s.link.discarded + 1), rewindDue := true, rewindTimer := 0 }
            out := .none })
        ∧ (s.inFeed = true ∨ (s.inTake = true ∧ (s.link.numbering = false ∨ s.take.rx ≠ .inOrder)) →
          exec c s =
            .next { s with link := { s.link with discarded := min 65535 (s.link.discarded + 1) }, out := .none }))

/-- An ACK at a feed with an UP link and numbering active. Where its ack sequence is of the window, the window's frames up to it are retired
and each INFLIGHT segment whose last SEG frame went with them is CLEAN; where it is NONE or older, none is. The freed total, the peer fail
total and the peer take state become the ACK's, a changed fail total raises FAULT, a retired HANDOVER ends the session with CLOSE(COMPLETE),
and credits of 128 or more lose the link. Where it shows a withdrawn frame applied, the link is lost. That a retired HANDOVER
ends the session before the credits are tested is the model's reading (log 24); so is that the CLOSE leaves in that event (log 7). -/
def Obligations.AckRetiresFrames : Prop :=
  ∀ (k : Option Seq) (freed : BitVec 8) (fails : BitVec 16) (st : SessState) (s : State), s.live = true → s.inFeed = true →
    s.link.state = .up → s.link.numbering = true →
    let oldest := (s.feed.window.head?.map Prod.fst).getD s.feed.nextNumber
    let inWindow := fun j : Seq => (j - oldest).toNat < s.feed.window.length
    let c : Instr := .ackReceived k freed fails st
    (∀ j, k = some j → ¬ inWindow j → (j - s.feed.nextNumber).toNat < 32768 →
        ∃ t, exec c s = .next t ∧ t.link.state = .training ∧ t.link.numbering = false ∧ t.feed.window = [] ∧ t.feed.queue = []
          ∧ t.feed.peerFail = s.feed.peerFail ∧ t.feed.peerState = s.feed.peerState)
    ∧ (∀ n : Nat, (∃ j, k = some j ∧ inWindow j ∧ n = (j - oldest).toNat + 1)
          ∨ ((k = none ∨ ∃ j, k = some j ∧ ¬ inWindow j ∧ 32768 ≤ (j - s.feed.nextNumber).toNat) ∧ n = 0) →
        let gone := (s.feed.window.take n).map Prod.snd
        let left := (s.feed.window.drop n).map Prod.snd ++ s.feed.queue
        ∃ t, exec c s = .next t ∧ t.feed.peerFail = fails.toNat ∧ t.feed.peerState = some st
          ∧ (s.feed.peerFail ≠ fails.toNat → t.notices.fault.pending = true)
          ∧ (SeqFrame.handover ∈ gone → feedEnded (some .complete) s t ∧ t.faults = s.faults)
          ∧ (SeqFrame.handover ∉ gone → 128 ≤ (s.feed.sentTotal - freed).toNat → t.link.state = .training)
          ∧ (SeqFrame.handover ∉ gone → (s.feed.sentTotal - freed).toNat < 128 →
              t.feed.window = s.feed.window.drop n ∧ t.feed.freedTotal = freed ∧ t.feed.nextNumber = s.feed.nextNumber
                ∧ (∀ m, t.map.get m = if s.map.get m = .inflight ∧ hasSeg gone m = true ∧ hasSeg left m = false then .clean
                    else s.map.get m)
                ∧ t.session.state = s.session.state ∧ t.link.state = .up ∧ t.link.silence = 0 ∧ t.link.confirmed = true
                ∧ t.walker = s.walker ∧ t.faults = s.faults ∧ t.regions = s.regions))

/-- REWIND at a feed and REWOUND at a take, on an UP link; a REWIND still unsent as REWOUND arrives is sent no more (log 45), and the CLOSE
of PROTOCOL leaves in the event of the end (log 7). With e in the window, every frame from e on is withdrawn, the sent total and the
next number go back, REWOUND(e) is pending, and the segments of withdrawn SEG frames with none left, and of withdrawn records, are DIRTY;
with e the next number only REWOUND is pending; any other e ends the session with PROTOCOL. A take in DISCARD whose expected number comes
returns to IN_ORDER, in IN_ORDER nothing changes, and another number loses the link. With numbering inactive either is only heard. -/
def Obligations.RewindAndRewound : Prop :=
  ∀ (e : Seq) (s : State), s.live = true → s.link.state = .up →
    let oldest := (s.feed.window.head?.map Prod.fst).getD s.feed.nextNumber
    let d := (e - oldest).toNat
    let gone := (s.feed.window.drop d).map Prod.snd
    let left := (s.feed.window.take d).map Prod.snd ++ s.feed.queue
    (s.inFeed = true → s.link.numbering = true →
      (d < s.feed.window.length →
        ∃ t, exec (.rewindReceived e) s = .next t ∧ t.feed.window = s.feed.window.take d ∧ t.feed.nextNumber = e
          ∧ t.feed.sentTotal = s.feed.sentTotal - BitVec.ofNat 8 (s.feed.window.length - d) ∧ t.feed.rewound = some e
          ∧ t.feed.rewinds = min 65535 (s.feed.rewinds + 1)
          ∧ (∀ n, t.map.get n =
              if (s.map.get n = .inflight ∧ ((hasSeg gone n = true ∧ hasSeg left n = false) ∨ hasRecord gone n = true))
                  ∨ (s.map.get n = .clean ∧ hasRecord gone n = true) then .dirty else s.map.get n)
          ∧ t.session.state = s.session.state ∧ t.link.state = .up ∧ t.link.silence = 0 ∧ t.walker = s.walker ∧ t.faults = s.faults)
      ∧ (¬ d < s.feed.window.length → e = s.feed.nextNumber →
        ∃ t, exec (.rewindReceived e) s = .next t ∧ t.feed.window = s.feed.window ∧ t.feed.nextNumber = s.feed.nextNumber
          ∧ t.feed.sentTotal = s.feed.sentTotal ∧ t.feed.rewound = some e ∧ t.feed.rewinds = min 65535 (s.feed.rewinds + 1)
          ∧ t.map = s.map ∧ t.session.state = s.session.state ∧ t.link.state = .up ∧ t.link.silence = 0)
      ∧ (¬ d < s.feed.window.length → e ≠ s.feed.nextNumber →
        ∃ t, exec (.rewindReceived e) s = .next t ∧ feedEnded (some .faulted) s t ∧ faultAdded .protocol s t))
    ∧ (s.inTake = true → s.link.numbering = true →
      (e = s.take.expected → s.take.rx = .discard → s.settled →
        exec (.rewoundReceived e) s = .next { s with
          take := { s.take with rx := .inOrder }
          link := { s.link with silence := 0, confirmed := true, rewindDue := false }
          out := .none })
      ∧ (e = s.take.expected → s.take.rx ≠ .discard → s.settled →
        exec (.rewoundReceived e) s = .next { s with link := { s.link with silence := 0, confirmed := true }, out := .none })
      ∧ (e ≠ s.take.expected →
        ∃ t, exec (.rewoundReceived e) s = .next t ∧ t.link.state = .training ∧ t.link.numbering = false ∧ t.take.rx = .inactive))
    ∧ (∀ c, (c = .rewindReceived e ∧ s.inFeed = true) ∨ (c = .rewoundReceived e ∧ s.inTake = true) → s.link.numbering = false →
        s.settled → exec c s = .next { s with link := { s.link with silence := 0, confirmed := true }, out := .none })

/-! ### The chassis lines -/

/-- The line monitor of a live part: a raw PEER_PRESENT change starts the filter anew and raises nothing; a raw level that has held for the
filter time becomes the filtered one, up or down, and raises LINE (its fall on an UP link is the loss of the link: LinkLossAtTheFeed,
TakeIsHeldOrDetached); an EJECT fall, a TAKE_EN rise, a TAKE_EN fall outside a take session, and an EJECT event outside a session change the
level, raise LINE and leave the session. While RESET_N is low each change of a line changes its level alone, the filter's time starting anew
with the raw PEER_PRESENT level, and a TAKE_EN fall leaves a LINE notice owed, which the rise of RESET_N raises (log 16); nothing is raised
or delivered, and the filtered level stays low. That PEER_PRESENT_FILTERED carries the clock to the end of the filter time is the model's choice
(log 1). -/
def Obligations.LinesAreMonitored : Prop :=
  (∀ s : State, s.live = true →
    (∀ level, level ≠ s.chassis.peerRaw → s.settled →
      exec (.peerPresentChange level) s = .next { s with chassis := { s.chassis with peerRaw := level, peerHeld := 0 }, out := .none })
    ∧ (s.chassis.peerRaw ≠ s.chassis.peerFiltered → s.chassis.peerRaw = true ∨ s.link.state ≠ .up →
      ∃ t, exec .peerPresentFiltered s = .next t ∧ t.chassis.peerFiltered = s.chassis.peerRaw ∧ t.chassis.peerHeld = 0
        ∧ t.chassis.tick = s.chassis.tick + (s.settings.filter * 10000 - s.chassis.peerHeld) ∧ t.notices.line.pending = true
        ∧ t.link.state = s.link.state ∧ t.session.state = s.session.state ∧ t.map = s.map ∧ t.take = s.take)
    ∧ (∀ c, (c = .ejectFall ∧ s.chassis.eject = true) ∨ (c = .takeEnRise ∧ s.chassis.takeEn = false)
          ∨ (c = .takeEnFall ∧ s.chassis.takeEn = true ∧ s.inTake = false)
          ∨ (c = .ejectEvent ∧ s.chassis.eject = false ∧ s.inTake = false ∧ s.inFeed = false) → s.settled →
      ∃ t, exec c s = .next t
        ∧ (c = .ejectFall → t.chassis = { s.chassis with eject := false })
        ∧ (c = .ejectEvent → t.chassis = { s.chassis with eject := true })
        ∧ (c = .takeEnRise → t.chassis = { s.chassis with takeEn := true })
        ∧ (c = .takeEnFall → t.chassis = { s.chassis with takeEn := false })
        ∧ t.notices = s.notices.set .line (raised s.report.generation) ∧ t.report.writing = true
        ∧ t.session = s.session ∧ t.link = s.link ∧ t.feed = s.feed ∧ t.take = s.take ∧ t.map = s.map ∧ t.walker = s.walker
        ∧ t.freeze = s.freeze ∧ t.faults = s.faults ∧ t.regions = s.regions ∧ t.settings = s.settings ∧ t.out = Out.none))
  ∧ (∀ (s : State) (level : Bool), s.chassis.power = true → s.chassis.resetN = false → s.settled →
    let lines := fun c : Chassis => (.next { s with chassis := c, out := .none } : Host.Outcome State Fault Refusal)
    (level ≠ s.chassis.peerRaw →
        exec (.peerPresentChange level) s = lines { s.chassis with peerRaw := level, peerHeld := 0 })
      ∧ exec .peerPresentFiltered s = lines s.chassis
      ∧ (s.chassis.eject = false → exec .ejectEvent s = lines { s.chassis with eject := true })
      ∧ (s.chassis.eject = true → exec .ejectFall s = lines { s.chassis with eject := false })
      ∧ (s.chassis.takeEn = false → exec .takeEnRise s = lines { s.chassis with takeEn := true })
      ∧ (s.chassis.takeEn = true → exec .takeEnFall s = lines { s.chassis with takeEn := false, lineDeferred := true }))

/-! ### Apply -/

/-- The last verify response of a round of the apply or the fill unit. A SEG frame, every word matching: done, its slot freed, its number the
ack sequence, the freed total up by 1, an ACK due, and its segment leaves the fault list. A mismatch below the retry limit: a rewrite round
over the words that mismatched. At the limit: done all the same, the segment listed with cause VERIFY, the fail total one higher, VERIFY_FAIL
recorded. A MIR record, in the bytes its mask covers, likewise, but a match removes no fault list entry; the next record that needs memory
then begins, or with none the frame is done. A fill segment likewise with cause FILL; then the next place of the fill order begins, or, the
fills finished, READY is due, numbering starts and the take is RECEIVING. -/
def Obligations.SegApplyEndsByItsLastRound : Prop :=
  (∀ (s : State) (a : ApplyWork) (i : VerifyItem) (q : Seq) (f : SeqFrame) (addr : Addr) (rest : List ReturnEntry) (status : Status)
      (data : Word), s.live = true → s.inTake = true →
    (s.session.state = .receiving ∨ s.session.state = .synced) →
    s.path.returns = { requester := .apply a.job.use, addr := addr } :: rest → s.take.apply = some a →
    a.job.writes = [] → a.job.reads = [] → a.job.awaiting = [i] → s.take.buffer = [(q, f)] →
    let bad := a.job.bad ++ (if status = .fault ∨ keepBytes i.mask data ≠ keepBytes i.mask i.data then [i] else [])
    let done := { s.take with buffer := [], ackSeq := some q, freed := s.take.freed + 1, apply := none }
    ∃ t, exec (.readResponse status data) s = .next t ∧ t.path.returns = rest ∧ t.session.state = s.session.state
      ∧ t.regions = s.regions ∧ t.link.state = s.link.state ∧ t.take.expected = s.take.expected ∧ t.take.rx = s.take.rx
      ∧ (bad ≠ [] → a.job.round < a.job.limit →
          t.take = { s.take with apply := some { a with job :=
              { a.job with round := a.job.round + 1, writes := bad, reads := bad, awaiting := [], bad := [] } } }
            ∧ t.faults = s.faults ∧ t.link.ackDue = s.link.ackDue)
      ∧ (a.kind = .seg → a.rest = [] →
          (bad = [] →
            t.take = done ∧ t.link.ackDue = true
              ∧ t.faults = { s.faults with list := s.faults.list.filter fun e => e.1 ≠ a.segment })
          ∧ (bad ≠ [] → a.job.limit ≤ a.job.round →
            t.take = { done with failTotal := min 65535 (s.take.failTotal + 1) } ∧ t.link.ackDue = true
              ∧ verifyFailAdded a.segment .verify s t))
      ∧ (a.kind = .mir → (∀ r ∈ a.rest, r.mask = 0 ∨ s.installedClass (segmentOf r.addr) = .mirror) →
          (bad = [] → t.faults = s.faults ∧ t.take.failTotal = s.take.failTotal)
            ∧ (bad ≠ [] → a.job.limit ≤ a.job.round → verifyFailAdded a.segment .verify s t))
      ∧ (a.kind = .mir → bad = [] ∨ a.job.limit ≤ a.job.round →
          ((∀ r ∈ a.rest, r.mask = 0) → t.take = { done with failTotal := t.take.failTotal } ∧ t.link.ackDue = true)
          ∧ (∀ before r after, a.rest = before ++ r :: after → (∀ x ∈ before, x.mask = 0) → r.mask ≠ 0 →
              s.installedClass (segmentOf r.addr) = .mirror →
              t.take.buffer = s.take.buffer ∧ t.take.ackSeq = s.take.ackSeq ∧ t.take.freed = s.take.freed
                ∧ t.link.ackDue = s.link.ackDue
                ∧ ∃ b, t.take.apply = some b ∧ b.kind = .mir ∧ b.segment = segmentOf r.addr ∧ b.rest = after ∧ b.limit = a.limit
                    ∧ b.job.limit = a.limit ∧ b.job.round = 0 ∧ b.job.awaiting = [] ∧ b.job.bad = []
                    ∧ b.job.writes = [{ addr := r.addr, data := r.data, mask := r.mask }] ∧ b.job.reads = b.job.writes)))
  ∧ (∀ (s : State) (w : FillWork) (i : VerifyItem) (addr : Addr) (rest : List ReturnEntry) (status : Status) (data : Word),
    s.live = true → s.inTake = true → s.session.state = .install →
    s.path.returns = { requester := .fill w.job.use, addr := addr } :: rest → s.take.fill = some w →
    w.job.writes = [] → w.job.reads = [] → w.job.awaiting = [i] →
    let bad := w.job.bad ++ (if status = .fault ∨ keepBytes i.mask data ≠ keepBytes i.mask i.data then [i] else [])
    ∃ t, exec (.readResponse status data) s = .next t ∧ t.path.returns = rest ∧ t.regions = s.regions
      ∧ t.link.state = s.link.state ∧ t.out = Out.none
      ∧ (bad ≠ [] → w.job.round < w.job.limit →
          t.take = { s.take with fill := some { w with job :=
              { w.job with round := w.job.round + 1, writes := bad, reads := bad, awaiting := [], bad := [] } } }
            ∧ t.faults = s.faults ∧ t.session = s.session)
      ∧ (bad = [] → t.faults = { s.faults with list := s.faults.list.filter fun e => e.1 ≠ w.segment }
          ∧ t.take.failTotal = s.take.failTotal)
      ∧ (bad ≠ [] → w.job.limit ≤ w.job.round → verifyFailAdded w.segment .fill s t)
      ∧ (bad = [] ∨ w.job.limit ≤ w.job.round →
          (∀ n, (fillOrder s.regions)[w.place + 1]? = some n →
            t.session = s.session ∧ t.link = s.link
              ∧ ∃ v, t.take.fill = some v ∧ v.place = w.place + 1 ∧ v.segment = n ∧ v.job.limit = s.settings.retry ∧ v.job.round = 0
                  ∧ v.job.writes = segmentItems n (fun _ => fillWordOf s.regions n) ∧ v.job.reads = v.job.writes
                  ∧ v.job.awaiting = [] ∧ v.job.bad = [])
          ∧ ((fillOrder s.regions)[w.place + 1]? = none →
            t.take.fill = none ∧ t.session.state = .receiving ∧ t.link.readyDue = s.link.readyDue + 1 ∧ t.link.numbering = true
              ∧ t.take.rx = .inOrder ∧ t.take.expected = 0 ∧ t.take.freed = 0 ∧ t.take.ackSeq = none ∧ t.take.buffer = [])))

/-! ### The whole part -/

/-- Each frame the part may build, as the bytes of its layout with their frame check, is read on any lane as the command of that frame: no
field of any kind is lost. -/
def Obligations.SentFramesAreReadBack : Prop :=
  ∀ (lane : BitVec 2) (f : TxFrame), f.wf = true → readFrame lane (frameBytes f) = some (f.arrives lane)

/-- Whatever command comes, and when none does, no list outgrows its places, no two overlay entries share a word address, no two fault list
entries hold the same segment, and, as long as an ACK's freed total agrees with the frames its ack sequence retires, the window's frames stay
counted in the credits in use, of which there are at most 8. -/
def Obligations.EveryStepKeepsListsBounded : Prop :=
  ∀ s t : State, s.bounded → s.overlayDistinct → step s = .next t →
    t.bounded ∧ t.overlayDistinct
      ∧ (s.faultsDistinct → t.faultsDistinct)
      ∧ (s.windowFits → (∀ k freed fails st rest, s.pending = .ackReceived k freed fails st :: rest → s.ackAgrees k freed) →
          t.windowFits)

/-- Whatever command comes, and when none does, the session state stays one of the role's, the throttle level stays one its state allows,
the map stays that of the session's tracked segments, and the link stays OFF exactly in IDLE. -/
def Obligations.EveryStepKeepsTheSessionLegal : Prop :=
  ∀ s t : State, s.stateLegal → s.throttleLegal → s.mapLegal → s.linkFollows → step s = .next t →
    t.stateLegal ∧ t.throttleLegal ∧ t.mapLegal ∧ t.linkFollows

/-- The reset state keeps every promise. -/
def Obligations.ResetStateIsSafe : Prop := State.reset.safe ∧ State.reset.settled

/-- Who may change what, over all commands and all states: memory requests come from grants alone, answers to the engine from requests and
responses, frames from the transmitter but for the CLOSE that leaves as a session ends (log 7); settings, region table, straps, lockout,
interrupted-apply record, directive record, enable mask, read return list and lookup candidate change under the commands named and no other.
-/
def Obligations.OnlyTheseCommandsChange : Prop :=
  ∀ (c : Instr) (s t : State), exec c s = .next t →
    (c ≠ .arbiterGrant → t.out.mem = [])
    ∧ (c ≠ .transmitFrame → t.out.link = []
        ∨ ∃ r, t.out.link = [.close r] ∧ s.link.state = .up ∧ t.link.state = .off ∧ t.session.state = .idle)
    ∧ ((∀ a, c ≠ .lookupRead a ∧ c ≠ .maintenanceRead a) → (∀ st d, c ≠ .readResponse st d) → t.out.engine = [])
    ∧ (match c with
        | .coldReset _ _ | .warmReset | .arbiterGrant => True
        | .setup _ => t.regions = s.regions ∧ t.take.interrupted = s.take.interrupted ∧ t.path.returns = s.path.returns
        | .region _ => t.settings = s.settings ∧ t.take.interrupted = s.take.interrupted ∧ t.path.returns = s.path.returns
        | .layoutReceived _ => t.settings = s.settings ∧ t.take.interrupted = s.take.interrupted ∧ t.path.returns = s.path.returns
        | .take _ => t.settings = s.settings ∧ t.regions = s.regions ∧ t.path.returns = s.path.returns
        | .readResponse _ _ => t.settings = s.settings ∧ t.regions = s.regions ∧ t.take.interrupted = s.take.interrupted
        | _ => t.settings = s.settings ∧ t.regions = s.regions ∧ t.take.interrupted = s.take.interrupted
            ∧ t.path.returns = s.path.returns)
    ∧ (match c with
        | .coldReset _ _ | .resetNRise _ => True
        | _ => t.chassis.msize = s.chassis.msize ∧ t.chassis.slotId = s.chassis.slotId)
    ∧ (match c with
        | .coldReset _ _ => t.session.lockout = false
        | .takeEnFall => s.session.lockout = true → t.session.lockout = true
        | _ => t.session.lockout = s.session.lockout)
    ∧ (match c with
        | .coldReset _ _ | .warmReset | .arbiterGrant | .shadowWrite _ _ _ | .strayTrigger _ _ | .unknownKind _ _ | .setup _
        | .region _ | .feed _ | .take _ | .handover _ | .release _ | .abort _ | .adopt _ | .notices _ | .acknowledge _
        | .refresh _ => True
        | _ => t.directive = s.directive)
    ∧ (match c with
        | .coldReset _ _ | .warmReset | .arbiterGrant | .notices _ => True
        | _ => t.notices.enable = s.notices.enable)
    ∧ (match c with
        | .coldReset _ _ | .arbiterGrant | .lookupRead _ => True
        | _ => t.path.lookup = s.path.lookup)

end
end

