-- ==== Sys2Proof/Laws/State.lean ====
section
/-! SUPPORT. What each update of State leaves as it was, field by field. -/

namespace Sys2Proof.Machine

open Sys2Proof

variable (s : State)

@[simp] theorem State.requestReport_chassis : (s.requestReport).chassis = s.chassis := rfl
@[simp] theorem State.requestReport_path : (s.requestReport).path = s.path := rfl
@[simp] theorem State.requestReport_settings : (s.requestReport).settings = s.settings := rfl
@[simp] theorem State.requestReport_regions : (s.requestReport).regions = s.regions := rfl
@[simp] theorem State.requestReport_map : (s.requestReport).map = s.map := rfl
@[simp] theorem State.requestReport_walker : (s.requestReport).walker = s.walker := rfl
@[simp] theorem State.requestReport_freeze : (s.requestReport).freeze = s.freeze := rfl
@[simp] theorem State.requestReport_feed : (s.requestReport).feed = s.feed := rfl
@[simp] theorem State.requestReport_link : (s.requestReport).link = s.link := rfl
@[simp] theorem State.requestReport_take : (s.requestReport).take = s.take := rfl
@[simp] theorem State.requestReport_faults : (s.requestReport).faults = s.faults := rfl
@[simp] theorem State.requestReport_review : (s.requestReport).review = s.review := rfl
@[simp] theorem State.requestReport_session : (s.requestReport).session = s.session := rfl
@[simp] theorem State.requestReport_directive : (s.requestReport).directive = s.directive := rfl
@[simp] theorem State.requestReport_notices : (s.requestReport).notices = s.notices := rfl
@[simp] theorem State.requestReport_report : (s.requestReport).report = s.report := rfl
@[simp] theorem State.requestReport_out : (s.requestReport).out = s.out := rfl
@[simp] theorem State.requestReport_pending : (s.requestReport).pending = s.pending := rfl

@[simp] theorem State.reexamine_chassis : (s.reexamine).chassis = s.chassis := rfl
@[simp] theorem State.reexamine_path : (s.reexamine).path = s.path := rfl
@[simp] theorem State.reexamine_settings : (s.reexamine).settings = s.settings := rfl
@[simp] theorem State.reexamine_regions : (s.reexamine).regions = s.regions := rfl
@[simp] theorem State.reexamine_map : (s.reexamine).map = s.map := rfl
@[simp] theorem State.reexamine_walker : (s.reexamine).walker = s.walker := rfl
@[simp] theorem State.reexamine_freeze : (s.reexamine).freeze = s.freeze := rfl
@[simp] theorem State.reexamine_feed : (s.reexamine).feed = s.feed := rfl
@[simp] theorem State.reexamine_link : (s.reexamine).link = s.link := rfl
@[simp] theorem State.reexamine_take : (s.reexamine).take = s.take := rfl
@[simp] theorem State.reexamine_faults : (s.reexamine).faults = s.faults := rfl
@[simp] theorem State.reexamine_review : (s.reexamine).review = s.review := rfl
@[simp] theorem State.reexamine_session : (s.reexamine).session = s.session := rfl
@[simp] theorem State.reexamine_directive : (s.reexamine).directive = s.directive := rfl
@[simp] theorem State.reexamine_notices : (s.reexamine).notices = s.notices := rfl
@[simp] theorem State.reexamine_report : (s.reexamine).report = s.report := rfl
@[simp] theorem State.reexamine_out : (s.reexamine).out = s.out := rfl
@[simp] theorem State.reexamine_pending : (s.reexamine).pending = s.pending := rfl

@[simp] theorem State.raise_chassis (k : NoticeKind) : (s.raise k).chassis = s.chassis := rfl
@[simp] theorem State.raise_path (k : NoticeKind) : (s.raise k).path = s.path := rfl
@[simp] theorem State.raise_settings (k : NoticeKind) : (s.raise k).settings = s.settings := rfl
@[simp] theorem State.raise_regions (k : NoticeKind) : (s.raise k).regions = s.regions := rfl
@[simp] theorem State.raise_map (k : NoticeKind) : (s.raise k).map = s.map := rfl
@[simp] theorem State.raise_walker (k : NoticeKind) : (s.raise k).walker = s.walker := rfl
@[simp] theorem State.raise_freeze (k : NoticeKind) : (s.raise k).freeze = s.freeze := rfl
@[simp] theorem State.raise_feed (k : NoticeKind) : (s.raise k).feed = s.feed := rfl
@[simp] theorem State.raise_link (k : NoticeKind) : (s.raise k).link = s.link := rfl
@[simp] theorem State.raise_take (k : NoticeKind) : (s.raise k).take = s.take := rfl
@[simp] theorem State.raise_faults (k : NoticeKind) : (s.raise k).faults = s.faults := rfl
@[simp] theorem State.raise_review (k : NoticeKind) : (s.raise k).review = s.review := rfl
@[simp] theorem State.raise_session (k : NoticeKind) : (s.raise k).session = s.session := rfl
@[simp] theorem State.raise_directive (k : NoticeKind) : (s.raise k).directive = s.directive := rfl
@[simp] theorem State.raise_report (k : NoticeKind) : (s.raise k).report = s.report := rfl
@[simp] theorem State.raise_out (k : NoticeKind) : (s.raise k).out = s.out := rfl
@[simp] theorem State.raise_pending (k : NoticeKind) : (s.raise k).pending = s.pending := rfl

@[simp] theorem State.recordFault_chassis (f : SessFault) : (s.recordFault f).chassis = s.chassis := rfl
@[simp] theorem State.recordFault_path (f : SessFault) : (s.recordFault f).path = s.path := rfl
@[simp] theorem State.recordFault_settings (f : SessFault) : (s.recordFault f).settings = s.settings := rfl
@[simp] theorem State.recordFault_regions (f : SessFault) : (s.recordFault f).regions = s.regions := rfl
@[simp] theorem State.recordFault_map (f : SessFault) : (s.recordFault f).map = s.map := rfl
@[simp] theorem State.recordFault_walker (f : SessFault) : (s.recordFault f).walker = s.walker := rfl
@[simp] theorem State.recordFault_freeze (f : SessFault) : (s.recordFault f).freeze = s.freeze := rfl
@[simp] theorem State.recordFault_feed (f : SessFault) : (s.recordFault f).feed = s.feed := rfl
@[simp] theorem State.recordFault_link (f : SessFault) : (s.recordFault f).link = s.link := rfl
@[simp] theorem State.recordFault_take (f : SessFault) : (s.recordFault f).take = s.take := rfl
@[simp] theorem State.recordFault_review (f : SessFault) : (s.recordFault f).review = s.review := rfl
@[simp] theorem State.recordFault_session (f : SessFault) : (s.recordFault f).session = s.session := rfl
@[simp] theorem State.recordFault_directive (f : SessFault) : (s.recordFault f).directive = s.directive := rfl
@[simp] theorem State.recordFault_report (f : SessFault) : (s.recordFault f).report = s.report := rfl
@[simp] theorem State.recordFault_out (f : SessFault) : (s.recordFault f).out = s.out := rfl
@[simp] theorem State.recordFault_pending (f : SessFault) : (s.recordFault f).pending = s.pending := rfl

@[simp] theorem State.enterFault_chassis (n : Segment) (c : Cause) : (s.enterFault n c).chassis = s.chassis := rfl
@[simp] theorem State.enterFault_path (n : Segment) (c : Cause) : (s.enterFault n c).path = s.path := rfl
@[simp] theorem State.enterFault_settings (n : Segment) (c : Cause) : (s.enterFault n c).settings = s.settings := rfl
@[simp] theorem State.enterFault_regions (n : Segment) (c : Cause) : (s.enterFault n c).regions = s.regions := rfl
@[simp] theorem State.enterFault_map (n : Segment) (c : Cause) : (s.enterFault n c).map = s.map := rfl
@[simp] theorem State.enterFault_walker (n : Segment) (c : Cause) : (s.enterFault n c).walker = s.walker := rfl
@[simp] theorem State.enterFault_freeze (n : Segment) (c : Cause) : (s.enterFault n c).freeze = s.freeze := rfl
@[simp] theorem State.enterFault_feed (n : Segment) (c : Cause) : (s.enterFault n c).feed = s.feed := rfl
@[simp] theorem State.enterFault_link (n : Segment) (c : Cause) : (s.enterFault n c).link = s.link := rfl
@[simp] theorem State.enterFault_take (n : Segment) (c : Cause) : (s.enterFault n c).take = s.take := rfl
@[simp] theorem State.enterFault_review (n : Segment) (c : Cause) : (s.enterFault n c).review = s.review := rfl
@[simp] theorem State.enterFault_session (n : Segment) (c : Cause) : (s.enterFault n c).session = s.session := rfl
@[simp] theorem State.enterFault_directive (n : Segment) (c : Cause) : (s.enterFault n c).directive = s.directive := rfl
@[simp] theorem State.enterFault_report (n : Segment) (c : Cause) : (s.enterFault n c).report = s.report := rfl
@[simp] theorem State.enterFault_out (n : Segment) (c : Cause) : (s.enterFault n c).out = s.out := rfl
@[simp] theorem State.enterFault_pending (n : Segment) (c : Cause) : (s.enterFault n c).pending = s.pending := rfl

@[simp] theorem State.toldDirty_chassis (b : Bool) : (s.toldDirty b).chassis = s.chassis := rfl
@[simp] theorem State.toldDirty_path (b : Bool) : (s.toldDirty b).path = s.path := rfl
@[simp] theorem State.toldDirty_settings (b : Bool) : (s.toldDirty b).settings = s.settings := rfl
@[simp] theorem State.toldDirty_regions (b : Bool) : (s.toldDirty b).regions = s.regions := rfl
@[simp] theorem State.toldDirty_map (b : Bool) : (s.toldDirty b).map = s.map := rfl
@[simp] theorem State.toldDirty_walker (b : Bool) : (s.toldDirty b).walker = s.walker := rfl
@[simp] theorem State.toldDirty_freeze (b : Bool) : (s.toldDirty b).freeze = s.freeze := rfl
@[simp] theorem State.toldDirty_feed (b : Bool) : (s.toldDirty b).feed = s.feed := rfl
@[simp] theorem State.toldDirty_link (b : Bool) : (s.toldDirty b).link = s.link := rfl
@[simp] theorem State.toldDirty_take (b : Bool) : (s.toldDirty b).take = s.take := rfl
@[simp] theorem State.toldDirty_faults (b : Bool) : (s.toldDirty b).faults = s.faults := rfl
@[simp] theorem State.toldDirty_review (b : Bool) : (s.toldDirty b).review = s.review := rfl
@[simp] theorem State.toldDirty_session (b : Bool) : (s.toldDirty b).session = s.session := rfl
@[simp] theorem State.toldDirty_directive (b : Bool) : (s.toldDirty b).directive = s.directive := rfl
@[simp] theorem State.toldDirty_notices (b : Bool) : (s.toldDirty b).notices = s.notices := rfl
@[simp] theorem State.toldDirty_report (b : Bool) : (s.toldDirty b).report = s.report := rfl
@[simp] theorem State.toldDirty_out (b : Bool) : (s.toldDirty b).out = s.out := rfl
@[simp] theorem State.toldDirty_pending (b : Bool) : (s.toldDirty b).pending = s.pending := rfl

@[simp] theorem State.changeSeg_chassis (n : Segment) (f : SegState → SegState) : (s.changeSeg n f).chassis = s.chassis := rfl
@[simp] theorem State.changeSeg_path (n : Segment) (f : SegState → SegState) : (s.changeSeg n f).path = s.path := rfl
@[simp] theorem State.changeSeg_settings (n : Segment) (f : SegState → SegState) : (s.changeSeg n f).settings = s.settings := rfl
@[simp] theorem State.changeSeg_regions (n : Segment) (f : SegState → SegState) : (s.changeSeg n f).regions = s.regions := rfl
@[simp] theorem State.changeSeg_walker (n : Segment) (f : SegState → SegState) : (s.changeSeg n f).walker = s.walker := rfl
@[simp] theorem State.changeSeg_freeze (n : Segment) (f : SegState → SegState) : (s.changeSeg n f).freeze = s.freeze := rfl
@[simp] theorem State.changeSeg_feed (n : Segment) (f : SegState → SegState) : (s.changeSeg n f).feed = s.feed := rfl
@[simp] theorem State.changeSeg_link (n : Segment) (f : SegState → SegState) : (s.changeSeg n f).link = s.link := rfl
@[simp] theorem State.changeSeg_take (n : Segment) (f : SegState → SegState) : (s.changeSeg n f).take = s.take := rfl
@[simp] theorem State.changeSeg_faults (n : Segment) (f : SegState → SegState) : (s.changeSeg n f).faults = s.faults := rfl
@[simp] theorem State.changeSeg_review (n : Segment) (f : SegState → SegState) : (s.changeSeg n f).review = s.review := rfl
@[simp] theorem State.changeSeg_session (n : Segment) (f : SegState → SegState) : (s.changeSeg n f).session = s.session := rfl
@[simp] theorem State.changeSeg_directive (n : Segment) (f : SegState → SegState) : (s.changeSeg n f).directive = s.directive := rfl
@[simp] theorem State.changeSeg_notices (n : Segment) (f : SegState → SegState) : (s.changeSeg n f).notices = s.notices := rfl
@[simp] theorem State.changeSeg_report (n : Segment) (f : SegState → SegState) : (s.changeSeg n f).report = s.report := rfl
@[simp] theorem State.changeSeg_out (n : Segment) (f : SegState → SegState) : (s.changeSeg n f).out = s.out := rfl
@[simp] theorem State.changeSeg_pending (n : Segment) (f : SegState → SegState) : (s.changeSeg n f).pending = s.pending := rfl

@[simp] theorem State.unsentToDirty_chassis : (s.unsentToDirty).chassis = s.chassis := rfl
@[simp] theorem State.unsentToDirty_path : (s.unsentToDirty).path = s.path := rfl
@[simp] theorem State.unsentToDirty_settings : (s.unsentToDirty).settings = s.settings := rfl
@[simp] theorem State.unsentToDirty_regions : (s.unsentToDirty).regions = s.regions := rfl
@[simp] theorem State.unsentToDirty_walker : (s.unsentToDirty).walker = s.walker := rfl
@[simp] theorem State.unsentToDirty_freeze : (s.unsentToDirty).freeze = s.freeze := rfl
@[simp] theorem State.unsentToDirty_feed : (s.unsentToDirty).feed = s.feed := rfl
@[simp] theorem State.unsentToDirty_link : (s.unsentToDirty).link = s.link := rfl
@[simp] theorem State.unsentToDirty_take : (s.unsentToDirty).take = s.take := rfl
@[simp] theorem State.unsentToDirty_faults : (s.unsentToDirty).faults = s.faults := rfl
@[simp] theorem State.unsentToDirty_review : (s.unsentToDirty).review = s.review := rfl
@[simp] theorem State.unsentToDirty_session : (s.unsentToDirty).session = s.session := rfl
@[simp] theorem State.unsentToDirty_directive : (s.unsentToDirty).directive = s.directive := rfl
@[simp] theorem State.unsentToDirty_notices : (s.unsentToDirty).notices = s.notices := rfl
@[simp] theorem State.unsentToDirty_report : (s.unsentToDirty).report = s.report := rfl
@[simp] theorem State.unsentToDirty_out : (s.unsentToDirty).out = s.out := rfl
@[simp] theorem State.unsentToDirty_pending : (s.unsentToDirty).pending = s.pending := rfl

@[simp] theorem State.clearMap_chassis : (s.clearMap).chassis = s.chassis := rfl
@[simp] theorem State.clearMap_path : (s.clearMap).path = s.path := rfl
@[simp] theorem State.clearMap_settings : (s.clearMap).settings = s.settings := rfl
@[simp] theorem State.clearMap_regions : (s.clearMap).regions = s.regions := rfl
@[simp] theorem State.clearMap_walker : (s.clearMap).walker = s.walker := rfl
@[simp] theorem State.clearMap_freeze : (s.clearMap).freeze = s.freeze := rfl
@[simp] theorem State.clearMap_feed : (s.clearMap).feed = s.feed := rfl
@[simp] theorem State.clearMap_link : (s.clearMap).link = s.link := rfl
@[simp] theorem State.clearMap_take : (s.clearMap).take = s.take := rfl
@[simp] theorem State.clearMap_faults : (s.clearMap).faults = s.faults := rfl
@[simp] theorem State.clearMap_review : (s.clearMap).review = s.review := rfl
@[simp] theorem State.clearMap_session : (s.clearMap).session = s.session := rfl
@[simp] theorem State.clearMap_directive : (s.clearMap).directive = s.directive := rfl
@[simp] theorem State.clearMap_notices : (s.clearMap).notices = s.notices := rfl
@[simp] theorem State.clearMap_report : (s.clearMap).report = s.report := rfl
@[simp] theorem State.clearMap_out : (s.clearMap).out = s.out := rfl
@[simp] theorem State.clearMap_signals : (s.clearMap).signals = s.signals := rfl
@[simp] theorem State.clearMap_pending : (s.clearMap).pending = s.pending := rfl

@[simp] theorem State.toMemory_chassis (r : MemRequest) : (s.toMemory r).chassis = s.chassis := rfl
@[simp] theorem State.toMemory_path (r : MemRequest) : (s.toMemory r).path = s.path := rfl
@[simp] theorem State.toMemory_settings (r : MemRequest) : (s.toMemory r).settings = s.settings := rfl
@[simp] theorem State.toMemory_regions (r : MemRequest) : (s.toMemory r).regions = s.regions := rfl
@[simp] theorem State.toMemory_map (r : MemRequest) : (s.toMemory r).map = s.map := rfl
@[simp] theorem State.toMemory_walker (r : MemRequest) : (s.toMemory r).walker = s.walker := rfl
@[simp] theorem State.toMemory_freeze (r : MemRequest) : (s.toMemory r).freeze = s.freeze := rfl
@[simp] theorem State.toMemory_feed (r : MemRequest) : (s.toMemory r).feed = s.feed := rfl
@[simp] theorem State.toMemory_link (r : MemRequest) : (s.toMemory r).link = s.link := rfl
@[simp] theorem State.toMemory_take (r : MemRequest) : (s.toMemory r).take = s.take := rfl
@[simp] theorem State.toMemory_faults (r : MemRequest) : (s.toMemory r).faults = s.faults := rfl
@[simp] theorem State.toMemory_review (r : MemRequest) : (s.toMemory r).review = s.review := rfl
@[simp] theorem State.toMemory_session (r : MemRequest) : (s.toMemory r).session = s.session := rfl
@[simp] theorem State.toMemory_directive (r : MemRequest) : (s.toMemory r).directive = s.directive := rfl
@[simp] theorem State.toMemory_notices (r : MemRequest) : (s.toMemory r).notices = s.notices := rfl
@[simp] theorem State.toMemory_report (r : MemRequest) : (s.toMemory r).report = s.report := rfl
@[simp] theorem State.toMemory_signals (r : MemRequest) : (s.toMemory r).signals = s.signals := rfl
@[simp] theorem State.toMemory_pending (r : MemRequest) : (s.toMemory r).pending = s.pending := rfl

@[simp] theorem State.takeUse_chassis : (s.takeUse).chassis = s.chassis := rfl
@[simp] theorem State.takeUse_path : (s.takeUse).path = s.path := rfl
@[simp] theorem State.takeUse_settings : (s.takeUse).settings = s.settings := rfl
@[simp] theorem State.takeUse_regions : (s.takeUse).regions = s.regions := rfl
@[simp] theorem State.takeUse_map : (s.takeUse).map = s.map := rfl
@[simp] theorem State.takeUse_freeze : (s.takeUse).freeze = s.freeze := rfl
@[simp] theorem State.takeUse_feed : (s.takeUse).feed = s.feed := rfl
@[simp] theorem State.takeUse_link : (s.takeUse).link = s.link := rfl
@[simp] theorem State.takeUse_take : (s.takeUse).take = s.take := rfl
@[simp] theorem State.takeUse_faults : (s.takeUse).faults = s.faults := rfl
@[simp] theorem State.takeUse_review : (s.takeUse).review = s.review := rfl
@[simp] theorem State.takeUse_session : (s.takeUse).session = s.session := rfl
@[simp] theorem State.takeUse_directive : (s.takeUse).directive = s.directive := rfl
@[simp] theorem State.takeUse_notices : (s.takeUse).notices = s.notices := rfl
@[simp] theorem State.takeUse_report : (s.takeUse).report = s.report := rfl
@[simp] theorem State.takeUse_out : (s.takeUse).out = s.out := rfl
@[simp] theorem State.takeUse_signals : (s.takeUse).signals = s.signals := rfl
@[simp] theorem State.takeUse_pending : (s.takeUse).pending = s.pending := rfl

@[simp] theorem State.startPass_chassis (n : Nat) : (s.startPass n).chassis = s.chassis := rfl
@[simp] theorem State.startPass_path (n : Nat) : (s.startPass n).path = s.path := rfl
@[simp] theorem State.startPass_settings (n : Nat) : (s.startPass n).settings = s.settings := rfl
@[simp] theorem State.startPass_regions (n : Nat) : (s.startPass n).regions = s.regions := rfl
@[simp] theorem State.startPass_map (n : Nat) : (s.startPass n).map = s.map := rfl
@[simp] theorem State.startPass_freeze (n : Nat) : (s.startPass n).freeze = s.freeze := rfl
@[simp] theorem State.startPass_feed (n : Nat) : (s.startPass n).feed = s.feed := rfl
@[simp] theorem State.startPass_link (n : Nat) : (s.startPass n).link = s.link := rfl
@[simp] theorem State.startPass_take (n : Nat) : (s.startPass n).take = s.take := rfl
@[simp] theorem State.startPass_faults (n : Nat) : (s.startPass n).faults = s.faults := rfl
@[simp] theorem State.startPass_session (n : Nat) : (s.startPass n).session = s.session := rfl
@[simp] theorem State.startPass_directive (n : Nat) : (s.startPass n).directive = s.directive := rfl
@[simp] theorem State.startPass_notices (n : Nat) : (s.startPass n).notices = s.notices := rfl
@[simp] theorem State.startPass_report (n : Nat) : (s.startPass n).report = s.report := rfl
@[simp] theorem State.startPass_out (n : Nat) : (s.startPass n).out = s.out := rfl
@[simp] theorem State.startPass_signals (n : Nat) : (s.startPass n).signals = s.signals := rfl
@[simp] theorem State.startPass_pending (n : Nat) : (s.startPass n).pending = s.pending := rfl
@[simp] theorem State.startPass_review_throttle (n : Nat) : (s.startPass n).review.throttle = s.review.throttle := rfl

@[simp] theorem State.enqueue_chassis (f : SeqFrame) : (s.enqueue f).chassis = s.chassis := rfl
@[simp] theorem State.enqueue_path (f : SeqFrame) : (s.enqueue f).path = s.path := rfl
@[simp] theorem State.enqueue_settings (f : SeqFrame) : (s.enqueue f).settings = s.settings := rfl
@[simp] theorem State.enqueue_regions (f : SeqFrame) : (s.enqueue f).regions = s.regions := rfl
@[simp] theorem State.enqueue_map (f : SeqFrame) : (s.enqueue f).map = s.map := rfl
@[simp] theorem State.enqueue_walker (f : SeqFrame) : (s.enqueue f).walker = s.walker := rfl
@[simp] theorem State.enqueue_freeze (f : SeqFrame) : (s.enqueue f).freeze = s.freeze := rfl
@[simp] theorem State.enqueue_link (f : SeqFrame) : (s.enqueue f).link = s.link := rfl
@[simp] theorem State.enqueue_take (f : SeqFrame) : (s.enqueue f).take = s.take := rfl
@[simp] theorem State.enqueue_faults (f : SeqFrame) : (s.enqueue f).faults = s.faults := rfl
@[simp] theorem State.enqueue_review (f : SeqFrame) : (s.enqueue f).review = s.review := rfl
@[simp] theorem State.enqueue_session (f : SeqFrame) : (s.enqueue f).session = s.session := rfl
@[simp] theorem State.enqueue_directive (f : SeqFrame) : (s.enqueue f).directive = s.directive := rfl
@[simp] theorem State.enqueue_notices (f : SeqFrame) : (s.enqueue f).notices = s.notices := rfl
@[simp] theorem State.enqueue_report (f : SeqFrame) : (s.enqueue f).report = s.report := rfl
@[simp] theorem State.enqueue_out (f : SeqFrame) : (s.enqueue f).out = s.out := rfl
@[simp] theorem State.enqueue_signals (f : SeqFrame) : (s.enqueue f).signals = s.signals := rfl
@[simp] theorem State.enqueue_pending (f : SeqFrame) : (s.enqueue f).pending = s.pending := rfl
@[simp] theorem State.enqueue_feed_window (f : SeqFrame) : (s.enqueue f).feed.window = s.feed.window := rfl

@[simp] theorem State.beginFlush_chassis : (s.beginFlush).chassis = s.chassis := rfl
@[simp] theorem State.beginFlush_path : (s.beginFlush).path = s.path := rfl
@[simp] theorem State.beginFlush_settings : (s.beginFlush).settings = s.settings := rfl
@[simp] theorem State.beginFlush_regions : (s.beginFlush).regions = s.regions := rfl
@[simp] theorem State.beginFlush_map : (s.beginFlush).map = s.map := rfl
@[simp] theorem State.beginFlush_walker : (s.beginFlush).walker = s.walker := rfl
@[simp] theorem State.beginFlush_feed : (s.beginFlush).feed = s.feed := rfl
@[simp] theorem State.beginFlush_link : (s.beginFlush).link = s.link := rfl
@[simp] theorem State.beginFlush_take : (s.beginFlush).take = s.take := rfl
@[simp] theorem State.beginFlush_faults : (s.beginFlush).faults = s.faults := rfl
@[simp] theorem State.beginFlush_review : (s.beginFlush).review = s.review := rfl
@[simp] theorem State.beginFlush_session : (s.beginFlush).session = s.session := rfl
@[simp] theorem State.beginFlush_directive : (s.beginFlush).directive = s.directive := rfl
@[simp] theorem State.beginFlush_notices : (s.beginFlush).notices = s.notices := rfl
@[simp] theorem State.beginFlush_report : (s.beginFlush).report = s.report := rfl
@[simp] theorem State.beginFlush_out : (s.beginFlush).out = s.out := rfl
@[simp] theorem State.beginFlush_signals : (s.beginFlush).signals = s.signals := rfl
@[simp] theorem State.beginFlush_pending : (s.beginFlush).pending = s.pending := rfl

@[simp] theorem State.dropEntry_chassis (a : Addr) : (s.dropEntry a).chassis = s.chassis := rfl
@[simp] theorem State.dropEntry_path (a : Addr) : (s.dropEntry a).path = s.path := rfl
@[simp] theorem State.dropEntry_settings (a : Addr) : (s.dropEntry a).settings = s.settings := rfl
@[simp] theorem State.dropEntry_regions (a : Addr) : (s.dropEntry a).regions = s.regions := rfl
@[simp] theorem State.dropEntry_map (a : Addr) : (s.dropEntry a).map = s.map := rfl
@[simp] theorem State.dropEntry_walker (a : Addr) : (s.dropEntry a).walker = s.walker := rfl
@[simp] theorem State.dropEntry_feed (a : Addr) : (s.dropEntry a).feed = s.feed := rfl
@[simp] theorem State.dropEntry_link (a : Addr) : (s.dropEntry a).link = s.link := rfl
@[simp] theorem State.dropEntry_take (a : Addr) : (s.dropEntry a).take = s.take := rfl
@[simp] theorem State.dropEntry_faults (a : Addr) : (s.dropEntry a).faults = s.faults := rfl
@[simp] theorem State.dropEntry_review (a : Addr) : (s.dropEntry a).review = s.review := rfl
@[simp] theorem State.dropEntry_session (a : Addr) : (s.dropEntry a).session = s.session := rfl
@[simp] theorem State.dropEntry_directive (a : Addr) : (s.dropEntry a).directive = s.directive := rfl
@[simp] theorem State.dropEntry_notices (a : Addr) : (s.dropEntry a).notices = s.notices := rfl
@[simp] theorem State.dropEntry_report (a : Addr) : (s.dropEntry a).report = s.report := rfl
@[simp] theorem State.dropEntry_out (a : Addr) : (s.dropEntry a).out = s.out := rfl
@[simp] theorem State.dropEntry_pending (a : Addr) : (s.dropEntry a).pending = s.pending := rfl

@[simp] theorem State.dropBuffers_chassis : (s.dropBuffers).chassis = s.chassis := rfl
@[simp] theorem State.dropBuffers_path : (s.dropBuffers).path = s.path := rfl
@[simp] theorem State.dropBuffers_settings : (s.dropBuffers).settings = s.settings := rfl
@[simp] theorem State.dropBuffers_regions : (s.dropBuffers).regions = s.regions := rfl
@[simp] theorem State.dropBuffers_map : (s.dropBuffers).map = s.map := rfl
@[simp] theorem State.dropBuffers_freeze : (s.dropBuffers).freeze = s.freeze := rfl
@[simp] theorem State.dropBuffers_feed : (s.dropBuffers).feed = s.feed := rfl
@[simp] theorem State.dropBuffers_link : (s.dropBuffers).link = s.link := rfl
@[simp] theorem State.dropBuffers_take : (s.dropBuffers).take = s.take := rfl
@[simp] theorem State.dropBuffers_faults : (s.dropBuffers).faults = s.faults := rfl
@[simp] theorem State.dropBuffers_review : (s.dropBuffers).review = s.review := rfl
@[simp] theorem State.dropBuffers_session : (s.dropBuffers).session = s.session := rfl
@[simp] theorem State.dropBuffers_directive : (s.dropBuffers).directive = s.directive := rfl
@[simp] theorem State.dropBuffers_notices : (s.dropBuffers).notices = s.notices := rfl
@[simp] theorem State.dropBuffers_report : (s.dropBuffers).report = s.report := rfl
@[simp] theorem State.dropBuffers_out : (s.dropBuffers).out = s.out := rfl
@[simp] theorem State.dropBuffers_signals : (s.dropBuffers).signals = s.signals := rfl
@[simp] theorem State.dropBuffers_pending : (s.dropBuffers).pending = s.pending := rfl

@[simp] theorem State.emptyQueues_chassis : (s.emptyQueues).chassis = s.chassis := rfl
@[simp] theorem State.emptyQueues_path : (s.emptyQueues).path = s.path := rfl
@[simp] theorem State.emptyQueues_settings : (s.emptyQueues).settings = s.settings := rfl
@[simp] theorem State.emptyQueues_regions : (s.emptyQueues).regions = s.regions := rfl
@[simp] theorem State.emptyQueues_map : (s.emptyQueues).map = s.map := rfl
@[simp] theorem State.emptyQueues_walker : (s.emptyQueues).walker = s.walker := rfl
@[simp] theorem State.emptyQueues_freeze : (s.emptyQueues).freeze = s.freeze := rfl
@[simp] theorem State.emptyQueues_link : (s.emptyQueues).link = s.link := rfl
@[simp] theorem State.emptyQueues_take : (s.emptyQueues).take = s.take := rfl
@[simp] theorem State.emptyQueues_faults : (s.emptyQueues).faults = s.faults := rfl
@[simp] theorem State.emptyQueues_review : (s.emptyQueues).review = s.review := rfl
@[simp] theorem State.emptyQueues_session : (s.emptyQueues).session = s.session := rfl
@[simp] theorem State.emptyQueues_directive : (s.emptyQueues).directive = s.directive := rfl
@[simp] theorem State.emptyQueues_notices : (s.emptyQueues).notices = s.notices := rfl
@[simp] theorem State.emptyQueues_report : (s.emptyQueues).report = s.report := rfl
@[simp] theorem State.emptyQueues_out : (s.emptyQueues).out = s.out := rfl
@[simp] theorem State.emptyQueues_signals : (s.emptyQueues).signals = s.signals := rfl
@[simp] theorem State.emptyQueues_pending : (s.emptyQueues).pending = s.pending := rfl

@[simp] theorem State.dropWork_chassis : (s.dropWork).chassis = s.chassis := rfl
@[simp] theorem State.dropWork_path : (s.dropWork).path = s.path := rfl
@[simp] theorem State.dropWork_settings : (s.dropWork).settings = s.settings := rfl
@[simp] theorem State.dropWork_regions : (s.dropWork).regions = s.regions := rfl
@[simp] theorem State.dropWork_map : (s.dropWork).map = s.map := rfl
@[simp] theorem State.dropWork_walker : (s.dropWork).walker = s.walker := rfl
@[simp] theorem State.dropWork_freeze : (s.dropWork).freeze = s.freeze := rfl
@[simp] theorem State.dropWork_feed : (s.dropWork).feed = s.feed := rfl
@[simp] theorem State.dropWork_link : (s.dropWork).link = s.link := rfl
@[simp] theorem State.dropWork_faults : (s.dropWork).faults = s.faults := rfl
@[simp] theorem State.dropWork_review : (s.dropWork).review = s.review := rfl
@[simp] theorem State.dropWork_session : (s.dropWork).session = s.session := rfl
@[simp] theorem State.dropWork_directive : (s.dropWork).directive = s.directive := rfl
@[simp] theorem State.dropWork_notices : (s.dropWork).notices = s.notices := rfl
@[simp] theorem State.dropWork_report : (s.dropWork).report = s.report := rfl
@[simp] theorem State.dropWork_out : (s.dropWork).out = s.out := rfl
@[simp] theorem State.dropWork_signals : (s.dropWork).signals = s.signals := rfl
@[simp] theorem State.dropWork_pending : (s.dropWork).pending = s.pending := rfl

@[simp] theorem State.countDiscard_chassis : (s.countDiscard).chassis = s.chassis := rfl
@[simp] theorem State.countDiscard_path : (s.countDiscard).path = s.path := rfl
@[simp] theorem State.countDiscard_settings : (s.countDiscard).settings = s.settings := rfl
@[simp] theorem State.countDiscard_regions : (s.countDiscard).regions = s.regions := rfl
@[simp] theorem State.countDiscard_map : (s.countDiscard).map = s.map := rfl
@[simp] theorem State.countDiscard_walker : (s.countDiscard).walker = s.walker := rfl
@[simp] theorem State.countDiscard_freeze : (s.countDiscard).freeze = s.freeze := rfl
@[simp] theorem State.countDiscard_feed : (s.countDiscard).feed = s.feed := rfl
@[simp] theorem State.countDiscard_take : (s.countDiscard).take = s.take := rfl
@[simp] theorem State.countDiscard_faults : (s.countDiscard).faults = s.faults := rfl
@[simp] theorem State.countDiscard_review : (s.countDiscard).review = s.review := rfl
@[simp] theorem State.countDiscard_session : (s.countDiscard).session = s.session := rfl
@[simp] theorem State.countDiscard_directive : (s.countDiscard).directive = s.directive := rfl
@[simp] theorem State.countDiscard_notices : (s.countDiscard).notices = s.notices := rfl
@[simp] theorem State.countDiscard_report : (s.countDiscard).report = s.report := rfl
@[simp] theorem State.countDiscard_out : (s.countDiscard).out = s.out := rfl
@[simp] theorem State.countDiscard_signals : (s.countDiscard).signals = s.signals := rfl
@[simp] theorem State.countDiscard_pending : (s.countDiscard).pending = s.pending := rfl
@[simp] theorem State.countDiscard_link_state : (s.countDiscard).link.state = s.link.state := rfl

@[simp] theorem State.enterDiscard_chassis : (s.enterDiscard).chassis = s.chassis := rfl
@[simp] theorem State.enterDiscard_path : (s.enterDiscard).path = s.path := rfl
@[simp] theorem State.enterDiscard_settings : (s.enterDiscard).settings = s.settings := rfl
@[simp] theorem State.enterDiscard_regions : (s.enterDiscard).regions = s.regions := rfl
@[simp] theorem State.enterDiscard_map : (s.enterDiscard).map = s.map := rfl
@[simp] theorem State.enterDiscard_walker : (s.enterDiscard).walker = s.walker := rfl
@[simp] theorem State.enterDiscard_freeze : (s.enterDiscard).freeze = s.freeze := rfl
@[simp] theorem State.enterDiscard_feed : (s.enterDiscard).feed = s.feed := rfl
@[simp] theorem State.enterDiscard_faults : (s.enterDiscard).faults = s.faults := rfl
@[simp] theorem State.enterDiscard_review : (s.enterDiscard).review = s.review := rfl
@[simp] theorem State.enterDiscard_session : (s.enterDiscard).session = s.session := rfl
@[simp] theorem State.enterDiscard_directive : (s.enterDiscard).directive = s.directive := rfl
@[simp] theorem State.enterDiscard_notices : (s.enterDiscard).notices = s.notices := rfl
@[simp] theorem State.enterDiscard_report : (s.enterDiscard).report = s.report := rfl
@[simp] theorem State.enterDiscard_out : (s.enterDiscard).out = s.out := rfl
@[simp] theorem State.enterDiscard_signals : (s.enterDiscard).signals = s.signals := rfl
@[simp] theorem State.enterDiscard_pending : (s.enterDiscard).pending = s.pending := rfl
@[simp] theorem State.enterDiscard_take_buffer : (s.enterDiscard).take.buffer = s.take.buffer := rfl
@[simp] theorem State.enterDiscard_take_apply : (s.enterDiscard).take.apply = s.take.apply := rfl
@[simp] theorem State.enterDiscard_take_fill : (s.enterDiscard).take.fill = s.take.fill := rfl
@[simp] theorem State.enterDiscard_link_state : (s.enterDiscard).link.state = s.link.state := rfl

@[simp] theorem State.sendClose_chassis (c : Option CloseReason) : (s.sendClose c).chassis = s.chassis := by
  unfold State.sendClose; (repeat' split) <;> rfl
@[simp] theorem State.sendClose_path (c : Option CloseReason) : (s.sendClose c).path = s.path := by
  unfold State.sendClose; (repeat' split) <;> rfl
@[simp] theorem State.sendClose_settings (c : Option CloseReason) : (s.sendClose c).settings = s.settings := by
  unfold State.sendClose; (repeat' split) <;> rfl
@[simp] theorem State.sendClose_regions (c : Option CloseReason) : (s.sendClose c).regions = s.regions := by
  unfold State.sendClose; (repeat' split) <;> rfl
@[simp] theorem State.sendClose_map (c : Option CloseReason) : (s.sendClose c).map = s.map := by
  unfold State.sendClose; (repeat' split) <;> rfl
@[simp] theorem State.sendClose_walker (c : Option CloseReason) : (s.sendClose c).walker = s.walker := by
  unfold State.sendClose; (repeat' split) <;> rfl
@[simp] theorem State.sendClose_freeze (c : Option CloseReason) : (s.sendClose c).freeze = s.freeze := by
  unfold State.sendClose; (repeat' split) <;> rfl
@[simp] theorem State.sendClose_feed (c : Option CloseReason) : (s.sendClose c).feed = s.feed := by
  unfold State.sendClose; (repeat' split) <;> rfl
@[simp] theorem State.sendClose_take (c : Option CloseReason) : (s.sendClose c).take = s.take := by
  unfold State.sendClose; (repeat' split) <;> rfl
@[simp] theorem State.sendClose_faults (c : Option CloseReason) : (s.sendClose c).faults = s.faults := by
  unfold State.sendClose; (repeat' split) <;> rfl
@[simp] theorem State.sendClose_review (c : Option CloseReason) : (s.sendClose c).review = s.review := by
  unfold State.sendClose; (repeat' split) <;> rfl
@[simp] theorem State.sendClose_session (c : Option CloseReason) : (s.sendClose c).session = s.session := by
  unfold State.sendClose; (repeat' split) <;> rfl
@[simp] theorem State.sendClose_directive (c : Option CloseReason) : (s.sendClose c).directive = s.directive := by
  unfold State.sendClose; (repeat' split) <;> rfl
@[simp] theorem State.sendClose_notices (c : Option CloseReason) : (s.sendClose c).notices = s.notices := by
  unfold State.sendClose; (repeat' split) <;> rfl
@[simp] theorem State.sendClose_report (c : Option CloseReason) : (s.sendClose c).report = s.report := by
  unfold State.sendClose; (repeat' split) <;> rfl
@[simp] theorem State.sendClose_signals (c : Option CloseReason) : (s.sendClose c).signals = s.signals := by
  unfold State.sendClose; (repeat' split) <;> rfl
@[simp] theorem State.sendClose_pending (c : Option CloseReason) : (s.sendClose c).pending = s.pending := by
  unfold State.sendClose; (repeat' split) <;> rfl
@[simp] theorem State.sendClose_out_mem (c : Option CloseReason) : (s.sendClose c).out.mem = s.out.mem := by
  unfold State.sendClose; (repeat' split) <;> rfl
@[simp] theorem State.sendClose_out_engine (c : Option CloseReason) : (s.sendClose c).out.engine = s.out.engine := by
  unfold State.sendClose; (repeat' split) <;> rfl
@[simp] theorem State.sendClose_link_state (c : Option CloseReason) : (s.sendClose c).link.state = s.link.state := by
  unfold State.sendClose; (repeat' split) <;> rfl

@[simp] theorem State.closeLink_chassis (c : Option CloseReason) : (s.closeLink c).chassis = s.chassis := by
  simp [State.closeLink]
@[simp] theorem State.closeLink_path (c : Option CloseReason) : (s.closeLink c).path = s.path := by
  simp [State.closeLink]
@[simp] theorem State.closeLink_settings (c : Option CloseReason) : (s.closeLink c).settings = s.settings := by
  simp [State.closeLink]
@[simp] theorem State.closeLink_regions (c : Option CloseReason) : (s.closeLink c).regions = s.regions := by
  simp [State.closeLink]
@[simp] theorem State.closeLink_map (c : Option CloseReason) : (s.closeLink c).map = s.map := by
  simp [State.closeLink]
@[simp] theorem State.closeLink_walker (c : Option CloseReason) : (s.closeLink c).walker = s.walker := by
  simp [State.closeLink]
@[simp] theorem State.closeLink_freeze (c : Option CloseReason) : (s.closeLink c).freeze = s.freeze := by
  simp [State.closeLink]
@[simp] theorem State.closeLink_faults (c : Option CloseReason) : (s.closeLink c).faults = s.faults := by
  simp [State.closeLink]
@[simp] theorem State.closeLink_review (c : Option CloseReason) : (s.closeLink c).review = s.review := by
  simp [State.closeLink]
@[simp] theorem State.closeLink_session (c : Option CloseReason) : (s.closeLink c).session = s.session := by
  simp [State.closeLink]
@[simp] theorem State.closeLink_directive (c : Option CloseReason) : (s.closeLink c).directive = s.directive := by
  simp [State.closeLink]
@[simp] theorem State.closeLink_notices (c : Option CloseReason) : (s.closeLink c).notices = s.notices := by
  simp [State.closeLink]
@[simp] theorem State.closeLink_report (c : Option CloseReason) : (s.closeLink c).report = s.report := by
  simp [State.closeLink]
/-- All that a session end drives at the link is the CLOSE it gives, on a link that was UP (R75). -/
theorem State.closeLink_out_link (c : Option CloseReason) :
    (s.closeLink c).out.link = s.out.link ++ (if s.link.state = .up then c.toList.map TxFrame.close else []) := by
  unfold State.closeLink State.sendClose
  (repeat' split) <;> simp [State.send]
@[simp] theorem State.closeLink_out_mem (c : Option CloseReason) : (s.closeLink c).out.mem = s.out.mem := by simp [State.closeLink]
@[simp] theorem State.closeLink_out_engine (c : Option CloseReason) : (s.closeLink c).out.engine = s.out.engine := by simp [State.closeLink]
@[simp] theorem State.closeLink_signals (c : Option CloseReason) : (s.closeLink c).signals = s.signals := by
  simp [State.closeLink]
@[simp] theorem State.closeLink_pending (c : Option CloseReason) : (s.closeLink c).pending = s.pending := by
  simp [State.closeLink]
@[simp] theorem State.closeLink_feed_queue (c : Option CloseReason) : (s.closeLink c).feed.queue = s.feed.queue := by
  simp [State.closeLink]
@[simp] theorem State.closeLink_feed_window (c : Option CloseReason) : (s.closeLink c).feed.window = s.feed.window := by
  simp [State.closeLink]
@[simp] theorem State.closeLink_take_buffer (c : Option CloseReason) : (s.closeLink c).take.buffer = s.take.buffer := by
  simp [State.closeLink, Take.inactive]
@[simp] theorem State.closeLink_take_apply (c : Option CloseReason) : (s.closeLink c).take.apply = s.take.apply := by
  simp [State.closeLink, Take.inactive]
@[simp] theorem State.closeLink_take_fill (c : Option CloseReason) : (s.closeLink c).take.fill = s.take.fill := by
  simp [State.closeLink, Take.inactive]

@[simp] theorem State.retrain_chassis : (s.retrain).chassis = s.chassis := rfl
@[simp] theorem State.retrain_path : (s.retrain).path = s.path := rfl
@[simp] theorem State.retrain_settings : (s.retrain).settings = s.settings := rfl
@[simp] theorem State.retrain_regions : (s.retrain).regions = s.regions := rfl
@[simp] theorem State.retrain_map : (s.retrain).map = s.map := rfl
@[simp] theorem State.retrain_walker : (s.retrain).walker = s.walker := rfl
@[simp] theorem State.retrain_freeze : (s.retrain).freeze = s.freeze := rfl
@[simp] theorem State.retrain_faults : (s.retrain).faults = s.faults := rfl
@[simp] theorem State.retrain_review : (s.retrain).review = s.review := rfl
@[simp] theorem State.retrain_session : (s.retrain).session = s.session := rfl
@[simp] theorem State.retrain_directive : (s.retrain).directive = s.directive := rfl
@[simp] theorem State.retrain_notices : (s.retrain).notices = s.notices := rfl
@[simp] theorem State.retrain_report : (s.retrain).report = s.report := rfl
@[simp] theorem State.retrain_out : (s.retrain).out = s.out := rfl
@[simp] theorem State.retrain_signals : (s.retrain).signals = s.signals := rfl
@[simp] theorem State.retrain_pending : (s.retrain).pending = s.pending := rfl
@[simp] theorem State.retrain_feed_queue : (s.retrain).feed.queue = s.feed.queue := rfl
@[simp] theorem State.retrain_feed_window : (s.retrain).feed.window = s.feed.window := rfl
@[simp] theorem State.retrain_take_buffer : (s.retrain).take.buffer = s.take.buffer := rfl
@[simp] theorem State.retrain_take_apply : (s.retrain).take.apply = s.take.apply := rfl
@[simp] theorem State.retrain_take_fill : (s.retrain).take.fill = s.take.fill := rfl

@[simp] theorem State.startNumberingFeed_chassis : (s.startNumberingFeed).chassis = s.chassis := rfl
@[simp] theorem State.startNumberingFeed_path : (s.startNumberingFeed).path = s.path := rfl
@[simp] theorem State.startNumberingFeed_settings : (s.startNumberingFeed).settings = s.settings := rfl
@[simp] theorem State.startNumberingFeed_regions : (s.startNumberingFeed).regions = s.regions := rfl
@[simp] theorem State.startNumberingFeed_map : (s.startNumberingFeed).map = s.map := rfl
@[simp] theorem State.startNumberingFeed_walker : (s.startNumberingFeed).walker = s.walker := rfl
@[simp] theorem State.startNumberingFeed_freeze : (s.startNumberingFeed).freeze = s.freeze := rfl
@[simp] theorem State.startNumberingFeed_take : (s.startNumberingFeed).take = s.take := rfl
@[simp] theorem State.startNumberingFeed_faults : (s.startNumberingFeed).faults = s.faults := rfl
@[simp] theorem State.startNumberingFeed_review : (s.startNumberingFeed).review = s.review := rfl
@[simp] theorem State.startNumberingFeed_session : (s.startNumberingFeed).session = s.session := rfl
@[simp] theorem State.startNumberingFeed_directive : (s.startNumberingFeed).directive = s.directive := rfl
@[simp] theorem State.startNumberingFeed_notices : (s.startNumberingFeed).notices = s.notices := rfl
@[simp] theorem State.startNumberingFeed_report : (s.startNumberingFeed).report = s.report := rfl
@[simp] theorem State.startNumberingFeed_out : (s.startNumberingFeed).out = s.out := rfl
@[simp] theorem State.startNumberingFeed_signals : (s.startNumberingFeed).signals = s.signals := rfl
@[simp] theorem State.startNumberingFeed_pending : (s.startNumberingFeed).pending = s.pending := rfl
@[simp] theorem State.startNumberingFeed_feed_queue : (s.startNumberingFeed).feed.queue = s.feed.queue := rfl
@[simp] theorem State.startNumberingFeed_link_state : (s.startNumberingFeed).link.state = s.link.state := rfl

@[simp] theorem State.startNumberingTake_chassis : (s.startNumberingTake).chassis = s.chassis := rfl
@[simp] theorem State.startNumberingTake_path : (s.startNumberingTake).path = s.path := rfl
@[simp] theorem State.startNumberingTake_settings : (s.startNumberingTake).settings = s.settings := rfl
@[simp] theorem State.startNumberingTake_regions : (s.startNumberingTake).regions = s.regions := rfl
@[simp] theorem State.startNumberingTake_map : (s.startNumberingTake).map = s.map := rfl
@[simp] theorem State.startNumberingTake_walker : (s.startNumberingTake).walker = s.walker := rfl
@[simp] theorem State.startNumberingTake_freeze : (s.startNumberingTake).freeze = s.freeze := rfl
@[simp] theorem State.startNumberingTake_feed : (s.startNumberingTake).feed = s.feed := rfl
@[simp] theorem State.startNumberingTake_faults : (s.startNumberingTake).faults = s.faults := rfl
@[simp] theorem State.startNumberingTake_review : (s.startNumberingTake).review = s.review := rfl
@[simp] theorem State.startNumberingTake_session : (s.startNumberingTake).session = s.session := rfl
@[simp] theorem State.startNumberingTake_directive : (s.startNumberingTake).directive = s.directive := rfl
@[simp] theorem State.startNumberingTake_notices : (s.startNumberingTake).notices = s.notices := rfl
@[simp] theorem State.startNumberingTake_report : (s.startNumberingTake).report = s.report := rfl
@[simp] theorem State.startNumberingTake_out : (s.startNumberingTake).out = s.out := rfl
@[simp] theorem State.startNumberingTake_signals : (s.startNumberingTake).signals = s.signals := rfl
@[simp] theorem State.startNumberingTake_pending : (s.startNumberingTake).pending = s.pending := rfl
@[simp] theorem State.startNumberingTake_take_apply : (s.startNumberingTake).take.apply = s.take.apply := rfl
@[simp] theorem State.startNumberingTake_take_fill : (s.startNumberingTake).take.fill = s.take.fill := rfl
@[simp] theorem State.startNumberingTake_link_state : (s.startNumberingTake).link.state = s.link.state := rfl

@[simp] theorem State.fresh_chassis : (s.fresh).chassis = s.chassis := rfl
@[simp] theorem State.fresh_path : (s.fresh).path = s.path := rfl
@[simp] theorem State.fresh_settings : (s.fresh).settings = s.settings := rfl
@[simp] theorem State.fresh_regions : (s.fresh).regions = s.regions := rfl
@[simp] theorem State.fresh_map : (s.fresh).map = s.map := rfl
@[simp] theorem State.fresh_walker : (s.fresh).walker = s.walker := rfl
@[simp] theorem State.fresh_freeze : (s.fresh).freeze = s.freeze := rfl
@[simp] theorem State.fresh_feed : (s.fresh).feed = s.feed := rfl
@[simp] theorem State.fresh_link : (s.fresh).link = s.link := rfl
@[simp] theorem State.fresh_take : (s.fresh).take = s.take := rfl
@[simp] theorem State.fresh_faults : (s.fresh).faults = s.faults := rfl
@[simp] theorem State.fresh_review : (s.fresh).review = s.review := rfl
@[simp] theorem State.fresh_session : (s.fresh).session = s.session := rfl
@[simp] theorem State.fresh_directive : (s.fresh).directive = s.directive := rfl
@[simp] theorem State.fresh_notices : (s.fresh).notices = s.notices := rfl
@[simp] theorem State.fresh_report : (s.fresh).report = s.report := rfl
@[simp] theorem State.fresh_signals : (s.fresh).signals = .none := rfl
@[simp] theorem State.fresh_pending : (s.fresh).pending = s.pending := rfl

@[simp] theorem State.clearSignals_chassis : (s.clearSignals).chassis = s.chassis := rfl
@[simp] theorem State.clearSignals_path : (s.clearSignals).path = s.path := rfl
@[simp] theorem State.clearSignals_settings : (s.clearSignals).settings = s.settings := rfl
@[simp] theorem State.clearSignals_regions : (s.clearSignals).regions = s.regions := rfl
@[simp] theorem State.clearSignals_map : (s.clearSignals).map = s.map := rfl
@[simp] theorem State.clearSignals_walker : (s.clearSignals).walker = s.walker := rfl
@[simp] theorem State.clearSignals_freeze : (s.clearSignals).freeze = s.freeze := rfl
@[simp] theorem State.clearSignals_feed : (s.clearSignals).feed = s.feed := rfl
@[simp] theorem State.clearSignals_link : (s.clearSignals).link = s.link := rfl
@[simp] theorem State.clearSignals_take : (s.clearSignals).take = s.take := rfl
@[simp] theorem State.clearSignals_faults : (s.clearSignals).faults = s.faults := rfl
@[simp] theorem State.clearSignals_review : (s.clearSignals).review = s.review := rfl
@[simp] theorem State.clearSignals_session : (s.clearSignals).session = s.session := rfl
@[simp] theorem State.clearSignals_directive : (s.clearSignals).directive = s.directive := rfl
@[simp] theorem State.clearSignals_notices : (s.clearSignals).notices = s.notices := rfl
@[simp] theorem State.clearSignals_report : (s.clearSignals).report = s.report := rfl
@[simp] theorem State.clearSignals_out : (s.clearSignals).out = s.out := rfl
@[simp] theorem State.clearSignals_pending : (s.clearSignals).pending = s.pending := rfl

end Sys2Proof.Machine
end

