-- ==== Sys2Proof/Laws/Shared.lean ====
section
/-! SUPPORT. What each shared operation with cases leaves as it was, field by field. -/

namespace Sys2Proof.Machine

open Sys2Proof

variable (s : State)

@[simp] theorem State.setState_chassis (st : SessState) : (s.setState st).chassis = s.chassis := by
  unfold State.setState; split <;> rfl
@[simp] theorem State.setState_path (st : SessState) : (s.setState st).path = s.path := by
  unfold State.setState; split <;> rfl
@[simp] theorem State.setState_settings (st : SessState) : (s.setState st).settings = s.settings := by
  unfold State.setState; split <;> rfl
@[simp] theorem State.setState_regions (st : SessState) : (s.setState st).regions = s.regions := by
  unfold State.setState; split <;> rfl
@[simp] theorem State.setState_map (st : SessState) : (s.setState st).map = s.map := by
  unfold State.setState; split <;> rfl
@[simp] theorem State.setState_walker (st : SessState) : (s.setState st).walker = s.walker := by
  unfold State.setState; split <;> rfl
@[simp] theorem State.setState_freeze (st : SessState) : (s.setState st).freeze = s.freeze := by
  unfold State.setState; split <;> rfl
@[simp] theorem State.setState_feed (st : SessState) : (s.setState st).feed = s.feed := by
  unfold State.setState; split <;> rfl
@[simp] theorem State.setState_link (st : SessState) : (s.setState st).link = s.link := by
  unfold State.setState; split <;> rfl
@[simp] theorem State.setState_take (st : SessState) : (s.setState st).take = s.take := by
  unfold State.setState; split <;> rfl
@[simp] theorem State.setState_faults (st : SessState) : (s.setState st).faults = s.faults := by
  unfold State.setState; split <;> rfl
@[simp] theorem State.setState_review (st : SessState) : (s.setState st).review = s.review := by
  unfold State.setState; split <;> rfl
@[simp] theorem State.setState_directive (st : SessState) : (s.setState st).directive = s.directive := by
  unfold State.setState; split <;> rfl
@[simp] theorem State.setState_report (st : SessState) : (s.setState st).report = s.report := by
  unfold State.setState; split <;> rfl
@[simp] theorem State.setState_out (st : SessState) : (s.setState st).out = s.out := by
  unfold State.setState; split <;> rfl
@[simp] theorem State.setState_pending (st : SessState) : (s.setState st).pending = s.pending := by
  unfold State.setState; split <;> rfl
@[simp] theorem State.setState_session_role (st : SessState) : (s.setState st).session.role = s.session.role := by
  unfold State.setState; split <;> rfl

@[simp] theorem State.setThrottle_chassis (n : Nat) : (s.setThrottle n).chassis = s.chassis := by
  unfold State.setThrottle; split <;> rfl
@[simp] theorem State.setThrottle_path (n : Nat) : (s.setThrottle n).path = s.path := by
  unfold State.setThrottle; split <;> rfl
@[simp] theorem State.setThrottle_settings (n : Nat) : (s.setThrottle n).settings = s.settings := by
  unfold State.setThrottle; split <;> rfl
@[simp] theorem State.setThrottle_regions (n : Nat) : (s.setThrottle n).regions = s.regions := by
  unfold State.setThrottle; split <;> rfl
@[simp] theorem State.setThrottle_map (n : Nat) : (s.setThrottle n).map = s.map := by
  unfold State.setThrottle; split <;> rfl
@[simp] theorem State.setThrottle_walker (n : Nat) : (s.setThrottle n).walker = s.walker := by
  unfold State.setThrottle; split <;> rfl
@[simp] theorem State.setThrottle_freeze (n : Nat) : (s.setThrottle n).freeze = s.freeze := by
  unfold State.setThrottle; split <;> rfl
@[simp] theorem State.setThrottle_feed (n : Nat) : (s.setThrottle n).feed = s.feed := by
  unfold State.setThrottle; split <;> rfl
@[simp] theorem State.setThrottle_link (n : Nat) : (s.setThrottle n).link = s.link := by
  unfold State.setThrottle; split <;> rfl
@[simp] theorem State.setThrottle_take (n : Nat) : (s.setThrottle n).take = s.take := by
  unfold State.setThrottle; split <;> rfl
@[simp] theorem State.setThrottle_faults (n : Nat) : (s.setThrottle n).faults = s.faults := by
  unfold State.setThrottle; split <;> rfl
@[simp] theorem State.setThrottle_session (n : Nat) : (s.setThrottle n).session = s.session := by
  unfold State.setThrottle; split <;> rfl
@[simp] theorem State.setThrottle_directive (n : Nat) : (s.setThrottle n).directive = s.directive := by
  unfold State.setThrottle; split <;> rfl
@[simp] theorem State.setThrottle_notices (n : Nat) : (s.setThrottle n).notices = s.notices := by
  unfold State.setThrottle; split <;> rfl
@[simp] theorem State.setThrottle_report (n : Nat) : (s.setThrottle n).report = s.report := by
  unfold State.setThrottle; split <;> rfl
@[simp] theorem State.setThrottle_out (n : Nat) : (s.setThrottle n).out = s.out := by
  unfold State.setThrottle; split <;> rfl
@[simp] theorem State.setThrottle_pending (n : Nat) : (s.setThrottle n).pending = s.pending := by
  unfold State.setThrottle; split <;> rfl
@[simp] theorem State.setThrottle_review_passNumber (n : Nat) : (s.setThrottle n).review.passNumber = s.review.passNumber := by
  unfold State.setThrottle; split <;> rfl

@[simp] theorem State.clearFault_chassis (n : Segment) : (s.clearFault n).chassis = s.chassis := by
  unfold State.clearFault; split <;> rfl
@[simp] theorem State.clearFault_path (n : Segment) : (s.clearFault n).path = s.path := by
  unfold State.clearFault; split <;> rfl
@[simp] theorem State.clearFault_settings (n : Segment) : (s.clearFault n).settings = s.settings := by
  unfold State.clearFault; split <;> rfl
@[simp] theorem State.clearFault_regions (n : Segment) : (s.clearFault n).regions = s.regions := by
  unfold State.clearFault; split <;> rfl
@[simp] theorem State.clearFault_map (n : Segment) : (s.clearFault n).map = s.map := by
  unfold State.clearFault; split <;> rfl
@[simp] theorem State.clearFault_walker (n : Segment) : (s.clearFault n).walker = s.walker := by
  unfold State.clearFault; split <;> rfl
@[simp] theorem State.clearFault_freeze (n : Segment) : (s.clearFault n).freeze = s.freeze := by
  unfold State.clearFault; split <;> rfl
@[simp] theorem State.clearFault_feed (n : Segment) : (s.clearFault n).feed = s.feed := by
  unfold State.clearFault; split <;> rfl
@[simp] theorem State.clearFault_link (n : Segment) : (s.clearFault n).link = s.link := by
  unfold State.clearFault; split <;> rfl
@[simp] theorem State.clearFault_take (n : Segment) : (s.clearFault n).take = s.take := by
  unfold State.clearFault; split <;> rfl
@[simp] theorem State.clearFault_review (n : Segment) : (s.clearFault n).review = s.review := by
  unfold State.clearFault; split <;> rfl
@[simp] theorem State.clearFault_session (n : Segment) : (s.clearFault n).session = s.session := by
  unfold State.clearFault; split <;> rfl
@[simp] theorem State.clearFault_directive (n : Segment) : (s.clearFault n).directive = s.directive := by
  unfold State.clearFault; split <;> rfl
@[simp] theorem State.clearFault_notices (n : Segment) : (s.clearFault n).notices = s.notices := by
  unfold State.clearFault; split <;> rfl
@[simp] theorem State.clearFault_report (n : Segment) : (s.clearFault n).report = s.report := by
  unfold State.clearFault; split <;> rfl
@[simp] theorem State.clearFault_out (n : Segment) : (s.clearFault n).out = s.out := by
  unfold State.clearFault; split <;> rfl
@[simp] theorem State.clearFault_pending (n : Segment) : (s.clearFault n).pending = s.pending := by
  unfold State.clearFault; split <;> rfl

@[simp] theorem State.verified_chassis (n : Segment) : (s.verified n).chassis = s.chassis := by simp [State.verified]
@[simp] theorem State.verified_path (n : Segment) : (s.verified n).path = s.path := by simp [State.verified]
@[simp] theorem State.verified_settings (n : Segment) : (s.verified n).settings = s.settings := by simp [State.verified]
@[simp] theorem State.verified_regions (n : Segment) : (s.verified n).regions = s.regions := by simp [State.verified]
@[simp] theorem State.verified_map (n : Segment) : (s.verified n).map = s.map := by simp [State.verified]
@[simp] theorem State.verified_walker (n : Segment) : (s.verified n).walker = s.walker := by simp [State.verified]
@[simp] theorem State.verified_freeze (n : Segment) : (s.verified n).freeze = s.freeze := by simp [State.verified]
@[simp] theorem State.verified_feed (n : Segment) : (s.verified n).feed = s.feed := by simp [State.verified]
@[simp] theorem State.verified_link (n : Segment) : (s.verified n).link = s.link := by simp [State.verified]
@[simp] theorem State.verified_take (n : Segment) : (s.verified n).take = s.take := by simp [State.verified]
@[simp] theorem State.verified_review (n : Segment) : (s.verified n).review = s.review := by simp [State.verified]
@[simp] theorem State.verified_session (n : Segment) : (s.verified n).session = s.session := by simp [State.verified]
@[simp] theorem State.verified_directive (n : Segment) : (s.verified n).directive = s.directive := by simp [State.verified]
@[simp] theorem State.verified_notices (n : Segment) : (s.verified n).notices = s.notices := by simp [State.verified]
@[simp] theorem State.verified_report (n : Segment) : (s.verified n).report = s.report := by simp [State.verified]
@[simp] theorem State.verified_out (n : Segment) : (s.verified n).out = s.out := by simp [State.verified]
@[simp] theorem State.verified_pending (n : Segment) : (s.verified n).pending = s.pending := by simp [State.verified]

@[simp] theorem State.verifyFailed_chassis (n : Segment) (c : Cause) : (s.verifyFailed n c).chassis = s.chassis := by simp [State.verifyFailed]
@[simp] theorem State.verifyFailed_path (n : Segment) (c : Cause) : (s.verifyFailed n c).path = s.path := by simp [State.verifyFailed]
@[simp] theorem State.verifyFailed_settings (n : Segment) (c : Cause) : (s.verifyFailed n c).settings = s.settings := by simp [State.verifyFailed]
@[simp] theorem State.verifyFailed_regions (n : Segment) (c : Cause) : (s.verifyFailed n c).regions = s.regions := by simp [State.verifyFailed]
@[simp] theorem State.verifyFailed_map (n : Segment) (c : Cause) : (s.verifyFailed n c).map = s.map := by simp [State.verifyFailed]
@[simp] theorem State.verifyFailed_walker (n : Segment) (c : Cause) : (s.verifyFailed n c).walker = s.walker := by simp [State.verifyFailed]
@[simp] theorem State.verifyFailed_freeze (n : Segment) (c : Cause) : (s.verifyFailed n c).freeze = s.freeze := by simp [State.verifyFailed]
@[simp] theorem State.verifyFailed_feed (n : Segment) (c : Cause) : (s.verifyFailed n c).feed = s.feed := by simp [State.verifyFailed]
@[simp] theorem State.verifyFailed_link (n : Segment) (c : Cause) : (s.verifyFailed n c).link = s.link := by simp [State.verifyFailed]
@[simp] theorem State.verifyFailed_review (n : Segment) (c : Cause) : (s.verifyFailed n c).review = s.review := by simp [State.verifyFailed]
@[simp] theorem State.verifyFailed_session (n : Segment) (c : Cause) : (s.verifyFailed n c).session = s.session := by simp [State.verifyFailed]
@[simp] theorem State.verifyFailed_directive (n : Segment) (c : Cause) : (s.verifyFailed n c).directive = s.directive := by simp [State.verifyFailed]
@[simp] theorem State.verifyFailed_report (n : Segment) (c : Cause) : (s.verifyFailed n c).report = s.report := by simp [State.verifyFailed]
@[simp] theorem State.verifyFailed_out (n : Segment) (c : Cause) : (s.verifyFailed n c).out = s.out := by simp [State.verifyFailed]
@[simp] theorem State.verifyFailed_pending (n : Segment) (c : Cause) : (s.verifyFailed n c).pending = s.pending := by simp [State.verifyFailed]
@[simp] theorem State.verifyFailed_take_buffer (n : Segment) (c : Cause) : (s.verifyFailed n c).take.buffer = s.take.buffer := rfl
@[simp] theorem State.verifyFailed_take_apply (n : Segment) (c : Cause) : (s.verifyFailed n c).take.apply = s.take.apply := rfl
@[simp] theorem State.verifyFailed_take_fill (n : Segment) (c : Cause) : (s.verifyFailed n c).take.fill = s.take.fill := rfl

@[simp] theorem State.heard_chassis : (s.heard).chassis = s.chassis := by
  unfold State.heard; split <;> rfl
@[simp] theorem State.heard_path : (s.heard).path = s.path := by
  unfold State.heard; split <;> rfl
@[simp] theorem State.heard_settings : (s.heard).settings = s.settings := by
  unfold State.heard; split <;> rfl
@[simp] theorem State.heard_regions : (s.heard).regions = s.regions := by
  unfold State.heard; split <;> rfl
@[simp] theorem State.heard_map : (s.heard).map = s.map := by
  unfold State.heard; split <;> rfl
@[simp] theorem State.heard_walker : (s.heard).walker = s.walker := by
  unfold State.heard; split <;> rfl
@[simp] theorem State.heard_freeze : (s.heard).freeze = s.freeze := by
  unfold State.heard; split <;> rfl
@[simp] theorem State.heard_feed : (s.heard).feed = s.feed := by
  unfold State.heard; split <;> rfl
@[simp] theorem State.heard_take : (s.heard).take = s.take := by
  unfold State.heard; split <;> rfl
@[simp] theorem State.heard_faults : (s.heard).faults = s.faults := by
  unfold State.heard; split <;> rfl
@[simp] theorem State.heard_review : (s.heard).review = s.review := by
  unfold State.heard; split <;> rfl
@[simp] theorem State.heard_session : (s.heard).session = s.session := by
  unfold State.heard; split <;> rfl
@[simp] theorem State.heard_directive : (s.heard).directive = s.directive := by
  unfold State.heard; split <;> rfl
@[simp] theorem State.heard_notices : (s.heard).notices = s.notices := by
  unfold State.heard; split <;> rfl
@[simp] theorem State.heard_report : (s.heard).report = s.report := by
  unfold State.heard; split <;> rfl
@[simp] theorem State.heard_out : (s.heard).out = s.out := by
  unfold State.heard; split <;> rfl
@[simp] theorem State.heard_signals : (s.heard).signals = s.signals := by
  unfold State.heard; split <;> rfl
@[simp] theorem State.heard_pending : (s.heard).pending = s.pending := by
  unfold State.heard; split <;> rfl
@[simp] theorem State.heard_link_state : (s.heard).link.state = s.link.state := by
  unfold State.heard; split <;> rfl

@[simp] theorem State.discardFrame_chassis : (s.discardFrame).chassis = s.chassis := by
  simp only [State.discardFrame]; (repeat' split) <;> simp
@[simp] theorem State.discardFrame_path : (s.discardFrame).path = s.path := by
  simp only [State.discardFrame]; (repeat' split) <;> simp
@[simp] theorem State.discardFrame_settings : (s.discardFrame).settings = s.settings := by
  simp only [State.discardFrame]; (repeat' split) <;> simp
@[simp] theorem State.discardFrame_regions : (s.discardFrame).regions = s.regions := by
  simp only [State.discardFrame]; (repeat' split) <;> simp
@[simp] theorem State.discardFrame_map : (s.discardFrame).map = s.map := by
  simp only [State.discardFrame]; (repeat' split) <;> simp
@[simp] theorem State.discardFrame_walker : (s.discardFrame).walker = s.walker := by
  simp only [State.discardFrame]; (repeat' split) <;> simp
@[simp] theorem State.discardFrame_freeze : (s.discardFrame).freeze = s.freeze := by
  simp only [State.discardFrame]; (repeat' split) <;> simp
@[simp] theorem State.discardFrame_feed : (s.discardFrame).feed = s.feed := by
  simp only [State.discardFrame]; (repeat' split) <;> simp
@[simp] theorem State.discardFrame_faults : (s.discardFrame).faults = s.faults := by
  simp only [State.discardFrame]; (repeat' split) <;> simp
@[simp] theorem State.discardFrame_review : (s.discardFrame).review = s.review := by
  simp only [State.discardFrame]; (repeat' split) <;> simp
@[simp] theorem State.discardFrame_session : (s.discardFrame).session = s.session := by
  simp only [State.discardFrame]; (repeat' split) <;> simp
@[simp] theorem State.discardFrame_directive : (s.discardFrame).directive = s.directive := by
  simp only [State.discardFrame]; (repeat' split) <;> simp
@[simp] theorem State.discardFrame_notices : (s.discardFrame).notices = s.notices := by
  simp only [State.discardFrame]; (repeat' split) <;> simp
@[simp] theorem State.discardFrame_report : (s.discardFrame).report = s.report := by
  simp only [State.discardFrame]; (repeat' split) <;> simp
@[simp] theorem State.discardFrame_out : (s.discardFrame).out = s.out := by
  simp only [State.discardFrame]; (repeat' split) <;> simp
@[simp] theorem State.discardFrame_signals : (s.discardFrame).signals = s.signals := by
  simp only [State.discardFrame]; (repeat' split) <;> simp
@[simp] theorem State.discardFrame_pending : (s.discardFrame).pending = s.pending := by
  simp only [State.discardFrame]; (repeat' split) <;> simp
@[simp] theorem State.discardFrame_link_state : (s.discardFrame).link.state = s.link.state := by
  simp only [State.discardFrame]; (repeat' split) <;> simp
@[simp] theorem State.discardFrame_take_buffer : (s.discardFrame).take.buffer = s.take.buffer := by
  simp only [State.discardFrame]; (repeat' split) <;> simp
@[simp] theorem State.discardFrame_take_apply : (s.discardFrame).take.apply = s.take.apply := by
  simp only [State.discardFrame]; (repeat' split) <;> simp
@[simp] theorem State.discardFrame_take_fill : (s.discardFrame).take.fill = s.take.fill := by
  simp only [State.discardFrame]; (repeat' split) <;> simp

@[simp] theorem State.reopen_chassis (b : Option Buffer) : (s.reopen b).chassis = s.chassis := by
  unfold State.reopen; split <;> rfl
@[simp] theorem State.reopen_path (b : Option Buffer) : (s.reopen b).path = s.path := by
  unfold State.reopen; split <;> rfl
@[simp] theorem State.reopen_settings (b : Option Buffer) : (s.reopen b).settings = s.settings := by
  unfold State.reopen; split <;> rfl
@[simp] theorem State.reopen_regions (b : Option Buffer) : (s.reopen b).regions = s.regions := by
  unfold State.reopen; split <;> rfl
@[simp] theorem State.reopen_walker (b : Option Buffer) : (s.reopen b).walker = s.walker := by
  unfold State.reopen; split <;> rfl
@[simp] theorem State.reopen_freeze (b : Option Buffer) : (s.reopen b).freeze = s.freeze := by
  unfold State.reopen; split <;> rfl
@[simp] theorem State.reopen_feed (b : Option Buffer) : (s.reopen b).feed = s.feed := by
  unfold State.reopen; split <;> rfl
@[simp] theorem State.reopen_link (b : Option Buffer) : (s.reopen b).link = s.link := by
  unfold State.reopen; split <;> rfl
@[simp] theorem State.reopen_take (b : Option Buffer) : (s.reopen b).take = s.take := by
  unfold State.reopen; split <;> rfl
@[simp] theorem State.reopen_faults (b : Option Buffer) : (s.reopen b).faults = s.faults := by
  unfold State.reopen; split <;> rfl
@[simp] theorem State.reopen_review (b : Option Buffer) : (s.reopen b).review = s.review := by
  unfold State.reopen; split <;> rfl
@[simp] theorem State.reopen_session (b : Option Buffer) : (s.reopen b).session = s.session := by
  unfold State.reopen; split <;> rfl
@[simp] theorem State.reopen_directive (b : Option Buffer) : (s.reopen b).directive = s.directive := by
  unfold State.reopen; split <;> rfl
@[simp] theorem State.reopen_notices (b : Option Buffer) : (s.reopen b).notices = s.notices := by
  unfold State.reopen; split <;> rfl
@[simp] theorem State.reopen_report (b : Option Buffer) : (s.reopen b).report = s.report := by
  unfold State.reopen; split <;> rfl
@[simp] theorem State.reopen_out (b : Option Buffer) : (s.reopen b).out = s.out := by
  unfold State.reopen; split <;> rfl
@[simp] theorem State.reopen_pending (b : Option Buffer) : (s.reopen b).pending = s.pending := by
  unfold State.reopen; split <;> rfl

@[simp] theorem State.offerInstep_chassis : (s.offerInstep).chassis = s.chassis := by
  unfold State.offerInstep; split <;> rfl
@[simp] theorem State.offerInstep_path : (s.offerInstep).path = s.path := by
  unfold State.offerInstep; split <;> rfl
@[simp] theorem State.offerInstep_settings : (s.offerInstep).settings = s.settings := by
  unfold State.offerInstep; split <;> rfl
@[simp] theorem State.offerInstep_regions : (s.offerInstep).regions = s.regions := by
  unfold State.offerInstep; split <;> rfl
@[simp] theorem State.offerInstep_map : (s.offerInstep).map = s.map := by
  unfold State.offerInstep; split <;> rfl
@[simp] theorem State.offerInstep_walker : (s.offerInstep).walker = s.walker := by
  unfold State.offerInstep; split <;> rfl
@[simp] theorem State.offerInstep_freeze : (s.offerInstep).freeze = s.freeze := by
  unfold State.offerInstep; split <;> rfl
@[simp] theorem State.offerInstep_link : (s.offerInstep).link = s.link := by
  unfold State.offerInstep; split <;> rfl
@[simp] theorem State.offerInstep_take : (s.offerInstep).take = s.take := by
  unfold State.offerInstep; split <;> rfl
@[simp] theorem State.offerInstep_faults : (s.offerInstep).faults = s.faults := by
  unfold State.offerInstep; split <;> rfl
@[simp] theorem State.offerInstep_review : (s.offerInstep).review = s.review := by
  unfold State.offerInstep; split <;> rfl
@[simp] theorem State.offerInstep_session : (s.offerInstep).session = s.session := by
  unfold State.offerInstep; split <;> rfl
@[simp] theorem State.offerInstep_directive : (s.offerInstep).directive = s.directive := by
  unfold State.offerInstep; split <;> rfl
@[simp] theorem State.offerInstep_notices : (s.offerInstep).notices = s.notices := by
  unfold State.offerInstep; split <;> rfl
@[simp] theorem State.offerInstep_report : (s.offerInstep).report = s.report := by
  unfold State.offerInstep; split <;> rfl
@[simp] theorem State.offerInstep_out : (s.offerInstep).out = s.out := by
  unfold State.offerInstep; split <;> rfl
@[simp] theorem State.offerInstep_signals : (s.offerInstep).signals = s.signals := by
  unfold State.offerInstep; split <;> rfl
@[simp] theorem State.offerInstep_pending : (s.offerInstep).pending = s.pending := by
  unfold State.offerInstep; split <;> rfl
@[simp] theorem State.offerInstep_feed_window : (s.offerInstep).feed.window = s.feed.window := by
  unfold State.offerInstep; split <;> rfl

@[simp] theorem State.tryInstep_chassis : (s.tryInstep).chassis = s.chassis := by
  unfold State.tryInstep; split <;> simp
@[simp] theorem State.tryInstep_path : (s.tryInstep).path = s.path := by
  unfold State.tryInstep; split <;> simp
@[simp] theorem State.tryInstep_settings : (s.tryInstep).settings = s.settings := by
  unfold State.tryInstep; split <;> simp
@[simp] theorem State.tryInstep_regions : (s.tryInstep).regions = s.regions := by
  unfold State.tryInstep; split <;> simp
@[simp] theorem State.tryInstep_map : (s.tryInstep).map = s.map := by
  unfold State.tryInstep; split <;> simp
@[simp] theorem State.tryInstep_walker : (s.tryInstep).walker = s.walker := by
  unfold State.tryInstep; split <;> simp
@[simp] theorem State.tryInstep_freeze : (s.tryInstep).freeze = s.freeze := by
  unfold State.tryInstep; split <;> simp
@[simp] theorem State.tryInstep_link : (s.tryInstep).link = s.link := by
  unfold State.tryInstep; split <;> simp
@[simp] theorem State.tryInstep_take : (s.tryInstep).take = s.take := by
  unfold State.tryInstep; split <;> simp
@[simp] theorem State.tryInstep_faults : (s.tryInstep).faults = s.faults := by
  unfold State.tryInstep; split <;> simp
@[simp] theorem State.tryInstep_review : (s.tryInstep).review = s.review := by
  unfold State.tryInstep; split <;> simp
@[simp] theorem State.tryInstep_session : (s.tryInstep).session = s.session := by
  unfold State.tryInstep; split <;> simp
@[simp] theorem State.tryInstep_directive : (s.tryInstep).directive = s.directive := by
  unfold State.tryInstep; split <;> simp
@[simp] theorem State.tryInstep_notices : (s.tryInstep).notices = s.notices := by
  unfold State.tryInstep; split <;> simp
@[simp] theorem State.tryInstep_report : (s.tryInstep).report = s.report := by
  unfold State.tryInstep; split <;> simp
@[simp] theorem State.tryInstep_out : (s.tryInstep).out = s.out := by
  unfold State.tryInstep; split <;> simp
@[simp] theorem State.tryInstep_signals : (s.tryInstep).signals = s.signals := by
  unfold State.tryInstep; split <;> simp
@[simp] theorem State.tryInstep_pending : (s.tryInstep).pending = s.pending := by
  unfold State.tryInstep; split <;> simp
@[simp] theorem State.tryInstep_feed_window : (s.tryInstep).feed.window = s.feed.window := by
  unfold State.tryInstep; split <;> simp

@[simp] theorem State.offerStale_chassis : (s.offerStale).chassis = s.chassis := by
  unfold State.offerStale; split <;> rfl
@[simp] theorem State.offerStale_path : (s.offerStale).path = s.path := by
  unfold State.offerStale; split <;> rfl
@[simp] theorem State.offerStale_settings : (s.offerStale).settings = s.settings := by
  unfold State.offerStale; split <;> rfl
@[simp] theorem State.offerStale_regions : (s.offerStale).regions = s.regions := by
  unfold State.offerStale; split <;> rfl
@[simp] theorem State.offerStale_map : (s.offerStale).map = s.map := by
  unfold State.offerStale; split <;> rfl
@[simp] theorem State.offerStale_walker : (s.offerStale).walker = s.walker := by
  unfold State.offerStale; split <;> rfl
@[simp] theorem State.offerStale_freeze : (s.offerStale).freeze = s.freeze := by
  unfold State.offerStale; split <;> rfl
@[simp] theorem State.offerStale_link : (s.offerStale).link = s.link := by
  unfold State.offerStale; split <;> rfl
@[simp] theorem State.offerStale_take : (s.offerStale).take = s.take := by
  unfold State.offerStale; split <;> rfl
@[simp] theorem State.offerStale_faults : (s.offerStale).faults = s.faults := by
  unfold State.offerStale; split <;> rfl
@[simp] theorem State.offerStale_review : (s.offerStale).review = s.review := by
  unfold State.offerStale; split <;> rfl
@[simp] theorem State.offerStale_directive : (s.offerStale).directive = s.directive := by
  unfold State.offerStale; split <;> rfl
@[simp] theorem State.offerStale_notices : (s.offerStale).notices = s.notices := by
  unfold State.offerStale; split <;> rfl
@[simp] theorem State.offerStale_report : (s.offerStale).report = s.report := by
  unfold State.offerStale; split <;> rfl
@[simp] theorem State.offerStale_out : (s.offerStale).out = s.out := by
  unfold State.offerStale; split <;> rfl
@[simp] theorem State.offerStale_signals : (s.offerStale).signals = s.signals := by
  unfold State.offerStale; split <;> rfl
@[simp] theorem State.offerStale_pending : (s.offerStale).pending = s.pending := by
  unfold State.offerStale; split <;> rfl
@[simp] theorem State.offerStale_feed_window : (s.offerStale).feed.window = s.feed.window := by
  unfold State.offerStale; split <;> rfl
@[simp] theorem State.offerStale_session_role : (s.offerStale).session.role = s.session.role := by
  unfold State.offerStale; split <;> rfl
@[simp] theorem State.offerStale_session_state : (s.offerStale).session.state = s.session.state := by
  unfold State.offerStale; split <;> rfl

@[simp] theorem State.enterHandover_chassis : (s.enterHandover).chassis = s.chassis := by simp [State.enterHandover]
@[simp] theorem State.enterHandover_path : (s.enterHandover).path = s.path := by simp [State.enterHandover]
@[simp] theorem State.enterHandover_settings : (s.enterHandover).settings = s.settings := by simp [State.enterHandover]
@[simp] theorem State.enterHandover_regions : (s.enterHandover).regions = s.regions := by simp [State.enterHandover]
@[simp] theorem State.enterHandover_map : (s.enterHandover).map = s.map := by simp [State.enterHandover]
@[simp] theorem State.enterHandover_walker : (s.enterHandover).walker = s.walker := by simp [State.enterHandover]
@[simp] theorem State.enterHandover_feed : (s.enterHandover).feed = s.feed := by simp [State.enterHandover]
@[simp] theorem State.enterHandover_link : (s.enterHandover).link = s.link := by simp [State.enterHandover]
@[simp] theorem State.enterHandover_take : (s.enterHandover).take = s.take := by simp [State.enterHandover]
@[simp] theorem State.enterHandover_faults : (s.enterHandover).faults = s.faults := by simp [State.enterHandover]
@[simp] theorem State.enterHandover_review : (s.enterHandover).review = s.review := by simp [State.enterHandover]
@[simp] theorem State.enterHandover_directive : (s.enterHandover).directive = s.directive := by simp [State.enterHandover]
@[simp] theorem State.enterHandover_report : (s.enterHandover).report = s.report := by simp [State.enterHandover]
@[simp] theorem State.enterHandover_out : (s.enterHandover).out = s.out := by simp [State.enterHandover]
@[simp] theorem State.enterHandover_pending : (s.enterHandover).pending = s.pending := by simp [State.enterHandover]
@[simp] theorem State.enterHandover_freeze_entries : (s.enterHandover).freeze.entries = s.freeze.entries := by simp [State.enterHandover]
@[simp] theorem State.enterHandover_session_role : (s.enterHandover).session.role = s.session.role := by simp [State.enterHandover]

@[simp] theorem State.enterSteady_chassis : (s.enterSteady).chassis = s.chassis := by simp [State.enterSteady]
@[simp] theorem State.enterSteady_path : (s.enterSteady).path = s.path := by simp [State.enterSteady]
@[simp] theorem State.enterSteady_settings : (s.enterSteady).settings = s.settings := by simp [State.enterSteady]
@[simp] theorem State.enterSteady_regions : (s.enterSteady).regions = s.regions := by simp [State.enterSteady]
@[simp] theorem State.enterSteady_map : (s.enterSteady).map = s.map := by simp [State.enterSteady]
@[simp] theorem State.enterSteady_freeze : (s.enterSteady).freeze = s.freeze := by simp [State.enterSteady]
@[simp] theorem State.enterSteady_feed : (s.enterSteady).feed = s.feed := by simp [State.enterSteady]
@[simp] theorem State.enterSteady_link : (s.enterSteady).link = s.link := by simp [State.enterSteady]
@[simp] theorem State.enterSteady_take : (s.enterSteady).take = s.take := by simp [State.enterSteady]
@[simp] theorem State.enterSteady_faults : (s.enterSteady).faults = s.faults := by simp [State.enterSteady]
@[simp] theorem State.enterSteady_directive : (s.enterSteady).directive = s.directive := by simp [State.enterSteady]
@[simp] theorem State.enterSteady_report : (s.enterSteady).report = s.report := by simp [State.enterSteady]
@[simp] theorem State.enterSteady_out : (s.enterSteady).out = s.out := by simp [State.enterSteady]
@[simp] theorem State.enterSteady_pending : (s.enterSteady).pending = s.pending := by simp [State.enterSteady]
@[simp] theorem State.enterSteady_review_passNumber : (s.enterSteady).review.passNumber = s.review.passNumber := by simp [State.enterSteady]
@[simp] theorem State.enterSteady_session_role : (s.enterSteady).session.role = s.session.role := by simp [State.enterSteady]

@[simp] theorem State.enterFreeze_chassis : (s.enterFreeze).chassis = s.chassis := by simp [State.enterFreeze]
@[simp] theorem State.enterFreeze_path : (s.enterFreeze).path = s.path := by simp [State.enterFreeze]
@[simp] theorem State.enterFreeze_settings : (s.enterFreeze).settings = s.settings := by simp [State.enterFreeze]
@[simp] theorem State.enterFreeze_regions : (s.enterFreeze).regions = s.regions := by simp [State.enterFreeze]
@[simp] theorem State.enterFreeze_map : (s.enterFreeze).map = s.map := by simp [State.enterFreeze]
@[simp] theorem State.enterFreeze_feed : (s.enterFreeze).feed = s.feed := by simp [State.enterFreeze]
@[simp] theorem State.enterFreeze_link : (s.enterFreeze).link = s.link := by simp [State.enterFreeze]
@[simp] theorem State.enterFreeze_take : (s.enterFreeze).take = s.take := by simp [State.enterFreeze]
@[simp] theorem State.enterFreeze_faults : (s.enterFreeze).faults = s.faults := by simp [State.enterFreeze]
@[simp] theorem State.enterFreeze_review : (s.enterFreeze).review = s.review := by simp [State.enterFreeze]
@[simp] theorem State.enterFreeze_directive : (s.enterFreeze).directive = s.directive := by simp [State.enterFreeze]
@[simp] theorem State.enterFreeze_report : (s.enterFreeze).report = s.report := by simp [State.enterFreeze]
@[simp] theorem State.enterFreeze_out : (s.enterFreeze).out = s.out := by simp [State.enterFreeze]
@[simp] theorem State.enterFreeze_pending : (s.enterFreeze).pending = s.pending := by simp [State.enterFreeze]
@[simp] theorem State.enterFreeze_freeze_entries : (s.enterFreeze).freeze.entries = s.freeze.entries := by simp [State.enterFreeze]
@[simp] theorem State.enterFreeze_session_role : (s.enterFreeze).session.role = s.session.role := by simp [State.enterFreeze]

@[simp] theorem State.endReplay_chassis : (s.endReplay).chassis = s.chassis := by
  simp only [State.endReplay]; (repeat' split) <;> simp
@[simp] theorem State.endReplay_path : (s.endReplay).path = s.path := by
  simp only [State.endReplay]; (repeat' split) <;> simp
@[simp] theorem State.endReplay_settings : (s.endReplay).settings = s.settings := by
  simp only [State.endReplay]; (repeat' split) <;> simp
@[simp] theorem State.endReplay_regions : (s.endReplay).regions = s.regions := by
  simp only [State.endReplay]; (repeat' split) <;> simp
@[simp] theorem State.endReplay_map : (s.endReplay).map = s.map := by
  simp only [State.endReplay]; (repeat' split) <;> simp
@[simp] theorem State.endReplay_feed : (s.endReplay).feed = s.feed := by
  simp only [State.endReplay]; (repeat' split) <;> simp
@[simp] theorem State.endReplay_link : (s.endReplay).link = s.link := by
  simp only [State.endReplay]; (repeat' split) <;> simp
@[simp] theorem State.endReplay_take : (s.endReplay).take = s.take := by
  simp only [State.endReplay]; (repeat' split) <;> simp
@[simp] theorem State.endReplay_faults : (s.endReplay).faults = s.faults := by
  simp only [State.endReplay]; (repeat' split) <;> simp
@[simp] theorem State.endReplay_directive : (s.endReplay).directive = s.directive := by
  simp only [State.endReplay]; (repeat' split) <;> simp
@[simp] theorem State.endReplay_report : (s.endReplay).report = s.report := by
  simp only [State.endReplay]; (repeat' split) <;> simp
@[simp] theorem State.endReplay_out : (s.endReplay).out = s.out := by
  simp only [State.endReplay]; (repeat' split) <;> simp
@[simp] theorem State.endReplay_pending : (s.endReplay).pending = s.pending := by
  simp only [State.endReplay]; (repeat' split) <;> simp
@[simp] theorem State.endReplay_freeze_entries : (s.endReplay).freeze.entries = s.freeze.entries := by
  simp only [State.endReplay]; (repeat' split) <;> simp
@[simp] theorem State.endReplay_review_passNumber : (s.endReplay).review.passNumber = s.review.passNumber := by
  simp only [State.endReplay]; (repeat' split) <;> simp
@[simp] theorem State.endReplay_session_role : (s.endReplay).session.role = s.session.role := by
  simp only [State.endReplay]; (repeat' split) <;> simp

@[simp] theorem State.requestHandover_chassis : (s.requestHandover).chassis = s.chassis := by
  unfold State.requestHandover; (repeat' split) <;> simp
@[simp] theorem State.requestHandover_path : (s.requestHandover).path = s.path := by
  unfold State.requestHandover; (repeat' split) <;> simp
@[simp] theorem State.requestHandover_settings : (s.requestHandover).settings = s.settings := by
  unfold State.requestHandover; (repeat' split) <;> simp
@[simp] theorem State.requestHandover_regions : (s.requestHandover).regions = s.regions := by
  unfold State.requestHandover; (repeat' split) <;> simp
@[simp] theorem State.requestHandover_map : (s.requestHandover).map = s.map := by
  unfold State.requestHandover; (repeat' split) <;> simp
@[simp] theorem State.requestHandover_walker : (s.requestHandover).walker = s.walker := by
  unfold State.requestHandover; (repeat' split) <;> simp
@[simp] theorem State.requestHandover_feed : (s.requestHandover).feed = s.feed := by
  unfold State.requestHandover; (repeat' split) <;> simp
@[simp] theorem State.requestHandover_link : (s.requestHandover).link = s.link := by
  unfold State.requestHandover; (repeat' split) <;> simp
@[simp] theorem State.requestHandover_take : (s.requestHandover).take = s.take := by
  unfold State.requestHandover; (repeat' split) <;> simp
@[simp] theorem State.requestHandover_faults : (s.requestHandover).faults = s.faults := by
  unfold State.requestHandover; (repeat' split) <;> simp
@[simp] theorem State.requestHandover_review : (s.requestHandover).review = s.review := by
  unfold State.requestHandover; (repeat' split) <;> simp
@[simp] theorem State.requestHandover_directive : (s.requestHandover).directive = s.directive := by
  unfold State.requestHandover; (repeat' split) <;> simp
@[simp] theorem State.requestHandover_report : (s.requestHandover).report = s.report := by
  unfold State.requestHandover; (repeat' split) <;> simp
@[simp] theorem State.requestHandover_out : (s.requestHandover).out = s.out := by
  unfold State.requestHandover; (repeat' split) <;> simp
@[simp] theorem State.requestHandover_pending : (s.requestHandover).pending = s.pending := by
  unfold State.requestHandover; (repeat' split) <;> simp
@[simp] theorem State.requestHandover_freeze_entries : (s.requestHandover).freeze.entries = s.freeze.entries := by
  unfold State.requestHandover; (repeat' split) <;> simp
@[simp] theorem State.requestHandover_session_role : (s.requestHandover).session.role = s.session.role := by
  unfold State.requestHandover; (repeat' split) <;> simp

@[simp] theorem State.endFeed_chassis (c : Option CloseReason) : (s.endFeed c).chassis = s.chassis := by simp [State.endFeed]
@[simp] theorem State.endFeed_path (c : Option CloseReason) : (s.endFeed c).path = s.path := by simp [State.endFeed]
@[simp] theorem State.endFeed_settings (c : Option CloseReason) : (s.endFeed c).settings = s.settings := by simp [State.endFeed]
@[simp] theorem State.endFeed_regions (c : Option CloseReason) : (s.endFeed c).regions = s.regions := by simp [State.endFeed]
@[simp] theorem State.endFeed_faults (c : Option CloseReason) : (s.endFeed c).faults = s.faults := by simp [State.endFeed]
@[simp] theorem State.endFeed_directive (c : Option CloseReason) : (s.endFeed c).directive = s.directive := by simp [State.endFeed]
@[simp] theorem State.endFeed_report (c : Option CloseReason) : (s.endFeed c).report = s.report := by simp [State.endFeed]
@[simp] theorem State.endFeed_out_mem (c : Option CloseReason) : (s.endFeed c).out.mem = s.out.mem := by simp [State.endFeed]
@[simp] theorem State.endFeed_out_engine (c : Option CloseReason) : (s.endFeed c).out.engine = s.out.engine := by simp [State.endFeed]
/-- What the end of a feed session sends (R75, R157). -/
theorem State.endFeed_out_link (c : Option CloseReason) :
    (s.endFeed c).out.link = s.out.link ++ (if s.link.state = .up then c.toList.map TxFrame.close else []) := by
  simp [State.endFeed, State.closeLink_out_link, State.beginFlush, State.clearMap, State.dropBuffers, State.emptyQueues]
@[simp] theorem State.endFeed_pending (c : Option CloseReason) : (s.endFeed c).pending = s.pending := by simp [State.endFeed]
@[simp] theorem State.endFeed_take_buffer (c : Option CloseReason) : (s.endFeed c).take.buffer = s.take.buffer := by simp [State.endFeed]
@[simp] theorem State.endFeed_take_apply (c : Option CloseReason) : (s.endFeed c).take.apply = s.take.apply := by simp [State.endFeed]
@[simp] theorem State.endFeed_take_fill (c : Option CloseReason) : (s.endFeed c).take.fill = s.take.fill := by simp [State.endFeed]
@[simp] theorem State.endFeed_review_passNumber (c : Option CloseReason) : (s.endFeed c).review.passNumber = s.review.passNumber := by simp [State.endFeed]
@[simp] theorem State.endFeed_session_role (c : Option CloseReason) : (s.endFeed c).session.role = s.session.role := by simp [State.endFeed]

@[simp] theorem State.endTake_chassis (c : Option CloseReason) : (s.endTake c).chassis = s.chassis := by simp [State.endTake]
@[simp] theorem State.endTake_path (c : Option CloseReason) : (s.endTake c).path = s.path := by simp [State.endTake]
@[simp] theorem State.endTake_settings (c : Option CloseReason) : (s.endTake c).settings = s.settings := by simp [State.endTake]
@[simp] theorem State.endTake_regions (c : Option CloseReason) : (s.endTake c).regions = s.regions := by simp [State.endTake]
@[simp] theorem State.endTake_map (c : Option CloseReason) : (s.endTake c).map = s.map := by simp [State.endTake]
@[simp] theorem State.endTake_walker (c : Option CloseReason) : (s.endTake c).walker = s.walker := by simp [State.endTake]
@[simp] theorem State.endTake_freeze (c : Option CloseReason) : (s.endTake c).freeze = s.freeze := by simp [State.endTake]
@[simp] theorem State.endTake_faults (c : Option CloseReason) : (s.endTake c).faults = s.faults := by simp [State.endTake]
@[simp] theorem State.endTake_review (c : Option CloseReason) : (s.endTake c).review = s.review := by simp [State.endTake]
@[simp] theorem State.endTake_directive (c : Option CloseReason) : (s.endTake c).directive = s.directive := by simp [State.endTake]
@[simp] theorem State.endTake_report (c : Option CloseReason) : (s.endTake c).report = s.report := by simp [State.endTake]
@[simp] theorem State.endTake_out_mem (c : Option CloseReason) : (s.endTake c).out.mem = s.out.mem := by simp [State.endTake]
@[simp] theorem State.endTake_out_engine (c : Option CloseReason) : (s.endTake c).out.engine = s.out.engine := by simp [State.endTake]
/-- What the end of a take session sends (R75, R162). -/
theorem State.endTake_out_link (c : Option CloseReason) :
    (s.endTake c).out.link = s.out.link ++ (if s.link.state = .up then c.toList.map TxFrame.close else []) := by
  simp [State.endTake, State.closeLink_out_link, State.dropWork]
@[simp] theorem State.endTake_pending (c : Option CloseReason) : (s.endTake c).pending = s.pending := by simp [State.endTake]
@[simp] theorem State.endTake_feed_queue (c : Option CloseReason) : (s.endTake c).feed.queue = s.feed.queue := by simp [State.endTake]
@[simp] theorem State.endTake_feed_window (c : Option CloseReason) : (s.endTake c).feed.window = s.feed.window := by simp [State.endTake]
@[simp] theorem State.endTake_session_role (c : Option CloseReason) : (s.endTake c).session.role = s.session.role := by simp [State.endTake]

@[simp] theorem State.endSession_chassis (c : Option CloseReason) : (s.endSession c).chassis = s.chassis := by
  unfold State.endSession; (repeat' split) <;> simp
@[simp] theorem State.endSession_path (c : Option CloseReason) : (s.endSession c).path = s.path := by
  unfold State.endSession; (repeat' split) <;> simp
@[simp] theorem State.endSession_settings (c : Option CloseReason) : (s.endSession c).settings = s.settings := by
  unfold State.endSession; (repeat' split) <;> simp
@[simp] theorem State.endSession_regions (c : Option CloseReason) : (s.endSession c).regions = s.regions := by
  unfold State.endSession; (repeat' split) <;> simp
@[simp] theorem State.endSession_faults (c : Option CloseReason) : (s.endSession c).faults = s.faults := by
  unfold State.endSession; (repeat' split) <;> simp
@[simp] theorem State.endSession_directive (c : Option CloseReason) : (s.endSession c).directive = s.directive := by
  unfold State.endSession; (repeat' split) <;> simp
@[simp] theorem State.endSession_report (c : Option CloseReason) : (s.endSession c).report = s.report := by
  unfold State.endSession; (repeat' split) <;> simp
@[simp] theorem State.endSession_out_mem (c : Option CloseReason) : (s.endSession c).out.mem = s.out.mem := by
  unfold State.endSession; (repeat' split) <;> simp
@[simp] theorem State.endSession_out_engine (c : Option CloseReason) : (s.endSession c).out.engine = s.out.engine := by
  unfold State.endSession; (repeat' split) <;> simp
@[simp] theorem State.endSession_pending (c : Option CloseReason) : (s.endSession c).pending = s.pending := by
  unfold State.endSession; (repeat' split) <;> simp
@[simp] theorem State.endSession_review_passNumber (c : Option CloseReason) : (s.endSession c).review.passNumber = s.review.passNumber := by
  unfold State.endSession; (repeat' split) <;> simp
@[simp] theorem State.endSession_session_role (c : Option CloseReason) : (s.endSession c).session.role = s.session.role := by
  unfold State.endSession; (repeat' split) <;> simp

@[simp] theorem State.enterHeld_chassis : (s.enterHeld).chassis = s.chassis := by simp [State.enterHeld]
@[simp] theorem State.enterHeld_path : (s.enterHeld).path = s.path := by simp [State.enterHeld]
@[simp] theorem State.enterHeld_settings : (s.enterHeld).settings = s.settings := by simp [State.enterHeld]
@[simp] theorem State.enterHeld_regions : (s.enterHeld).regions = s.regions := by simp [State.enterHeld]
@[simp] theorem State.enterHeld_map : (s.enterHeld).map = s.map := by simp [State.enterHeld]
@[simp] theorem State.enterHeld_walker : (s.enterHeld).walker = s.walker := by simp [State.enterHeld]
@[simp] theorem State.enterHeld_freeze : (s.enterHeld).freeze = s.freeze := by simp [State.enterHeld]
@[simp] theorem State.enterHeld_feed : (s.enterHeld).feed = s.feed := by simp [State.enterHeld]
@[simp] theorem State.enterHeld_link : (s.enterHeld).link = s.link := by simp [State.enterHeld]
@[simp] theorem State.enterHeld_faults : (s.enterHeld).faults = s.faults := by simp [State.enterHeld]
@[simp] theorem State.enterHeld_review : (s.enterHeld).review = s.review := by simp [State.enterHeld]
@[simp] theorem State.enterHeld_directive : (s.enterHeld).directive = s.directive := by simp [State.enterHeld]
@[simp] theorem State.enterHeld_report : (s.enterHeld).report = s.report := by simp [State.enterHeld]
@[simp] theorem State.enterHeld_out : (s.enterHeld).out = s.out := by simp [State.enterHeld]
@[simp] theorem State.enterHeld_pending : (s.enterHeld).pending = s.pending := by simp [State.enterHeld]
@[simp] theorem State.enterHeld_session_role : (s.enterHeld).session.role = s.session.role := by simp [State.enterHeld]

@[simp] theorem State.enterDetached_chassis : (s.enterDetached).chassis = s.chassis := by simp [State.enterDetached]
@[simp] theorem State.enterDetached_path : (s.enterDetached).path = s.path := by simp [State.enterDetached]
@[simp] theorem State.enterDetached_settings : (s.enterDetached).settings = s.settings := by simp [State.enterDetached]
@[simp] theorem State.enterDetached_regions : (s.enterDetached).regions = s.regions := by simp [State.enterDetached]
@[simp] theorem State.enterDetached_map : (s.enterDetached).map = s.map := by simp [State.enterDetached]
@[simp] theorem State.enterDetached_walker : (s.enterDetached).walker = s.walker := by simp [State.enterDetached]
@[simp] theorem State.enterDetached_freeze : (s.enterDetached).freeze = s.freeze := by simp [State.enterDetached]
@[simp] theorem State.enterDetached_feed : (s.enterDetached).feed = s.feed := by simp [State.enterDetached]
@[simp] theorem State.enterDetached_faults : (s.enterDetached).faults = s.faults := by simp [State.enterDetached]
@[simp] theorem State.enterDetached_review : (s.enterDetached).review = s.review := by simp [State.enterDetached]
@[simp] theorem State.enterDetached_directive : (s.enterDetached).directive = s.directive := by simp [State.enterDetached]
@[simp] theorem State.enterDetached_report : (s.enterDetached).report = s.report := by simp [State.enterDetached]
@[simp] theorem State.enterDetached_out : (s.enterDetached).out = s.out := by simp [State.enterDetached]
@[simp] theorem State.enterDetached_pending : (s.enterDetached).pending = s.pending := by simp [State.enterDetached]
@[simp] theorem State.enterDetached_link_state : (s.enterDetached).link.state = s.link.state := by simp [State.enterDetached]
@[simp] theorem State.enterDetached_session_role : (s.enterDetached).session.role = s.session.role := by simp [State.enterDetached]

@[simp] theorem State.suspend_chassis (k : GreetKind) : (s.suspend k).chassis = s.chassis := by simp [State.suspend]
@[simp] theorem State.suspend_path (k : GreetKind) : (s.suspend k).path = s.path := by simp [State.suspend]
@[simp] theorem State.suspend_settings (k : GreetKind) : (s.suspend k).settings = s.settings := by simp [State.suspend]
@[simp] theorem State.suspend_regions (k : GreetKind) : (s.suspend k).regions = s.regions := by simp [State.suspend]
@[simp] theorem State.suspend_map (k : GreetKind) : (s.suspend k).map = s.map := by simp [State.suspend]
@[simp] theorem State.suspend_walker (k : GreetKind) : (s.suspend k).walker = s.walker := by simp [State.suspend]
@[simp] theorem State.suspend_feed (k : GreetKind) : (s.suspend k).feed = s.feed := by simp [State.suspend]
@[simp] theorem State.suspend_link (k : GreetKind) : (s.suspend k).link = s.link := by simp [State.suspend]
@[simp] theorem State.suspend_take (k : GreetKind) : (s.suspend k).take = s.take := by simp [State.suspend]
@[simp] theorem State.suspend_faults (k : GreetKind) : (s.suspend k).faults = s.faults := by simp [State.suspend]
@[simp] theorem State.suspend_review (k : GreetKind) : (s.suspend k).review = s.review := by simp [State.suspend]
@[simp] theorem State.suspend_directive (k : GreetKind) : (s.suspend k).directive = s.directive := by simp [State.suspend]
@[simp] theorem State.suspend_report (k : GreetKind) : (s.suspend k).report = s.report := by simp [State.suspend]
@[simp] theorem State.suspend_out (k : GreetKind) : (s.suspend k).out = s.out := by simp [State.suspend]
@[simp] theorem State.suspend_pending (k : GreetKind) : (s.suspend k).pending = s.pending := by simp [State.suspend]
@[simp] theorem State.suspend_freeze_entries (k : GreetKind) : (s.suspend k).freeze.entries = s.freeze.entries := by simp [State.suspend]
@[simp] theorem State.suspend_session_role (k : GreetKind) : (s.suspend k).session.role = s.session.role := by simp [State.suspend]

@[simp] theorem State.advance_path (n : Nat) : (s.advance n).path = s.path := by
  unfold State.advance; (repeat' split) <;> simp
@[simp] theorem State.advance_settings (n : Nat) : (s.advance n).settings = s.settings := by
  unfold State.advance; (repeat' split) <;> simp
@[simp] theorem State.advance_regions (n : Nat) : (s.advance n).regions = s.regions := by
  unfold State.advance; (repeat' split) <;> simp
@[simp] theorem State.advance_map (n : Nat) : (s.advance n).map = s.map := by
  unfold State.advance; (repeat' split) <;> simp
@[simp] theorem State.advance_walker (n : Nat) : (s.advance n).walker = s.walker := by
  unfold State.advance; (repeat' split) <;> simp
@[simp] theorem State.advance_feed (n : Nat) : (s.advance n).feed = s.feed := by
  unfold State.advance; (repeat' split) <;> simp
@[simp] theorem State.advance_take (n : Nat) : (s.advance n).take = s.take := by
  unfold State.advance; (repeat' split) <;> simp
@[simp] theorem State.advance_faults (n : Nat) : (s.advance n).faults = s.faults := by
  unfold State.advance; (repeat' split) <;> simp
@[simp] theorem State.advance_directive (n : Nat) : (s.advance n).directive = s.directive := by
  unfold State.advance; (repeat' split) <;> simp
@[simp] theorem State.advance_notices (n : Nat) : (s.advance n).notices = s.notices := by
  unfold State.advance; (repeat' split) <;> simp
@[simp] theorem State.advance_report (n : Nat) : (s.advance n).report = s.report := by
  unfold State.advance; (repeat' split) <;> simp
@[simp] theorem State.advance_out (n : Nat) : (s.advance n).out = s.out := by
  unfold State.advance; (repeat' split) <;> simp
@[simp] theorem State.advance_signals (n : Nat) : (s.advance n).signals = s.signals := by
  unfold State.advance; (repeat' split) <;> simp
@[simp] theorem State.advance_pending (n : Nat) : (s.advance n).pending = s.pending := by
  unfold State.advance; (repeat' split) <;> simp
@[simp] theorem State.advance_freeze_entries (n : Nat) : (s.advance n).freeze.entries = s.freeze.entries := by
  unfold State.advance; (repeat' split) <;> simp
@[simp] theorem State.advance_review_throttle (n : Nat) : (s.advance n).review.throttle = s.review.throttle := by
  unfold State.advance; (repeat' split) <;> simp
@[simp] theorem State.advance_review_passNumber (n : Nat) : (s.advance n).review.passNumber = s.review.passNumber := by
  unfold State.advance; (repeat' split) <;> simp
@[simp] theorem State.advance_session_role (n : Nat) : (s.advance n).session.role = s.session.role := by
  unfold State.advance; (repeat' split) <;> simp
@[simp] theorem State.advance_session_state (n : Nat) : (s.advance n).session.state = s.session.state := by
  unfold State.advance; (repeat' split) <;> simp

@[simp] theorem State.admitWrite_chassis (w : WriteReq) : (s.admitWrite w).chassis = s.chassis := by
  unfold State.admitWrite; split <;> rfl
@[simp] theorem State.admitWrite_path (w : WriteReq) : (s.admitWrite w).path = s.path := by
  unfold State.admitWrite; split <;> rfl
@[simp] theorem State.admitWrite_settings (w : WriteReq) : (s.admitWrite w).settings = s.settings := by
  unfold State.admitWrite; split <;> rfl
@[simp] theorem State.admitWrite_regions (w : WriteReq) : (s.admitWrite w).regions = s.regions := by
  unfold State.admitWrite; split <;> rfl
@[simp] theorem State.admitWrite_map (w : WriteReq) : (s.admitWrite w).map = s.map := by
  unfold State.admitWrite; split <;> rfl
@[simp] theorem State.admitWrite_walker (w : WriteReq) : (s.admitWrite w).walker = s.walker := by
  unfold State.admitWrite; split <;> rfl
@[simp] theorem State.admitWrite_freeze (w : WriteReq) : (s.admitWrite w).freeze = s.freeze := by
  unfold State.admitWrite; split <;> rfl
@[simp] theorem State.admitWrite_feed (w : WriteReq) : (s.admitWrite w).feed = s.feed := by
  unfold State.admitWrite; split <;> rfl
@[simp] theorem State.admitWrite_link (w : WriteReq) : (s.admitWrite w).link = s.link := by
  unfold State.admitWrite; split <;> rfl
@[simp] theorem State.admitWrite_take (w : WriteReq) : (s.admitWrite w).take = s.take := by
  unfold State.admitWrite; split <;> rfl
@[simp] theorem State.admitWrite_faults (w : WriteReq) : (s.admitWrite w).faults = s.faults := by
  unfold State.admitWrite; split <;> rfl
@[simp] theorem State.admitWrite_session (w : WriteReq) : (s.admitWrite w).session = s.session := by
  unfold State.admitWrite; split <;> rfl
@[simp] theorem State.admitWrite_directive (w : WriteReq) : (s.admitWrite w).directive = s.directive := by
  unfold State.admitWrite; split <;> rfl
@[simp] theorem State.admitWrite_notices (w : WriteReq) : (s.admitWrite w).notices = s.notices := by
  unfold State.admitWrite; split <;> rfl
@[simp] theorem State.admitWrite_report (w : WriteReq) : (s.admitWrite w).report = s.report := by
  unfold State.admitWrite; split <;> rfl
@[simp] theorem State.admitWrite_out (w : WriteReq) : (s.admitWrite w).out = s.out := by
  unfold State.admitWrite; split <;> rfl
@[simp] theorem State.admitWrite_signals (w : WriteReq) : (s.admitWrite w).signals = s.signals := by
  unfold State.admitWrite; split <;> rfl
@[simp] theorem State.admitWrite_pending (w : WriteReq) : (s.admitWrite w).pending = s.pending := by
  unfold State.admitWrite; split <;> rfl
@[simp] theorem State.admitWrite_review_throttle (w : WriteReq) : (s.admitWrite w).review.throttle = s.review.throttle := by
  unfold State.admitWrite; split <;> rfl
@[simp] theorem State.admitWrite_review_passNumber (w : WriteReq) : (s.admitWrite w).review.passNumber = s.review.passNumber := by
  unfold State.admitWrite; split <;> rfl

@[simp] theorem State.examineWrite_chassis (w : WriteReq) : (s.examineWrite w).chassis = s.chassis := by
  simp only [State.examineWrite, State.writeCandidate]; (repeat' split) <;> simp
@[simp] theorem State.examineWrite_settings (w : WriteReq) : (s.examineWrite w).settings = s.settings := by
  simp only [State.examineWrite, State.writeCandidate]; (repeat' split) <;> simp
@[simp] theorem State.examineWrite_regions (w : WriteReq) : (s.examineWrite w).regions = s.regions := by
  simp only [State.examineWrite, State.writeCandidate]; (repeat' split) <;> simp
@[simp] theorem State.examineWrite_map (w : WriteReq) : (s.examineWrite w).map = s.map := by
  simp only [State.examineWrite, State.writeCandidate]; (repeat' split) <;> simp
@[simp] theorem State.examineWrite_walker (w : WriteReq) : (s.examineWrite w).walker = s.walker := by
  simp only [State.examineWrite, State.writeCandidate]; (repeat' split) <;> simp
@[simp] theorem State.examineWrite_feed (w : WriteReq) : (s.examineWrite w).feed = s.feed := by
  simp only [State.examineWrite, State.writeCandidate]; (repeat' split) <;> simp
@[simp] theorem State.examineWrite_link (w : WriteReq) : (s.examineWrite w).link = s.link := by
  simp only [State.examineWrite, State.writeCandidate]; (repeat' split) <;> simp
@[simp] theorem State.examineWrite_take (w : WriteReq) : (s.examineWrite w).take = s.take := by
  simp only [State.examineWrite, State.writeCandidate]; (repeat' split) <;> simp
@[simp] theorem State.examineWrite_faults (w : WriteReq) : (s.examineWrite w).faults = s.faults := by
  simp only [State.examineWrite, State.writeCandidate]; (repeat' split) <;> simp
@[simp] theorem State.examineWrite_session (w : WriteReq) : (s.examineWrite w).session = s.session := by
  simp only [State.examineWrite, State.writeCandidate]; (repeat' split) <;> simp
@[simp] theorem State.examineWrite_directive (w : WriteReq) : (s.examineWrite w).directive = s.directive := by
  simp only [State.examineWrite, State.writeCandidate]; (repeat' split) <;> simp
@[simp] theorem State.examineWrite_notices (w : WriteReq) : (s.examineWrite w).notices = s.notices := by
  simp only [State.examineWrite, State.writeCandidate]; (repeat' split) <;> simp
@[simp] theorem State.examineWrite_report (w : WriteReq) : (s.examineWrite w).report = s.report := by
  simp only [State.examineWrite, State.writeCandidate]; (repeat' split) <;> simp
@[simp] theorem State.examineWrite_out (w : WriteReq) : (s.examineWrite w).out = s.out := by
  simp only [State.examineWrite, State.writeCandidate]; (repeat' split) <;> simp
@[simp] theorem State.examineWrite_signals (w : WriteReq) : (s.examineWrite w).signals = s.signals := by
  simp only [State.examineWrite, State.writeCandidate]; (repeat' split) <;> simp
@[simp] theorem State.examineWrite_pending (w : WriteReq) : (s.examineWrite w).pending = s.pending := by
  simp only [State.examineWrite, State.writeCandidate]; (repeat' split) <;> simp
@[simp] theorem State.examineWrite_path_returns (w : WriteReq) : (s.examineWrite w).path.returns = s.path.returns := by
  simp only [State.examineWrite, State.writeCandidate]; (repeat' split) <;> simp
@[simp] theorem State.examineWrite_path_lookup (w : WriteReq) : (s.examineWrite w).path.lookup = s.path.lookup := by
  simp only [State.examineWrite, State.writeCandidate]; (repeat' split) <;> simp
@[simp] theorem State.examineWrite_review_throttle (w : WriteReq) : (s.examineWrite w).review.throttle = s.review.throttle := by
  simp only [State.examineWrite, State.writeCandidate]; (repeat' split) <;> simp
@[simp] theorem State.examineWrite_review_passNumber (w : WriteReq) : (s.examineWrite w).review.passNumber = s.review.passNumber := by
  simp only [State.examineWrite, State.writeCandidate]; (repeat' split) <;> simp

@[simp] theorem State.examineHeld_chassis : (s.examineHeld).chassis = s.chassis := by
  unfold State.examineHeld; (repeat' split) <;> simp
@[simp] theorem State.examineHeld_settings : (s.examineHeld).settings = s.settings := by
  unfold State.examineHeld; (repeat' split) <;> simp
@[simp] theorem State.examineHeld_regions : (s.examineHeld).regions = s.regions := by
  unfold State.examineHeld; (repeat' split) <;> simp
@[simp] theorem State.examineHeld_map : (s.examineHeld).map = s.map := by
  unfold State.examineHeld; (repeat' split) <;> simp
@[simp] theorem State.examineHeld_walker : (s.examineHeld).walker = s.walker := by
  unfold State.examineHeld; (repeat' split) <;> simp
@[simp] theorem State.examineHeld_feed : (s.examineHeld).feed = s.feed := by
  unfold State.examineHeld; (repeat' split) <;> simp
@[simp] theorem State.examineHeld_link : (s.examineHeld).link = s.link := by
  unfold State.examineHeld; (repeat' split) <;> simp
@[simp] theorem State.examineHeld_take : (s.examineHeld).take = s.take := by
  unfold State.examineHeld; (repeat' split) <;> simp
@[simp] theorem State.examineHeld_faults : (s.examineHeld).faults = s.faults := by
  unfold State.examineHeld; (repeat' split) <;> simp
@[simp] theorem State.examineHeld_session : (s.examineHeld).session = s.session := by
  unfold State.examineHeld; (repeat' split) <;> simp
@[simp] theorem State.examineHeld_directive : (s.examineHeld).directive = s.directive := by
  unfold State.examineHeld; (repeat' split) <;> simp
@[simp] theorem State.examineHeld_notices : (s.examineHeld).notices = s.notices := by
  unfold State.examineHeld; (repeat' split) <;> simp
@[simp] theorem State.examineHeld_report : (s.examineHeld).report = s.report := by
  unfold State.examineHeld; (repeat' split) <;> simp
@[simp] theorem State.examineHeld_out : (s.examineHeld).out = s.out := by
  unfold State.examineHeld; (repeat' split) <;> simp
@[simp] theorem State.examineHeld_signals : (s.examineHeld).signals = s.signals := by
  unfold State.examineHeld; (repeat' split) <;> simp
@[simp] theorem State.examineHeld_pending : (s.examineHeld).pending = s.pending := by
  unfold State.examineHeld; (repeat' split) <;> simp
@[simp] theorem State.examineHeld_path_returns : (s.examineHeld).path.returns = s.path.returns := by
  unfold State.examineHeld; (repeat' split) <;> simp
@[simp] theorem State.examineHeld_path_lookup : (s.examineHeld).path.lookup = s.path.lookup := by
  unfold State.examineHeld; (repeat' split) <;> simp
@[simp] theorem State.examineHeld_review_throttle : (s.examineHeld).review.throttle = s.review.throttle := by
  unfold State.examineHeld; (repeat' split) <;> simp
@[simp] theorem State.examineHeld_review_passNumber : (s.examineHeld).review.passNumber = s.review.passNumber := by
  unfold State.examineHeld; (repeat' split) <;> simp

@[simp] theorem State.staleStage_chassis : (s.staleStage).chassis = s.chassis := by
  unfold State.staleStage; split <;> simp
@[simp] theorem State.staleStage_path : (s.staleStage).path = s.path := by
  unfold State.staleStage; split <;> simp
@[simp] theorem State.staleStage_settings : (s.staleStage).settings = s.settings := by
  unfold State.staleStage; split <;> simp
@[simp] theorem State.staleStage_regions : (s.staleStage).regions = s.regions := by
  unfold State.staleStage; split <;> simp
@[simp] theorem State.staleStage_map : (s.staleStage).map = s.map := by
  unfold State.staleStage; split <;> simp
@[simp] theorem State.staleStage_walker : (s.staleStage).walker = s.walker := by
  unfold State.staleStage; split <;> simp
@[simp] theorem State.staleStage_freeze : (s.staleStage).freeze = s.freeze := by
  unfold State.staleStage; split <;> simp
@[simp] theorem State.staleStage_link : (s.staleStage).link = s.link := by
  unfold State.staleStage; split <;> simp
@[simp] theorem State.staleStage_take : (s.staleStage).take = s.take := by
  unfold State.staleStage; split <;> simp
@[simp] theorem State.staleStage_faults : (s.staleStage).faults = s.faults := by
  unfold State.staleStage; split <;> simp
@[simp] theorem State.staleStage_review : (s.staleStage).review = s.review := by
  unfold State.staleStage; split <;> simp
@[simp] theorem State.staleStage_directive : (s.staleStage).directive = s.directive := by
  unfold State.staleStage; split <;> simp
@[simp] theorem State.staleStage_notices : (s.staleStage).notices = s.notices := by
  unfold State.staleStage; split <;> simp
@[simp] theorem State.staleStage_report : (s.staleStage).report = s.report := by
  unfold State.staleStage; split <;> simp
@[simp] theorem State.staleStage_out : (s.staleStage).out = s.out := by
  unfold State.staleStage; split <;> simp
@[simp] theorem State.staleStage_signals : (s.staleStage).signals = s.signals := by
  unfold State.staleStage; split <;> simp
@[simp] theorem State.staleStage_pending : (s.staleStage).pending = s.pending := by
  unfold State.staleStage; split <;> simp
@[simp] theorem State.staleStage_feed_window : (s.staleStage).feed.window = s.feed.window := by
  unfold State.staleStage; split <;> simp
@[simp] theorem State.staleStage_session_role : (s.staleStage).session.role = s.session.role := by
  unfold State.staleStage; split <;> simp
@[simp] theorem State.staleStage_session_state : (s.staleStage).session.state = s.session.state := by
  unfold State.staleStage; split <;> simp

@[simp] theorem State.instepStage_chassis : (s.instepStage).chassis = s.chassis := by
  unfold State.instepStage; split <;> simp
@[simp] theorem State.instepStage_path : (s.instepStage).path = s.path := by
  unfold State.instepStage; split <;> simp
@[simp] theorem State.instepStage_settings : (s.instepStage).settings = s.settings := by
  unfold State.instepStage; split <;> simp
@[simp] theorem State.instepStage_regions : (s.instepStage).regions = s.regions := by
  unfold State.instepStage; split <;> simp
@[simp] theorem State.instepStage_map : (s.instepStage).map = s.map := by
  unfold State.instepStage; split <;> simp
@[simp] theorem State.instepStage_walker : (s.instepStage).walker = s.walker := by
  unfold State.instepStage; split <;> simp
@[simp] theorem State.instepStage_freeze : (s.instepStage).freeze = s.freeze := by
  unfold State.instepStage; split <;> simp
@[simp] theorem State.instepStage_link : (s.instepStage).link = s.link := by
  unfold State.instepStage; split <;> simp
@[simp] theorem State.instepStage_take : (s.instepStage).take = s.take := by
  unfold State.instepStage; split <;> simp
@[simp] theorem State.instepStage_faults : (s.instepStage).faults = s.faults := by
  unfold State.instepStage; split <;> simp
@[simp] theorem State.instepStage_review : (s.instepStage).review = s.review := by
  unfold State.instepStage; split <;> simp
@[simp] theorem State.instepStage_session : (s.instepStage).session = s.session := by
  unfold State.instepStage; split <;> simp
@[simp] theorem State.instepStage_directive : (s.instepStage).directive = s.directive := by
  unfold State.instepStage; split <;> simp
@[simp] theorem State.instepStage_notices : (s.instepStage).notices = s.notices := by
  unfold State.instepStage; split <;> simp
@[simp] theorem State.instepStage_report : (s.instepStage).report = s.report := by
  unfold State.instepStage; split <;> simp
@[simp] theorem State.instepStage_out : (s.instepStage).out = s.out := by
  unfold State.instepStage; split <;> simp
@[simp] theorem State.instepStage_signals : (s.instepStage).signals = s.signals := by
  unfold State.instepStage; split <;> simp
@[simp] theorem State.instepStage_pending : (s.instepStage).pending = s.pending := by
  unfold State.instepStage; split <;> simp
@[simp] theorem State.instepStage_feed_window : (s.instepStage).feed.window = s.feed.window := by
  unfold State.instepStage; split <;> simp

@[simp] theorem State.clearRuns_chassis : (s.clearRuns).chassis = s.chassis := rfl
@[simp] theorem State.clearRuns_settings : (s.clearRuns).settings = s.settings := rfl
@[simp] theorem State.clearRuns_regions : (s.clearRuns).regions = s.regions := rfl
@[simp] theorem State.clearRuns_map : (s.clearRuns).map = s.map := rfl
@[simp] theorem State.clearRuns_walker : (s.clearRuns).walker = s.walker := rfl
@[simp] theorem State.clearRuns_freeze : (s.clearRuns).freeze = s.freeze := rfl
@[simp] theorem State.clearRuns_feed : (s.clearRuns).feed = s.feed := rfl
@[simp] theorem State.clearRuns_link : (s.clearRuns).link = s.link := rfl
@[simp] theorem State.clearRuns_take : (s.clearRuns).take = s.take := rfl
@[simp] theorem State.clearRuns_faults : (s.clearRuns).faults = s.faults := rfl
@[simp] theorem State.clearRuns_review : (s.clearRuns).review = s.review := rfl
@[simp] theorem State.clearRuns_session : (s.clearRuns).session = s.session := rfl
@[simp] theorem State.clearRuns_directive : (s.clearRuns).directive = s.directive := rfl
@[simp] theorem State.clearRuns_notices : (s.clearRuns).notices = s.notices := rfl
@[simp] theorem State.clearRuns_report : (s.clearRuns).report = s.report := rfl
@[simp] theorem State.clearRuns_out : (s.clearRuns).out = s.out := rfl
@[simp] theorem State.clearRuns_signals : (s.clearRuns).signals = s.signals := rfl
@[simp] theorem State.clearRuns_pending : (s.clearRuns).pending = s.pending := rfl
@[simp] theorem State.clearRuns_path_returns : (s.clearRuns).path.returns = s.path.returns := rfl
@[simp] theorem State.clearRuns_path_maint : (s.clearRuns).path.maint = s.path.maint := rfl
@[simp] theorem State.clearRuns_path_lookup : (s.clearRuns).path.lookup = s.path.lookup := rfl

@[simp] theorem State.startReport_chassis : (s.startReport).chassis = s.chassis := rfl
@[simp] theorem State.startReport_path : (s.startReport).path = s.path := rfl
@[simp] theorem State.startReport_settings : (s.startReport).settings = s.settings := rfl
@[simp] theorem State.startReport_regions : (s.startReport).regions = s.regions := rfl
@[simp] theorem State.startReport_map : (s.startReport).map = s.map := rfl
@[simp] theorem State.startReport_walker : (s.startReport).walker = s.walker := rfl
@[simp] theorem State.startReport_freeze : (s.startReport).freeze = s.freeze := rfl
@[simp] theorem State.startReport_feed : (s.startReport).feed = s.feed := rfl
@[simp] theorem State.startReport_link : (s.startReport).link = s.link := rfl
@[simp] theorem State.startReport_take : (s.startReport).take = s.take := rfl
@[simp] theorem State.startReport_faults : (s.startReport).faults = s.faults := rfl
@[simp] theorem State.startReport_review : (s.startReport).review = s.review := rfl
@[simp] theorem State.startReport_session : (s.startReport).session = s.session := rfl
@[simp] theorem State.startReport_directive : (s.startReport).directive = s.directive := rfl
@[simp] theorem State.startReport_notices : (s.startReport).notices = s.notices := rfl
@[simp] theorem State.startReport_out : (s.startReport).out = s.out := rfl
@[simp] theorem State.startReport_signals : (s.startReport).signals = s.signals := rfl
@[simp] theorem State.startReport_pending : (s.startReport).pending = s.pending := rfl

@[simp] theorem State.serveReport_chassis : (s.serveReport).chassis = s.chassis := by
  unfold State.serveReport; (repeat' split) <;> simp
@[simp] theorem State.serveReport_path : (s.serveReport).path = s.path := by
  unfold State.serveReport; (repeat' split) <;> simp
@[simp] theorem State.serveReport_settings : (s.serveReport).settings = s.settings := by
  unfold State.serveReport; (repeat' split) <;> simp
@[simp] theorem State.serveReport_regions : (s.serveReport).regions = s.regions := by
  unfold State.serveReport; (repeat' split) <;> simp
@[simp] theorem State.serveReport_map : (s.serveReport).map = s.map := by
  unfold State.serveReport; (repeat' split) <;> simp
@[simp] theorem State.serveReport_walker : (s.serveReport).walker = s.walker := by
  unfold State.serveReport; (repeat' split) <;> simp
@[simp] theorem State.serveReport_freeze : (s.serveReport).freeze = s.freeze := by
  unfold State.serveReport; (repeat' split) <;> simp
@[simp] theorem State.serveReport_feed : (s.serveReport).feed = s.feed := by
  unfold State.serveReport; (repeat' split) <;> simp
@[simp] theorem State.serveReport_link : (s.serveReport).link = s.link := by
  unfold State.serveReport; (repeat' split) <;> simp
@[simp] theorem State.serveReport_take : (s.serveReport).take = s.take := by
  unfold State.serveReport; (repeat' split) <;> simp
@[simp] theorem State.serveReport_faults : (s.serveReport).faults = s.faults := by
  unfold State.serveReport; (repeat' split) <;> simp
@[simp] theorem State.serveReport_review : (s.serveReport).review = s.review := by
  unfold State.serveReport; (repeat' split) <;> simp
@[simp] theorem State.serveReport_session : (s.serveReport).session = s.session := by
  unfold State.serveReport; (repeat' split) <;> simp
@[simp] theorem State.serveReport_directive : (s.serveReport).directive = s.directive := by
  unfold State.serveReport; (repeat' split) <;> simp
@[simp] theorem State.serveReport_notices : (s.serveReport).notices = s.notices := by
  unfold State.serveReport; (repeat' split) <;> simp
@[simp] theorem State.serveReport_out : (s.serveReport).out = s.out := by
  unfold State.serveReport; (repeat' split) <;> simp
@[simp] theorem State.serveReport_signals : (s.serveReport).signals = s.signals := by
  unfold State.serveReport; (repeat' split) <;> simp
@[simp] theorem State.serveReport_pending : (s.serveReport).pending = s.pending := by
  unfold State.serveReport; (repeat' split) <;> simp

@[simp] theorem State.settle_chassis : (s.settle).chassis = s.chassis := by simp [State.settle]
@[simp] theorem State.settle_settings : (s.settle).settings = s.settings := by simp [State.settle]
@[simp] theorem State.settle_regions : (s.settle).regions = s.regions := by simp [State.settle]
@[simp] theorem State.settle_map : (s.settle).map = s.map := by simp [State.settle]
@[simp] theorem State.settle_walker : (s.settle).walker = s.walker := by simp [State.settle]
@[simp] theorem State.settle_link : (s.settle).link = s.link := by simp [State.settle]
@[simp] theorem State.settle_take : (s.settle).take = s.take := by simp [State.settle]
@[simp] theorem State.settle_faults : (s.settle).faults = s.faults := by simp [State.settle]
@[simp] theorem State.settle_directive : (s.settle).directive = s.directive := by simp [State.settle]
@[simp] theorem State.settle_notices : (s.settle).notices = s.notices := by simp [State.settle]
@[simp] theorem State.settle_out : (s.settle).out = s.out := by simp [State.settle]
@[simp] theorem State.settle_pending : (s.settle).pending = s.pending := by simp [State.settle]
@[simp] theorem State.settle_path_returns : (s.settle).path.returns = s.path.returns := by simp [State.settle]
@[simp] theorem State.settle_path_lookup : (s.settle).path.lookup = s.path.lookup := by simp [State.settle]
@[simp] theorem State.settle_feed_window : (s.settle).feed.window = s.feed.window := by simp [State.settle]
@[simp] theorem State.settle_review_throttle : (s.settle).review.throttle = s.review.throttle := by simp [State.settle]
@[simp] theorem State.settle_review_passNumber : (s.settle).review.passNumber = s.review.passNumber := by simp [State.settle]
@[simp] theorem State.settle_session_role : (s.settle).session.role = s.session.role := by simp [State.settle]
@[simp] theorem State.settle_session_state : (s.settle).session.state = s.session.state := by simp [State.settle]

/-- A segment has its table's class at a take whose session lasts and holds a layout, and none (LOCAL) at any other time (R20, R144). -/
theorem State.installedClass_cases (n : Segment) :
    (s.session.role = .take ∧ s.session.state ≠ .idle ∧ s.session.layoutInstalled = true
        ∧ s.installedClass n = classOfSegment s.regions n)
      ∨ (s.blocking = false ∧ s.installedClass n = .localOnly) := by
  unfold State.installedClass
  cases h : s.blocking
  · exact .inr ⟨rfl, by simp⟩
  · refine .inl ?_
    simp only [State.blocking, Bool.and_eq_true, beq_iff_eq, bne_iff_ne] at h
    exact ⟨h.1.1, h.1.2, h.2, by simp⟩

end Sys2Proof.Machine
end

