-- ==== Sys2Proof/Laws/Settle.lean ====
section
/-! SUPPORT. What the end of a command (`State.settle`) can do: nothing to a settled state, and to any state only what each lemma leaves
open; and what the rise of RESET_N leaves of the path. -/

namespace Sys2Proof.Machine

open Sys2Proof

variable (s : State)

/-- A requester that does not wait has no run to clear in a settled state. -/
theorem State.clearRuns_of_settled (h : s.settled) : s.clearRuns = s := by
  obtain ⟨-, -, -, h4⟩ := h
  have key : ∀ r, (if s.waits r && decide (s.settings.level r ≤ 3) then s.path.waitRuns.get r else 0) = s.path.waitRuns.get r := by
    intro r
    split
    · rfl
    · rename_i hr
      refine (h4 r ?_).symm
      cases hw : s.waits r
      · exact .inl rfl
      · simp [hw] at hr; exact .inr (by omega)
  have e : (WaitRuns.build fun r => if s.waits r && decide (s.settings.level r ≤ 3) then s.path.waitRuns.get r else 0)
      = s.path.waitRuns := by
    simp only [WaitRuns.build, key]
    rfl
  simp only [State.clearRuns, e]

/-- Nothing is left to do at the end of a command that finds a settled state. -/
theorem State.settle_of_settled (h : s.settled) : s.settle = s := by
  have h4 := s.clearRuns_of_settled h
  obtain ⟨h1, h2, h3, -⟩ := h
  have e1 : s.examineHeld = s := by simp [State.examineHeld, h1, Signals.none]
  have e2 : s.staleStage = s := by simp [State.staleStage, h1, Signals.none]
  have e3 : s.instepStage = s := by
    unfold State.instepStage State.tryInstep
    simp only [h2]
    split
    · rename_i h; simp at h; obtain ⟨a, b⟩ := h; have := h3 a; omega
    · rfl
  simp [State.settle, e1, e2, e3, h4, State.serveReport, State.clearSignals, h1, Signals.none]
  cases s; simp_all [Signals.none]

/-- The overlay is as it was after the held write's examination, where the overlay absorbs nothing. -/
theorem State.examineHeld_freeze (h : s.inFeed = false ∨ (s.session.state ≠ .freeze ∧ s.session.state ≠ .replay)) :
    s.examineHeld.freeze = s.freeze := by
  unfold State.examineHeld
  split
  · split
    · rename_i w _
      have ha : s.absorbs w = false := by
        unfold State.absorbs
        rcases h with h | ⟨h1, h2⟩
        · simp [h]
        · cases hs : s.session.state <;> simp_all
      unfold State.examineWrite
      (repeat' split) <;> simp_all [State.writeCandidate, State.admitWrite]
      split <;> rfl
    · rfl
  · rfl

/-- The overlay at the end of a command that does not stand in FREEZE or REPLAY. -/
theorem State.settle_freeze (h : s.inFeed = false ∨ (s.session.state ≠ .freeze ∧ s.session.state ≠ .replay)) :
    s.settle.freeze = s.freeze := by
  simp [State.settle, State.examineHeld_freeze s h]

/-- The feed's queue and offers at the end of a command that does not stand in STEADY or HANDOVER, and has no INSTEP waiting. -/
theorem State.settle_feed (h1 : s.session.state ≠ .steady) (h2 : s.session.state ≠ .handover)
    (h3 : s.feed.instepWaiting = false) : s.settle.feed = s.feed := by
  have e1 : s.examineHeld.feed = s.feed := by simp
  have e2 : s.examineHeld.staleStage = s.examineHeld := by
    unfold State.staleStage; cases hs : s.session.state <;> simp_all
  have e3 : s.examineHeld.instepStage = s.examineHeld := by
    unfold State.instepStage State.tryInstep State.instepTest
    cases hs : s.session.state <;> simp_all
  simp [State.settle, e2, e3]

/-- The feed's queue at the end of a command that does not stand in STEADY or HANDOVER. -/
theorem State.settle_feed_queue (h1 : s.session.state ≠ .steady) (h2 : s.session.state ≠ .handover) :
    s.settle.feed.queue = s.feed.queue := by
  have e2 : s.examineHeld.staleStage = s.examineHeld := by
    unfold State.staleStage; cases hs : s.session.state <;> simp_all
  have e3 : s.examineHeld.instepStage.feed.queue = s.examineHeld.feed.queue := by
    unfold State.instepStage State.tryInstep State.instepTest
    split
    · rfl
    · cases hs : s.session.state <;> simp_all
  simp [State.settle, e2, e3]

/-- The session record at the end of a command in which no segment entered DIRTY. -/
theorem State.settle_session (h : s.signals.dirtied = false ∨ (s.session.state ≠ .steady ∧ s.session.state ≠ .handover)) :
    s.settle.session = s.session := by
  have e2 : s.examineHeld.staleStage = s.examineHeld := by
    unfold State.staleStage
    rcases h with h | ⟨h1, h2⟩
    · simp [h]
    · cases hs : s.session.state <;> simp_all
  simp [State.settle, e2]

/-- A requested report is being written at the end of the command. -/
theorem State.settle_writing (h : s.signals.report = true) : s.settle.report.writing = true := by
  simp only [State.settle, State.clearSignals]
  unfold State.serveReport
  simp [h]
  split <;> simp_all [State.startReport]

/-! ### The rise of RESET_N -/

/-- The path after the rise of RESET_N holds no fixed response, and every read that waits for memory (R17, R18). -/
theorem Path.rise_reads (p : Path) (st : Stream) : p.rise.reads st = (p.reads st).filter (· == .waiting) := by
  cases st <;> rfl
@[simp] theorem Path.rise_lookup (p : Path) : p.rise.lookup = p.lookup := rfl
@[simp] theorem Path.rise_maint (p : Path) : p.rise.maint = p.maint.release := rfl
@[simp] theorem Path.rise_returns (p : Path) : p.rise.returns = p.returns := rfl
@[simp] theorem Path.rise_blocked (p : Path) : p.rise.blocked = 0 := rfl
@[simp] theorem Path.rise_waitRuns (p : Path) : p.rise.waitRuns = .reset := rfl

/-! ### While RESET_N is low -/

/-- A read taken while the part is not live becomes its stream's candidate (R18). -/
theorem State.examineRead_of_not_live (st : Stream) (a : Addr) (h : s.live = false) :
    s.examineRead st a = s.readCandidate st a := by simp [State.examineRead, h]

/-- A write taken while the part is not live becomes the maintenance candidate (R18). -/
theorem State.examineWrite_of_not_live (w : WriteReq) (h : s.live = false) : s.examineWrite w = s.writeCandidate w := by
  simp [State.examineWrite, h]

end Sys2Proof.Machine
end

