-- ==== Sys2Proof/Tests/Slice0.lean ====
section
/-! SUPPORT. Tests on fixed values taken from the guide's worked examples and tables, the smoke test of WellFormed, and for each obligation
with hypotheses a state that meets them (`witness_…`). -/

namespace Sys2Proof.Tests

open Sys2Proof Sys2Proof.Machine

-- The many small kernel evaluations below run one after another: all at once they need a thread, with its stack, each.
set_option Elab.async false

/-! ### Small states -/

/-- A trained and confirmed link with numbering active. -/
def upLink : Link := { Link.reset with state := .up, confirmed := true, lanes := 4, seen := 15, numbering := true }

/-- A region entry. -/
def entry (base length : Nat) (cls : RegionClass) (order : Nat) : Region :=
  { base := BitVec.ofNat 18 base, length := BitVec.ofNat 18 length, cls := cls, order := BitVec.ofNat 4 order, fill := 0 }

/-- A table whose first entries are those given. -/
def table (rs : List Region) : Vector Region 16 := Vector.ofFn fun i => (rs[i.val]?).getD Region.empty

/-- A feed in a state, session 77, over two MIRROR segments 0 and 1 and a SNAPSHOT segment 2, link UP. -/
def feedAt (st : SessState) : State :=
  { State.reset with
    link := upLink
    regions := table [entry 0 2 .mirror 0, entry 2 1 .snapshot 0]
    map := { SegMap.reset with cells := [(0, .clean), (1, .clean), (2, .clean)] }
    session := { Session.reset with role := .feed, state := st, id := 77 } }

/-- A take in a state, session 77, with a MIRROR segment 0, link UP, IN_ORDER. -/
def takeAt (st : SessState) : State :=
  { State.reset with
    link := upLink
    regions := table [entry 0 1 .mirror 0]
    take := { Take.reset with rx := .inOrder }
    session := { Session.reset with role := .take, state := st, id := 77, layoutInstalled := true } }

/-- A state with shadow words 1 to 3 set. -/
def withShadow (w1 w2 w3 : Word) (s : State) : State :=
  { s with directive := { s.directive with shadow := Vector.ofFn fun i => ([w1, w2, w3][i.val]?).getD 0 } }

/-- The next state of a command, or the state itself. -/
def after (c : Instr) (s : State) : State :=
  match exec c s with
  | .next t => t
  | .fault _ => s
  | .refused _ => s

/-- An overlay of these entries, the timer running from 0. -/
def overlay (es : List OverlayEntry) : Freeze := { entries := es, timer := some 0 }

/-- A state with no signal, no step to offer and no wait run is settled. -/
theorem settled_of {s : State} (h1 : s.signals = .none) (h2 : s.instepTest = false) (h3 : s.feed.instepWaiting = false)
    (h4 : s.path.waitRuns = .reset) : s.settled := by
  refine ⟨h1, h2, fun h => ?_, fun r _ => ?_⟩
  · rw [h3] at h; cases h
  · rw [h4]; cases r <;> rfl

/-! ### WellFormed refuses each ill-formed command -/

theorem test_wf_shadow_empty_mask : (Instr.shadowWrite 0 1 0).wf = false := by decide
theorem test_wf_stray_empty_mask : (Instr.strayTrigger 1 0).wf = false := by decide
theorem test_wf_known_code : (Instr.unknownKind 1 11).wf = false ∧ (Instr.unknownKind 1 12).wf = true := by decide
theorem test_wf_greet_session_0 : (Instr.greetReceived .fresh 0 0 0).wf = false := by decide
theorem test_wf_echo_session_0 : (Instr.greetEchoReceived 0 .new .none).wf = false := by decide
theorem test_wf_echo_refused_without_reason : (Instr.greetEchoReceived 7 .refused .none).wf = false := by decide
theorem test_wf_echo_new_with_reason : (Instr.greetEchoReceived 7 .new .mismatch).wf = false := by decide
theorem test_wf_mir_no_record : (Instr.sequencedFrameReceived 0 (.mir [])).wf = false := by decide
theorem test_wf_mir_nine_records :
    (Instr.sequencedFrameReceived 0 (.mir (List.replicate 9 { addr := 0, data := 0, mask := 1 }))).wf = false := by decide
theorem test_wf_reset : (Instr.coldReset true Pins.reset).wf = true := by decide

/-! ### Formats -/

/-- No row of the table gives bits, so no word spells a command. -/
theorem test_no_word_decodes : decodeTableWord 8 0 = none ∧ decodeTableWord 64 (2 ^ 64 - 1) = none := by decide

/-- The check value of the common CRC-32 for the bytes "123456789". -/
theorem test_crc32 : crc32 [0x31, 0x32, 0x33, 0x34, 0x35, 0x36, 0x37, 0x38, 0x39] = 0xCBF43926 := by decide +kernel

/-! ### Worked examples and tables of the guide -/

/-- 3.1, Walk order example. -/
theorem test_walk_order :
    let rs := table [entry 500 3 .mirror 2, entry 40 2 .snapshot 0, entry 900 10 .fill 0, entry 10 2 .mirror 2,
      entry 2000 50 .localOnly 1]
    walkOrder rs = [40, 41, 500, 501, 502, 10, 11] ∧ trackedTotal rs = 7 := by decide +kernel

/-- 2.2, with MSIZE 1: a region that ends at the last usable segment is DONE, a longer one REFUSED_VALUE. -/
theorem test_region_last_segment :
    (regionCheck 1 (table []) (regionFields 0x000002080000FDE8 0x0000000000000100 0)).isSome
      ∧ regionCheck 1 (table []) (regionFields 0x000002580000FDE8 0x0000000000000100 0) = none := by decide +kernel

/-- 11: base 1,000, length 40, entry 3, MIRROR, sweep order 2 in the fields of R186. -/
theorem test_region_directive :
    (after (.region 1) (withShadow 0x00000028000003E8 0x0000000000020103 0 State.reset)).regions[3] = entry 1000 40 .mirror 2 := by
  decide +kernel

/-- 6.6 and 6.7: the arithmetic of the review. -/
theorem test_review_figures :
    segTime 2000000 200000 = 10 ∧ drainOf 1500 10 = 15000 ∧ rateOf 2000000 500000 = 64 ∧ predictedOf 64 15000 = 3750
      ∧ fits 15000 (budgetOf 2000) 3750 = false ∧ segTime 16000 1500 = 11 ∧ predictedOf 64 990 = 248
      ∧ fits 990 (budgetOf 2000) 248 = true := by decide +kernel

/-- 6.6: edge values. -/
theorem test_review_edges :
    segTime 40 0 = 65535 ∧ segTime 0 0 = 65535 ∧ segTime 0 10 = 1 ∧ segTime 900000 10 = 65535 ∧ drainOf 5 65535 = 327675
      ∧ drainOf 262128 65535 = 4294967295 ∧ rateOf 0 7 = 0 ∧ rateOf 1000 4294967295 = 65535 := by decide +kernel

/-- 6.7: the review of pass 2 of the table manager that must be slowed goes on with the throttle at 1. -/
theorem test_review_raises_throttle :
    let s : State := { feedAt .catchup with
      map := { SegMap.reset with cells := (List.range 1600).map fun n => (n, .dirty) }
      review := { Review.reset with passNumber := 2, t := 15000, c := 1500, w := 60000, dPrev := some 1500 } }
    s.reviewRecord.decision = .nextPass ∧ (after .passEnd s).review.throttle = 1
      ∧ (after .passEnd s).review.passNumber = 3 := by decide +kernel

/-- 7.7, steps 2 and 4: two captured writes of one word merge. -/
theorem test_overlay_merges :
    (((Freeze.reset.capture { addr := 41600, data := 0x0000000011111111, mask := 0x0F }).capture
      { addr := 41600, data := 0x3333333300000000, mask := 0xF0 }).find 41600).map OverlayEntry.data = some 0x3333333311111111 := by
  decide +kernel

/-- 7.7, step 5: a lookup read of a full entry is answered from it. -/
theorem test_lookup_answered_from_overlay :
    (after (.lookupRead 5) { feedAt .freeze with
      freeze := overlay [{ addr := 5, data := 0x3333333311111111, mask := 0xFF, flushing := false }] }).out.engine
      = [(.lookup, { status := .ok, data := 0x3333333311111111 })] := by decide +kernel

/-- 7.7, step 9: a write in REPLAY merges into its entry. -/
theorem test_replay_write_merges :
    (after (.maintenanceWrite 5 0x44 0x01) { feedAt .replay with
      freeze := { entries := [{ addr := 5, data := 0x2222222222222222, mask := 0xFF, flushing := false }], timer := none } }).freeze.entries
      = [{ addr := 5, data := 0x2222222222222244, mask := 0xFF, flushing := false }] := by decide +kernel

/-- 1.4, Arbitration example: yield count 3, a walk read and a lookup read waiting at each grant. The wait runs after grants 1 to 5. -/
def sweeping : State :=
  { feedAt .sweep with
    settings := { Settings.reset with yieldCount := 3 }
    path := { Path.reset with lookup := some 0 }
    report := Report.reset .cold
    walker := { Walker.reset with buf0 := some (Buffer.start 0 0) } }

theorem test_arbitration_walk_is_owed :
    let g := fun s : State => after .arbiterGrant { s with path := { s.path with lookup := some 0 } }
    (g sweeping).path.waitRuns.walk = 1 ∧ (g (g sweeping)).path.waitRuns.walk = 2
      ∧ (g (g (g sweeping))).winner = some (.owed .walk) := by decide +kernel

/-- 2.7, steps 11: a record withdrawn from CLEAN, and a SEG frame withdrawn from INFLIGHT, leave DIRTY. -/
theorem test_withdrawal :
    let s : State := { feedAt .catchup with
      map := { SegMap.reset with cells := [(0, .clean), (1, .inflight), (2, .clean)] }
      feed := { Feed.reset with
        window := [(40, .instep), (41, .seg 1 (Vector.replicate 64 0)), (42, .mir [{ addr := 3, data := 1, mask := 1 }])]
        nextNumber := 43, sentTotal := 43, freedTotal := 40 } }
    (after (.rewindReceived 41) s).map.cells = [(0, .dirty), (1, .dirty), (2, .clean)]
      ∧ (after (.rewindReceived 41) s).feed.sentTotal = 41 := by decide +kernel

/-- 4.8, step 6: the ACK of 40 retires it, and its segment is CLEAN. -/
theorem test_ack_retires :
    let s : State := { feedAt .catchup with
      map := { SegMap.reset with cells := [(0, .inflight), (1, .inflight)] }
      feed := { Feed.reset with
        window := [(40, .seg 0 (Vector.replicate 64 0)), (41, .seg 1 (Vector.replicate 64 0))]
        nextNumber := 42, sentTotal := 42, freedTotal := 40 } }
    (after (.ackReceived (some 40) 41 0 .receiving) s).map.cells = [(0, .clean), (1, .inflight)]
      ∧ (after (.ackReceived (some 40) 41 0 .receiving) s).feed.freedTotal = 41 := by decide +kernel

/-- 4.8, step 3: bytes that fail their check take an IN_ORDER take to DISCARD. -/
theorem test_bad_check_discards :
    (after (.frameDiscarded [1, 2, 3, 4, 5]) (takeAt .receiving)).take.rx = .discard
      ∧ (after (.frameDiscarded [1, 2, 3, 4, 5]) (takeAt .receiving)).link.rewindDue = true := by decide +kernel

/-- 5.9, step 4: the second rewrite round of retry limit 2 fails for word 17, and the fail total goes from 3 to 4. -/
theorem test_verify_fails_at_limit :
    let i : VerifyItem := { addr := wordAddr 0 17, data := 0x20, mask := 0xFF }
    let job : VerifyJob := { use := 0, limit := 2, round := 2, writes := [], reads := [], awaiting := [i], bad := [] }
    let s : State := { takeAt .receiving with
      path := { Path.reset with returns := [{ requester := .apply 0, addr := wordAddr 0 17 }] }
      take := { Take.reset with rx := .inOrder, expected := 121, buffer := [(120, .seg 0 (Vector.replicate 64 0))], failTotal := 3,
                                apply := some { kind := .seg, segment := 0, job := job, rest := [], limit := 2 } } }
    (after (.readResponse .ok 0) s).take.failTotal = 4 ∧ (after (.readResponse .ok 0) s).faults.list = [(0, .verify)]
      ∧ (after (.readResponse .ok 0) s).take.ackSeq = some 120 := by decide +kernel

/-- 9.6, steps 3 to 6: the number is consumed by a refused directive, and a repeat is a stray trigger. -/
theorem test_repeated_trigger_is_stray :
    let s := after (.region 1) (withShadow 0x00000004_00000064 0x0000000000000100 0 State.reset)
    let t := after (.region 2) (withShadow 0x00000002_00000066 0x0000000000000101 0 s)
    s.directive.last = { number := 1, code := 2, outcome := .done } ∧ s.notices.directive = { pending := true, mark := 2 }
      ∧ t.directive.last = { number := 2, code := 2, outcome := .refusedValue }
      ∧ (after (.region 2) t).directive.stray = 1 ∧ (after (.region 2) t).directive.expected = 3 := by decide +kernel

/-- 9.6, the ACKNOWLEDGE: a raise mark that is not later than the generation named is cleared, a later one stays. -/
theorem test_acknowledge_by_mark :
    ({ pending := true, mark := 4 } : Notice).acknowledge 4 = { pending := false, mark := 4 }
      ∧ ({ pending := true, mark := 5 } : Notice).acknowledge 4 = { pending := true, mark := 5 }
      ∧ ({ pending := true, mark := 4294967295 } : Notice).acknowledge 1 = { pending := false, mark := 4294967295 } := by
  decide +kernel

/-- 4.3, R75: the CLOSE leaves as the session ends, and the link is then OFF; a link in TRAINING sends none. -/
theorem test_close_leaves_at_the_end :
    let t := after (.abort 1) (takeAt .receiving)
    let u := after (.abort 1) { takeAt .receiving with link := Link.reset.enterTraining }
    t.out.link = [.close .aborted] ∧ t.link.state = .off ∧ (after .transmitFrame t).out.link = [] ∧ u.out.link = [] := by decide +kernel

/-- R65: a TRAIN on lane 0 makes the link UP only with the filtered PEER_PRESENT level high. -/
theorem test_train_needs_the_peer :
    let s : State := { feedAt .bringup with link := Link.reset.enterTraining }
    let p : State := { s with chassis := { s.chassis with peerFiltered := true } }
    (after (.trainReceived 0 .take 1) s).link.state = .training ∧ (after (.trainReceived 0 .take 1) p).link.state = .up := by
  decide +kernel

/-- R70: two GREETs before the transmitter is free are answered by two echoes. -/
theorem test_each_greet_is_answered :
    let s := after (.greetReceived .resume 5 0 1) (after (.greetReceived .fresh 9 0 1) (takeAt .bringup))
    s.link.echoDue.map Echo.session = [9, 5] ∧ (after .transmitFrame s).link.echoDue.map Echo.session = [5] := by decide +kernel

/-- R17, R18: at the rise of RESET_N no fixed response is pending, and the read that waits for memory stays. -/
theorem test_rise_drops_fixed_responses :
    let s : State := { State.cold false Pins.reset with
      path := { Path.reset with lookupReads := [.waiting, .answered { status := .ok, data := 7 }],
                                returns := [{ requester := .upstream .lookup 0 0, addr := 0 }] } }
    (after (.resetNRise Pins.reset) s).path.lookupReads = [.waiting]
      ∧ (after (.readResponse .ok 9) (after (.resetNRise Pins.reset) s)).out.engine = [(.lookup, { status := .ok, data := 9 })] := by
  decide +kernel

/-- R20, R93: with no layout installed in the session no segment has a class, and a SEG frame fails. -/
theorem test_seg_without_layout_fails :
    let s := takeAt .receiving
    let t := after (.sequencedFrameReceived 0 (.seg 0 (Vector.replicate 64 0)))
      { s with session := { s.session with layoutInstalled := false } }
    t.take.failTotal = 1 ∧ t.take.apply = none ∧ t.take.ackSeq = some 0 := by decide +kernel

/-- R178: after 4,294,967,295 comes 1. -/
theorem test_generation_wraps : nextGeneration 4294967295 = 1 ∧ nextGeneration 0 = 1 := by decide

/-- R170: 0 is taken as 1, and a pass limit above 15 as 15. -/
theorem test_setup_clamps :
    let c := (after (.setup 1) (withShadow 0x6300000000000000 0 0 State.reset)).settings
    c.passLimit = 15 ∧ c.yieldCount = 1 ∧ c.budget = 1 ∧ c.walk = 0 := by decide +kernel

/-- The reset state is the state after a cold reset with its pins. -/
theorem test_reset_is_cold_reset : exec (.coldReset true Pins.reset) State.reset = .next State.reset := by rfl

/-! ### States that meet the hypotheses of the statements -/

/-- An idle step of a live part, with a pass running and with a freeze timer. -/
theorem witness_IdleStepIsOnePaceTick :
    (State.reset.pending = [] ∧ State.reset.live = true)
      ∧ ((feedAt .sweep).pending = [] ∧ (feedAt .sweep).live = true ∧ (feedAt .sweep).passRunning = true) := by decide +kernel

theorem witness_EveryCommandEndsSettled : ∃ t, exec (.refresh 1) State.reset = .next t := ⟨_, rfl⟩

theorem witness_WarmResetKeepsThePath :
    let s : State := { takeAt .receiving with
      path := { Path.reset with maint := .held { addr := 0, data := 1, mask := 1 },
                                returns := [{ requester := .upstream .lookup 1 5, addr := 0 }] } }
    s.live = true := by decide +kernel

/-- A part held in reset, a fixed response waiting behind an outstanding read. -/
theorem witness_ResetRiseSamplesAndReports :
    let s : State := { State.cold false Pins.reset with
      path := { Path.reset with lookupReads := [.waiting, .answered { status := .ok, data := 7 }],
                                returns := [{ requester := .upstream .lookup 0 0, addr := 0 }] } }
    s.chassis.power = true ∧ s.chassis.resetN = false ∧ s.report.writing = false := by decide

/-- A powered part, and an unpowered one at rest. -/
theorem witness_PowerFallReleasesEverything :
    let u : State := { State.reset with chassis := { State.reset.chassis with power := false } }
    (feedAt .steady).chassis.power = true ∧ (∀ resetN pins, Instr.warmReset ≠ .coldReset resetN pins) ∧ u.chassis.power = false
      ∧ u.settled := by
  intro u
  refine ⟨by decide, (fun _ _ h => nomatch h), by decide, ?_⟩
  exact settled_of (by decide) (by decide +kernel) (by decide) (by decide)

/-- A blocked word, the last word of the blocked segment, the first word behind it; a full overlay entry, a partial one. -/
theorem witness_ReadsAreExamined :
    let s := takeAt .receiving
    let f : State := { feedAt .replay with
      freeze := { entries := [{ addr := 0, data := 7, mask := fullMask, flushing := false },
                              { addr := 1, data := 7, mask := 0x7F, flushing := false }], timer := none } }
    (s.live = true ∧ s.path.lookup = none ∧ s.path.maint = .empty ∧ s.path.reads .lookup = []
        ∧ s.blocked 0 = true ∧ s.blocked 63 = true ∧ s.blocked 64 = false ∧ s.freeze.find 64 = none)
      ∧ (f.live = true ∧ f.path.lookup = none ∧ f.path.maint = .empty ∧ f.path.reads .maintenance = []
        ∧ f.blocked 0 = false ∧ f.freeze.find 0 = some { addr := 0, data := 7, mask := fullMask, flushing := false }
        ∧ (f.freeze.find 1).map OverlayEntry.mask = some 0x7F) := by decide +kernel

theorem witness_ReadsAreAnsweredInOrder :
    let s : State := { State.reset with
      path := { Path.reset with lookupReads := [.waiting, .waiting],
                                returns := [{ requester := .upstream .lookup 1 5, addr := 0 }] } }
    s.chassis.power = true ∧ s.path.returns = { requester := .upstream .lookup 1 5, addr := 0 } :: []
      ∧ s.path.reads .lookup = .waiting :: [.waiting] ∧ ∀ x ∈ [PendingRead.waiting], x = .waiting := by decide +kernel

/-- A blocked write; the three holds, the throttle's one tick short of its spacing, and a write just past each (16 ticks, a SNAPSHOT
address); the two ways into the overlay; and the candidate. -/
theorem witness_WritesAreExamined :
    let t := takeAt .receiving
    let thr := fun tick : Nat => ({ feedAt .sweep with
      chassis := { State.reset.chassis with tick := tick }
      review := { Review.reset with throttle := 3, lastAdmitted := some 5 } } : State)
    let r : State := { feedAt .replay with
      freeze := { entries := [{ addr := 0, data := 1, mask := 1, flushing := false }], timer := none } }
    (t.live = true ∧ t.path.maint = .empty ∧ t.inTake = true ∧ t.session.layoutInstalled = true ∧ t.classOf 63 ≠ .localOnly
        ∧ t.classOf 64 = .localOnly)
      ∧ ((thr 20).live = true ∧ (thr 20).path.maint = .empty ∧ (thr 20).inFeed = true ∧ (thr 20).classOf 127 = .mirror
        ∧ (thr 20).review.lastAdmitted = some 5 ∧ (thr 20).chassis.tick - 5 < 16 ∧ ¬ (thr 21).chassis.tick - 5 < 16
        ∧ (thr 20).classOf 128 = .snapshot ∧ (thr 20).inTake = false)
      ∧ ((feedAt .handover).inFeed = true ∧ (feedAt .handover).classOf 0 = .mirror ∧ (feedAt .handover).path.maint = .empty)
      ∧ ((feedAt .freeze).inFeed = true ∧ (feedAt .freeze).freeze.find 0 = none ∧ ¬ 4096 ≤ (feedAt .freeze).freeze.entries.length
        ∧ (feedAt .freeze).path.maint = .empty)
      ∧ (r.inFeed = true ∧ r.freeze.find 0 ≠ none ∧ r.freeze.find 1 = none ∧ r.path.maint = .empty)
      ∧ (State.reset.inFeed = false ∧ State.reset.inTake = false ∧ State.reset.path.maint = .empty) := by decide +kernel

/-- An overlay of `n` entries for one address holds none for another. -/
theorem full_overlay (n : Nat) (e : OverlayEntry) (a : Addr) (h : (e.addr == a) = false) :
    (overlay (List.replicate n e)).find a = none ∧ n ≤ (overlay (List.replicate n e)).entries.length := by
  refine ⟨?_, by simp [overlay]⟩
  show (List.replicate n e).find? _ = none
  rw [List.find?_eq_none]
  intro x hx
  rw [(List.mem_replicate.mp hx).2, h]
  decide

/-- A full overlay of 4,096 entries and a MIRROR write to an address it does not hold. -/
theorem witness_WritesAreExamined_full :
    let s := fun es : List OverlayEntry => ({ feedAt .freeze with freeze := overlay es } : State)
    ((s []).live = true ∧ (s []).path.maint = .empty ∧ (s []).inFeed = true ∧ (s []).session.state = .freeze
        ∧ (s []).classOf 0 = .mirror)
      ∧ ∃ es, (s es).freeze.find 0 = none ∧ 4096 ≤ (s es).freeze.entries.length :=
  ⟨by decide +kernel, _, full_overlay 4096 { addr := 1, data := 1, mask := 1, flushing := false } 0 (by decide)⟩

/-- Throttle level 3, the last admission 15 ticks back, one short of the spacing. -/
theorem witness_SpacingPassedAdmitsHeldWrite :
    let s : State := { feedAt .sweep with
      chassis := { State.reset.chassis with tick := 20 }
      review := { Review.reset with throttle := 3, lastAdmitted := some 5 }
      path := { Path.reset with maint := .held { addr := 0, data := 1, mask := 1 } } }
    s.live = true ∧ s.inFeed = true ∧ s.session.state = .sweep ∧ s.review.throttle ≠ 0 ∧ s.review.lastAdmitted = some 5
      ∧ 5 ≤ s.chassis.tick ∧ s.chassis.tick ≤ 5 + spacingOf s.review.throttle
      ∧ s.path.maint = .held { addr := 0, data := 1, mask := 1 } ∧ s.blocked 0 = false ∧ s.classOf 0 = .mirror := by decide +kernel

theorem witness_CaptureMergesOrAppends :
    let f := overlay [{ addr := 0, data := 7, mask := 1, flushing := true }]
    f.find 0 = some { addr := 0, data := 7, mask := 1, flushing := true } ∧ f.find 1 = none ∧ (1 : Addr) ≠ 0 := by decide +kernel

theorem witness_OverlayKeepsEveryWordsView :
    let s : State := { feedAt .freeze with
      freeze := overlay [{ addr := 0, data := 7, mask := 1, flushing := true },
                         { addr := 1, data := 7, mask := 1, flushing := false }] }
    (s.freeze.entries.map OverlayEntry.addr).Nodup := by decide +kernel

/-- An owed requester; none owed with each kind of winner and with none; UPSTREAM with a lookup read, with both streams, with one. -/
theorem witness_ArbiterChoosesByOwedThenLevel :
    let both : State := { sweeping with path := { sweeping.path with maint := .write { addr := 0, data := 1, mask := 1 } } }
    let one : State := { sweeping with path := { Path.reset with maint := .write { addr := 0, data := 1, mask := 1 } } }
    (let s : State := { sweeping with path := { sweeping.path with waitRuns := { WaitRuns.reset with walk := 3 } } };
      s.owed .walk = true ∧ s.winner = some (.owed .walk))
      ∧ ((∀ q ∈ Requester.order, sweeping.owed q = false) ∧ sweeping.winner = some .upstream)
      ∧ State.reset.winner = some (.byLevel .report)
      ∧ ({ State.reset with report := Report.reset .cold } : State).winner = none
      ∧ (both.chassis.power = true ∧ both.winner = some .upstream ∧ both.path.lookup = some 0
        ∧ both.path.returns.length < Config.returnPlaces)
      ∧ (one.chassis.power = true ∧ one.winner = some .upstream ∧ one.path.lookup = none
        ∧ one.path.maint = .write { addr := 0, data := 1, mask := 1 }) := by decide +kernel

/-- A waiting requester below the midpoint and one that does not wait; an owed and a not owed one, the run at the yield count and one
below; a SETUP that changes the yield count; a command that leaves a waiting request as it is. -/
theorem witness_WaitRunsFollowTheGrant :
    let owed := fun run : Nat => ({ sweeping with path := { sweeping.path with waitRuns := { WaitRuns.reset with walk := run } } } : State)
    (sweeping.waits .walk = true ∧ sweeping.settings.level .walk ≤ 3)
      ∧ (sweeping.waits .fill = false ∧ 4 ≤ sweeping.settings.level .report)
      ∧ (sweeping.chassis.power = true ∧ sweeping.winner = some .upstream)
      ∧ ((owed 3).owed .walk = true ∧ (∀ q ∈ Requester.order, (owed 2).owed q = false)
        ∧ ∀ r ∈ Requester.order, (owed 3).path.waitRuns.get r ≤ (owed 3).settings.yieldCount)
      ∧ (after (.setup 1) (withShadow 0 0 0 State.reset)).settings.yieldCount ≠ State.reset.settings.yieldCount
      ∧ ((after .pwrGoodFall sweeping).settings = sweeping.settings
        ∧ (after (.lookupRead 0) (owed 2)).waits .walk = true ∧ (after (.lookupRead 0) (owed 2)).offer .walk = (owed 2).offer .walk
        ∧ (after (.lookupRead 0) (owed 2)).settings = (owed 2).settings ∧ (owed 2).signals = .none ∧ (owed 2).instepTest = false
        ∧ (owed 2).feed.instepWaiting = false ∧ (owed 2).waits .report = false) := by decide +kernel

/-- A lookup read first, a maintenance write alone, a part requester by level, and a full read return list. -/
theorem witness_GrantPassesTheWinnersRequest :
    (sweeping.chassis.power = true ∧ sweeping.winner = some .upstream ∧ sweeping.isReady sweeping.lookupOffer = true)
      ∧ (let s : State := { sweeping with path := { Path.reset with maint := .write { addr := 0, data := 1, mask := 1 } } }
        s.winner = some .upstream ∧ s.isReady s.lookupOffer = false)
      ∧ State.reset.winner = some (.byLevel .report)
      ∧ (let s : State := { sweeping with path := { Path.reset with
          returns := List.replicate 64 { requester := .upstream .lookup 0 0, addr := 0 } } };
        Config.returnPlaces ≤ s.path.returns.length ∧ s.winner = none) := by decide +kernel

/-- REPLAY's grants: a flush write in IDLE; a replay write of the last entry, a handover pending; replay writes behind a MIR frame of 7
records and of 8. REPORT's: words 254 and 255, a further report requested and not. -/
theorem witness_GrantPassesTheWinnersRequest_part :
    let r : MirrorRecord := { addr := 3, data := 1, mask := 1 }
    let e := fun flushing : Bool => ({ addr := 0, data := 7, mask := 1, flushing := flushing } : OverlayEntry)
    let quiet := fun s : State => ({ s with report := Report.reset .cold } : State)
    let flush : State := quiet { State.reset with freeze := { entries := [e true], timer := none } }
    let replay := fun (n : Nat) (entries : List OverlayEntry) => quiet { feedAt .replay with
      freeze := { entries := entries, timer := none }
      feed := { Feed.reset with queue := [.instep] ++ [.mir (List.replicate n r)] }
      session := { (feedAt .replay).session with handoverPending := true } }
    let report := fun (n : Nat) (again : Bool) => ({ State.reset with
      report := { State.reset.report with nextWord := n, again := again } } : State)
    (flush.chassis.power = true ∧ flush.winner = some (.byLevel .replay) ∧ flush.freeze.entries.find? (fun x => x.flushing) = some (e true)
        ∧ flush.path.maint = .empty ∧ flush.session.state ≠ .replay)
      ∧ ((replay 7 [e false]).winner = some (.byLevel .replay) ∧ (replay 7 [e false]).session.state = .replay
        ∧ ((replay 7 [e false]).freeze.entries.filter fun x => x.addr ≠ (e false).addr) = [])
      ∧ ((replay 8 [e false, { e false with addr := 1 }]).winner = some (.byLevel .replay)
        ∧ ((replay 8 [e false, { e false with addr := 1 }]).freeze.entries.filter fun x => x.addr ≠ (e false).addr) ≠ []
        ∧ 8 ≤ (List.replicate 8 r).length ∧ (List.replicate 7 r).length < 8)
      ∧ ((report 254 false).winner = some (.byLevel .report) ∧ (report 254 false).report.nextWord < 255)
      ∧ ((report 255 false).winner = some (.byLevel .report) ∧ (report 255 false).report.again = false)
      ∧ ((report 255 true).winner = some (.byLevel .report) ∧ (report 255 true).report.again = true) := by decide +kernel

/-- WALK's grant with reads left in one buffer and in both; APPLY's and FILL's with a write left and with the last verify read left. -/
theorem witness_GrantPassesTheWinnersRequest_rounds :
    let walk := fun second : Option Buffer => ({ feedAt .sweep with
      report := Report.reset .cold
      walker := { Walker.reset with buf0 := some { Buffer.start 0 1 with nextRead := 63 }, buf1 := second } } : State)
    let i : VerifyItem := { addr := 63, data := 1, mask := 1 }
    let job := fun writes : List VerifyItem =>
      ({ use := 0, limit := 1, round := 0, writes := writes, reads := [i], awaiting := [], bad := [] } : VerifyJob)
    let a := fun writes => ({ kind := .seg, segment := 0, rest := [], limit := 1, job := job writes } : ApplyWork)
    let f := fun writes => ({ place := 0, segment := 0, job := job writes } : FillWork)
    let lines : Chassis := { State.reset.chassis with takeEn := true }
    let apply := fun writes => ({ takeAt .receiving with
      chassis := lines, report := Report.reset .cold, take := { Take.reset with rx := .inOrder, apply := some (a writes) } } : State)
    let fill := fun writes => ({ takeAt .install with
      chassis := lines, report := Report.reset .cold, take := { Take.reset with fill := some (f writes) } } : State)
    ((walk none).chassis.power = true ∧ (walk none).winner = some (.byLevel .walk))
      ∧ ((walk (some (Buffer.start 1 0))).winner = some (.byLevel .walk) ∧ (Buffer.start 1 0).use < (Buffer.start 0 1).use)
      ∧ ((apply [i]).chassis.power = true ∧ (apply [i]).winner = some (.byLevel .apply) ∧ (a [i]).job.writes = i :: [])
      ∧ ((apply []).winner = some (.byLevel .apply) ∧ (a []).job.writes = [] ∧ (a []).job.reads = i :: [])
      ∧ ((fill [i]).chassis.power = true ∧ (fill [i]).winner = some (.byLevel .fill) ∧ (f [i]).job.writes = i :: [])
      ∧ ((fill []).winner = some (.byLevel .fill) ∧ (f []).job.writes = [] ∧ (f []).job.reads = i :: []) := by decide +kernel

/-- A granted write, power on: in a feed session with a partial overlay entry of its address and a buffer of its segment in which the word
has arrived, is granted, is neither; outside a feed session; with an empty mask; while RESET_N is low. A maintenance read. -/
theorem witness_UpstreamGrantsLookUpAndSnoop_writes :
    let w := fun mask : Mask => ({ addr := 127, data := 5, mask := mask } : WriteReq)
    let o : OverlayEntry := { addr := 127, data := 7, mask := 3, flushing := true }
    let word := fun granted arrived : Bool => ({ granted := granted, arrived := arrived, data := 0, patch := 0 } : StageWord)
    let b := fun granted arrived : Bool =>
      ({ Buffer.start 1 0 with words := Vector.replicate 64 (word granted arrived), waiting := true } : Buffer)
    let s := fun granted arrived : Bool => ({ feedAt .sweep with
      report := Report.reset .cold
      freeze := { entries := [o], timer := none }
      settings := { Settings.reset with replay := 1 }
      walker := { Walker.reset with buf1 := some (b granted arrived) }
      path := { Path.reset with maint := .write (w 1) } } : State)
    let idle := fun (mask : Mask) (resetN : Bool) => ({ State.reset with
      chassis := { State.reset.chassis with resetN := resetN }
      report := Report.reset .cold, path := { Path.reset with maint := .write (w mask) } } : State)
    let read : State := { State.reset with report := Report.reset .cold, path := { Path.reset with maint := .read 5 } }
    ((s true true).chassis.power = true ∧ (s true true).winner = some .upstream ∧ (s true true).live = true
        ∧ (s true true).isReady (s true true).lookupOffer = false ∧ (s true true).path.maint = .write (w 1)
        ∧ slotOffset (s true true).chassis.msize (w 1).addr = none ∧ (s true true).inFeed = true
        ∧ (s true true).walker.buf true = some (b true true) ∧ (b true true).segment = segmentOf (w 1).addr
        ∧ o ∈ (s true true).freeze.entries ∧ o.addr = (w 1).addr ∧ o.mask &&& ~~~ (w 1).mask ≠ 0)
      ∧ ((s true false).winner = some .upstream ∧ (s true false).walker.buf true = some (b true false)
        ∧ (s false false).winner = some .upstream ∧ (s false false).walker.buf true = some (b false false))
      ∧ ((idle 1 true).winner = some .upstream ∧ (idle 1 true).inFeed = false ∧ (idle 1 true).live = true)
      ∧ ((idle 0 true).winner = some .upstream ∧ (w 0).mask = 0 ∧ (idle 0 true).settled)
      ∧ ((idle 1 false).chassis.power = true ∧ (idle 1 false).winner = some .upstream ∧ (idle 1 false).live = false ∧ (idle 1 false).settled)
      ∧ (read.chassis.power = true ∧ read.winner = some .upstream ∧ read.path.lookup = none ∧ read.path.maint = .read 5) := by
  refine ⟨by decide +kernel, by decide +kernel, by decide +kernel, ⟨by decide +kernel, by decide, ?_⟩,
    ⟨by decide, by decide +kernel, by decide, ?_⟩, by decide +kernel⟩ <;>
  exact settled_of (by decide) (by decide +kernel) (by decide) (by decide)

/-- A lookup read with 63 reads in the return list; a write to slot word 7, the last of the shadow; an ABORT in slot word 0. -/
theorem witness_UpstreamGrantsLookUpAndSnoop :
    (let s : State := { sweeping with path := { sweeping.path with
        returns := List.replicate 63 { requester := .upstream .lookup 0 0, addr := 0 } } };
      s.chassis.power = true ∧ s.winner = some .upstream ∧ s.path.lookup = some 0
        ∧ s.path.returns.length < Config.returnPlaces)
      ∧ (let w : WriteReq := { addr := 2096135, data := 1, mask := 0x80 }
        let s : State := { sweeping with path := { Path.reset with maint := .write w } };
        s.chassis.power = true ∧ s.live = true ∧ s.winner = some .upstream ∧ s.isReady s.lookupOffer = false
          ∧ s.path.maint = .write w ∧ w.mask ≠ 0 ∧ slotOffset s.chassis.msize w.addr = some ((6 : Fin 7).val + 1))
      ∧ (let w : WriteReq := { addr := 2096128, data := 0xC5 + 256 * 1 + 65536 * 7, mask := fullMask }
        let s : State := { sweeping with path := { Path.reset with maint := .write w } };
        s.chassis.power = true ∧ s.live = true ∧ s.winner = some .upstream ∧ s.isReady s.lookupOffer = false
          ∧ s.path.maint = .write w ∧ w.mask ≠ 0 ∧ slotOffset s.chassis.msize w.addr = some 0 ∧ s.classOf w.addr = .localOnly ∧ s.freeze.entries = []
          ∧ s.walker.buf0.map Buffer.segment = some 0 ∧ s.walker.buf1 = none ∧ segmentOf w.addr ≠ 0 ∧ s.session.state ≠ .replay
          ∧ s.slotZeroCommand w = .abort 1) := by decide +kernel

/-- A MIRROR write to a CLEAN and to an INFLIGHT segment; a last MIR frame with 7 records, a queue of 15 and of 16 other frames; CLEAN in
SUSPENDED; a DIRTY segment. -/
theorem witness_MirrorWriteAtGrant :
    let r : MirrorRecord := { addr := 0, data := 1, mask := 1 }
    let s := feedAt .steady
    let i : State := { s with map := { SegMap.reset with cells := [(0, .inflight)] } }
    let q : List SeqFrame := [.instep] ++ [.mir (List.replicate 7 r)]
    (s.inFeed = true ∧ s.classOf 0 = .mirror ∧ s.classOf 127 = .mirror ∧ s.map.get (segmentOf 0) = .clean
        ∧ s.session.state ≠ .suspended ∧ i.map.get (segmentOf 0) = .inflight)
      ∧ ((List.replicate 7 r).length < 8 ∧ ({ s with feed := { Feed.reset with queue := q } } : State).feed.queue = q)
      ∧ ((List.replicate 15 SeqFrame.instep).length < 16 ∧ 16 ≤ (List.replicate 16 SeqFrame.instep).length
        ∧ (List.replicate 16 SeqFrame.instep).getLast? = some .instep)
      ∧ ((feedAt .suspended).inFeed = true ∧ (feedAt .suspended).map.get (segmentOf 0) = .clean
        ∧ (feedAt .suspended).session.state = .suspended)
      ∧ ({ s with map := { SegMap.reset with cells := [(0, .dirty)] } } : State).map.get (segmentOf 0) = .dirty := by
  decide +kernel

/-- A granted write to a MIRROR segment and one to a SNAPSHOT segment, UPSTREAM the winner. -/
theorem witness_MirrorWriteAtGrant_granted :
    let w := fun a : Addr => ({ addr := a, data := 1, mask := 1 } : WriteReq)
    let s := fun a : Addr => ({ feedAt .steady with
      report := Report.reset .cold, path := { Path.reset with maint := .write (w a) } } : State)
    ((s 0).live = true ∧ (s 0).inFeed = true ∧ (s 0).classOf (w 0).addr = .mirror ∧ (s 0).winner = some .upstream
        ∧ (s 0).isReady (s 0).lookupOffer = false ∧ (s 0).path.maint = .write (w 0) ∧ (w 0).mask ≠ 0
        ∧ slotOffset (s 0).chassis.msize (w 0).addr ≠ some 0)
      ∧ ((s 128).classOf (w 128).addr = .snapshot ∧ (s 128).winner = some .upstream
        ∧ (s 128).isReady (s 128).lookupOffer = false ∧ slotOffset (s 128).chassis.msize (w 128).addr ≠ some 0) := by decide +kernel

theorem witness_SnapshotWriteAtGrant :
    let s := feedAt .steady
    (s.inFeed = true ∧ s.classOf 128 = .snapshot ∧ s.classOf 191 = .snapshot ∧ s.map.get (segmentOf 128) = .clean)
      ∧ ({ s with map := { SegMap.reset with cells := [(2, .opened)] } } : State).map.get (segmentOf 128) = .opened := by
  decide +kernel

theorem witness_CountsSumToTrackedSegments :
    ((feedAt .steady).mapLegal ∧ (feedAt .steady).inFeed = true) ∧ (State.reset.mapLegal ∧ State.reset.inFeed = false) := by
  refine ⟨⟨?_, by decide +kernel⟩, ?_, by decide +kernel⟩
  · rw [State.mapLegal, if_pos (by decide +kernel)]; decide +kernel
  · rw [State.mapLegal, if_neg (by decide +kernel)]; decide +kernel

/-- Two writes before the response and one after it. -/
theorem witness_StagedWordHoldsLaterWrites :
    let x : StageWord := { granted := true, arrived := false, data := 0, patch := 0 }
    x.granted = true ∧ x.arrived = false ∧ x.data = 0 ∧ x.patch = 0 := by decide

/-- A segment to be copied with buffer 0 FREE, and with buffer 1 alone; one not to be copied; one to be copied with no buffer FREE. The last
place of the order. -/
theorem witness_WalkerWorksAtItsCursor :
    let s : State := { feedAt .sweep with
      map := { SegMap.reset with cells := [(0, .unsent), (1, .clean), (2, .dirty)] }
      walker := { Walker.reset with cursor := some 2 } }
    let busy : State := { s with walker := { s.walker with buf0 := some (Buffer.start 0 0), buf1 := some (Buffer.start 1 1) } }
    let half : State := { busy with walker := { busy.walker with buf1 := none } }
    (half.walking = true ∧ half.walker.cursor = some 2 ∧ half.toCopy (half.map.get 2) = true ∧ half.walker.buf0 ≠ none
        ∧ half.walker.buf1 = none ∧ half.freeze.flushingIn 2 = false)
      ∧ (s.live = true ∧ s.walking = true ∧ s.walker.cursor = some 2 ∧ (walkOrder s.regions)[2]? = some 2
        ∧ s.toCopy (s.map.get 2) = true ∧ s.freeze.flushingIn 2 = false ∧ s.walker.buf0 = none)
      ∧ ((walkOrder s.regions)[1]? = some 1 ∧ s.toCopy (s.map.get 1) = false)
      ∧ (busy.live = true ∧ busy.walking = true ∧ busy.walker.hasFree = false) := by decide +kernel

/-- Either buffer WAITING for an OPEN segment, the other not or taken later, the queue with one place left; the cursor at END, and the
cursor waiting at a DIRTY segment. -/
theorem witness_QueuedSegFrameIsTheBuffers :
    let b : Buffer := { Buffer.start 1 0 with waiting := true, responses := 64, nextRead := 64 }
    let later : Buffer := { b with segment := 0, use := 1 }
    let s : State := { feedAt .sweep with
      map := { SegMap.reset with cells := [(0, .opened), (1, .opened), (2, .dirty)] }
      feed := { Feed.reset with queue := List.replicate 15 .instep }
      walker := { Walker.reset with buf0 := some later, buf1 := some b } }
    let c : State := { s with walker := { s.walker with cursor := some 2 } }
    let first : State := { s with walker := { Walker.reset with buf0 := some b } }
    (s.live = true ∧ s.inFeed = true ∧ s.walker.buf true = some b ∧ b.waiting = true ∧ s.walker.buf (!true) = some later
        ∧ later.waiting = true ∧ b.use < later.use
        ∧ s.feed.queue.length < Config.queuePlaces ∧ s.session.stalePending = false ∧ s.feed.instepWaiting = false
        ∧ s.map.get b.segment = .opened ∧ s.walker.cursor = none)
      ∧ (first.walker.buf false = some b ∧ first.walker.buf (!false) = none)
      ∧ (c.walking = true ∧ c.walker.cursor = some 2 ∧ (walkOrder c.regions)[2]? = some 2 ∧ c.toCopy (c.map.get 2) = true
        ∧ c.freeze.flushingIn 2 = false) := by decide +kernel

/-- A FAULT as the 64th response, and an OK behind an earlier FAULT, at buffer 1. -/
theorem witness_SourceFaultAtLastResponse :
    let b := fun seen : Bool => ({ Buffer.start 1 0 with responses := 63, nextRead := 64, faultSeen := seen } : Buffer)
    let s := fun seen : Bool => ({ feedAt .sweep with
      map := { SegMap.reset with cells := [(0, .clean), (1, .opened), (2, .clean)] }
      path := { Path.reset with returns := [{ requester := .walk true 63 0, addr := 127 }] }
      walker := { Walker.reset with buf1 := some (b seen) } } : State)
    ((s false).live = true ∧ (s false).path.returns = { requester := .walk true 63 (b false).use, addr := 127 } :: []
        ∧ (s false).walker.buf true = some (b false) ∧ (b false).responses = 63 ∧ (s false).map.get (b false).segment = .opened
        ∧ (s false).walker.cursor = none)
      ∧ ((s true).walker.buf true = some (b true) ∧ (b true).faultSeen = true) := by decide +kernel

/-- A 63rd response, a 64th with all OK, a response of an earlier use, and one for a FREE buffer. -/
theorem witness_SourceFaultAtLastResponse_word :
    let b := fun responses : Nat => ({ Buffer.start 1 1 with responses := responses, nextRead := 64 } : Buffer)
    let s := fun (responses use : Nat) (second : Bool) => ({ feedAt .sweep with
      report := Report.reset .cold
      path := { Path.reset with returns := [{ requester := .walk second 63 use, addr := 127 }] }
      walker := { Walker.reset with buf0 := some (b responses) } } : State)
    ((s 62 1 false).live = true ∧ (s 62 1 false).path.returns = { requester := .walk false 63 1, addr := 127 } :: []
        ∧ (s 62 1 false).walker.buf false = some (b 62) ∧ (b 62).use = 1 ∧ (b 62).responses < 63)
      ∧ ((s 63 1 false).walker.buf false = some (b 63) ∧ (b 63).responses = 63 ∧ (b 63).faultSeen = false)
      ∧ ((s 62 0 false).live = true ∧ (s 62 0 false).walker.buf false = some (b 62) ∧ (b 62).use ≠ 0 ∧ (s 62 0 false).settled)
      ∧ ((s 62 1 true).walker.buf true = none ∧ (s 62 1 true).settled) := by
  refine ⟨by decide +kernel, by decide +kernel, ⟨by decide, by decide, by decide, ?_⟩, by decide, ?_⟩ <;>
  exact settled_of (by decide) (by decide +kernel) (by decide) (by decide)

/-- A part at rest in IDLE, some ticks after its reset. -/
def rest : State := { State.reset with chassis := { State.reset.chassis with tick := 5 } }

theorem rest_settled : rest.settled := settled_of (by decide) (by decide +kernel) (by decide) (by decide)

/-- A word of the shadow, a stray word, and the kind codes 0 and 12 at the edges of those unknown. -/
theorem witness_SlotWordsThatAreNoDirective :
    rest.live = true ∧ rest.settled ∧ (0x80 : Mask) ≠ 0
      ∧ ¬ (fullMask = fullMask ∧ byteOf 0x0200C5 0 = 0xC5 ∧ byteOf 0x0200C5 1 = rest.directive.expected)
      ∧ ((0 : Byte) = 0 ∧ 11 < (12 : Byte).toNat) :=
  ⟨by decide, rest_settled, by decide, by decide +kernel, by decide⟩

/-- One directive that is taken and one refused by each test, from a settled state; and a number that is not expected. -/
theorem witness_DirectivesAreJudgedInOrder :
    rest.live = true ∧ rest.settled ∧ rest.stateLegal ∧ rest.session.state = .idle ∧ rest.session.role ≠ .feed
      ∧ rest.chassis.takeEn = false ∧ (rest.directive.word 1).toNat % 2 ^ 16 = 0 ∧ (2 : Byte) ≠ rest.directive.expected :=
  ⟨by decide, rest_settled, show rest.session.state = .idle from rfl, by decide, by decide, by decide, by decide +kernel, by decide⟩

/-- A REGION whose last segment is the last below the control area (32751 with MSIZE 0), and one a segment longer; ADOPT in RECEIVING with
and without the force flag; RELEASE in STEADY; FEED with an id and tracked segments; TAKE with TAKE_EN high. -/
theorem witness_DirectivesAreJudgedInOrder_tests :
    let region := fun length : Word => withShadow (32735 + length * 4294967296) 0x100 0 rest
    let adopt := fun force : Word => withShadow force 0 0 (takeAt .receiving)
    let feed : State := withShadow 7 0 0 { rest with regions := table [entry 0 2 .mirror 0] }
    let ready : State := { rest with chassis := { rest.chassis with takeEn := true } }
    let base := fun s : State => (s.directive.word 1).toNat % 2 ^ 18
    let length := fun s : State => (s.directive.word 1).toNat / 2 ^ 32 % 2 ^ 18
    (base (region 17) + length (region 17) - 1 = segmentsOf (region 17).chassis.msize - 17 ∧ (region 17).session.state = .idle
        ∧ (∀ j : Fin 16, (region 17).regions[j].length = 0) ∧ ((region 17).directive.word 2).toNat / 2 ^ 8 % 2 ^ 8 ≤ 3)
      ∧ (length (region 18) ≠ 0 ∧ segmentsOf (region 18).chassis.msize - 17 < base (region 18) + length (region 18) - 1)
      ∧ ((adopt 1).live = true ∧ (adopt 1).session.role = .take ∧ (adopt 1).session.state = .receiving
        ∧ ((adopt 1).directive.word 1).getLsbD 0 = true ∧ ((adopt 0).directive.word 1).getLsbD 0 = false)
      ∧ ((feedAt .steady).session.role = .feed ∧ (feedAt .steady).session.state = .steady ∧ (feedAt .sweep).session.state ≠ .steady)
      ∧ (feed.session.state = .idle ∧ (feed.directive.word 1).toNat % 2 ^ 16 ≠ 0 ∧ feed.regions[(0 : Fin 16)].length ≠ 0
        ∧ feed.regions[(0 : Fin 16)].cls = .mirror)
      ∧ (ready.live = true ∧ ready.chassis.takeEn = true ∧ ready.session.lockout = false) := by decide +kernel

/-- SETUP in IDLE, changing the yield count. -/
theorem witness_SetupReplacesEveryValue :
    State.reset.live = true ∧ State.reset.session.state = .idle
      ∧ State.reset.settings.sameArbiter (setupSettings 0 0) = false := by decide +kernel

/-- Length 0; the largest run that ends below the control area; a run that shares a segment with another entry. -/
theorem witness_RegionRewritesItsEntry :
    let s : State := { State.reset with regions := table [entry 100 4 .mirror 0] }
    let big := withShadow 0x00007FEF_00000001 0x0000000000000101 0 State.reset
    let shared := withShadow 0x00000002_00000066 0x0000000000000101 0 s
    (State.reset.live = true ∧ State.reset.session.state = .idle ∧ State.reset.regionRequest.length = 0)
      ∧ (big.live = true ∧ big.session.state = .idle ∧ big.regionRequest.length ≠ 0
        ∧ big.regionRequest.base.toNat + big.regionRequest.length.toNat - 1 = segmentsOf big.chassis.msize - 17
        ∧ big.regionRequest.cls.toNat ≤ 3)
      ∧ (shared.live = true ∧ shared.session.state = .idle ∧ shared.regionRequest.index.toNat = 1
        ∧ shared.regionRequest.base.toNat + shared.regionRequest.length.toNat
            = shared.regions[0].base.toNat + shared.regions[0].length.toNat) := by decide +kernel

theorem witness_FeedStartsASession :
    let s := withShadow 1 0 0 { State.reset with regions := table [entry 0 1 .snapshot 0] }
    s.live = true ∧ s.session.state = .idle ∧ feedSession (s.directive.word 1) ≠ 0 ∧ trackedTotal s.regions ≠ 0
      ∧ s.path.maint = .empty := by decide +kernel

theorem witness_TakeStartsASession :
    let s : State := { State.reset with chassis := { State.reset.chassis with takeEn := true } }
    s.live = true ∧ s.session.state = .idle ∧ s.chassis.takeEn = true ∧ s.session.lockout = false := by decide

theorem witness_HandoverRequestActsByState :
    ((feedAt .steady).live = true ∧ (feedAt .steady).inFeed = true ∧ (feedAt .steady).chassis.eject = false)
      ∧ ((feedAt .handover).live = true ∧ (feedAt .handover).inFeed = true)
      ∧ ((feedAt .suspended).live = true ∧ (feedAt .suspended).inFeed = true) := by decide

/-- Each end of a feed session. -/
theorem witness_FeedSessionEnds :
    ((feedAt .steady).live = true ∧ (feedAt .steady).inFeed = true ∧ (feedAt .steady).link.state = .up)
      ∧ (let s : State := { feedAt .handover with freeze := overlay [] }
        s.live = true ∧ s.inFeed = true ∧ s.session.state = .handover ∧ s.freeze.timer ≠ none)
      ∧ (let s : State := { feedAt .suspended with session := { (feedAt .suspended).session with hold := some 0 } }
        s.live = true ∧ s.inFeed = true ∧ s.session.state = .suspended ∧ s.session.hold ≠ none)
      ∧ (let s : State := { feedAt .bringup with link := { upLink with bringup := some 0 } }
        s.live = true ∧ s.inFeed = true ∧ s.link.bringup ≠ none ∧ s.link.state ≠ .off ∧ (1 : BitVec 1) ≠ s.chassis.slotId) := by
  decide +kernel

/-- Each end of a take session, ADOPT with and without force. -/
theorem witness_TakeSessionEnds :
    ((takeAt .synced).live = true ∧ (takeAt .synced).inTake = true ∧ (takeAt .synced).chassis.eject = false)
      ∧ (let s := withShadow 1 0 0 (takeAt .receiving)
        s.live = true ∧ s.inTake = true ∧ adoptForce (s.directive.word 1) = true ∧ s.session.state = .receiving)
      ∧ (let s : State := { takeAt .final with chassis := { State.reset.chassis with takeEn := true } }
        s.live = true ∧ s.inTake = true ∧ s.chassis.takeEn = true)
      ∧ (let s : State := { takeAt .bringup with link := { upLink with bringup := some 0 } }
        s.live = true ∧ s.inTake = true ∧ s.link.bringup ≠ none ∧ s.link.state ≠ .off ∧ (1 : BitVec 1) ≠ s.chassis.slotId) := by
  decide +kernel

/-- A raise mark at each end of its range. -/
theorem witness_NoticesAndRefresh :
    let s : State := { State.reset with notices := { State.reset.notices with
      line := { pending := true, mark := 1 }, state := { pending := true, mark := 4294967295 } } }
    (s.live = true ∧ 1 ≤ (s.notices.get .line).mark ∧ (s.notices.get .line).mark ≤ 4294967295
        ∧ 1 ≤ (s.notices.get .state).mark ∧ (s.notices.get .state).mark ≤ 4294967295)
      ∧ (rest.live = true ∧ rest.settled)
      ∧ (let q : State := { rest with report := { rest.report with writing := false } }; q.settled ∧ q.report.writing = false) :=
  ⟨by decide +kernel, ⟨by decide, rest_settled⟩, settled_of (by decide) (by decide +kernel) (by decide) (by decide), by decide⟩

/-- The settled states used below. -/
theorem feedAt_sweep_settled : (feedAt .sweep).settled := settled_of (by decide) (by decide +kernel) (by decide) (by decide)

theorem takeAt_receiving_settled : (takeAt .receiving).settled := settled_of (by decide) (by decide +kernel) (by decide) (by decide)

/-- A pass with figures, its DIRTY segments as given. -/
def reviewed (t c w d : Nat) : State :=
  { feedAt .catchup with
    map := { SegMap.reset with cells := (List.range d).map fun n => (n, .dirty) }
    review := { Review.reset with t := t, c := c, w := w } }

/-- C 0; t 0; and pass 2 of 6.7, where seg_time is 16,000 / 1,500 rounded up, rate 64 exactly and predicted 248. -/
theorem witness_ReviewArithmetic :
    (reviewed 40 0 0 5).review.c = 0 ∧ ((reviewed 0 10 0 5).review.c ≠ 0 ∧ (reviewed 0 10 0 5).review.t = 0)
      ∧ (let s := reviewed 16000 1500 4000 90
        1 ≤ 11 ∧ (11 - 1) * s.review.c < s.review.t ∧ s.review.t ≤ 11 * s.review.c
          ∧ 64 * s.review.t ≤ s.review.w * 256 ∧ s.review.w * 256 < (64 + 1) * s.review.t
          ∧ s.reviewRecord.rate * s.reviewRecord.drain ≤ 248 * 256
          ∧ (248 - 1) * 256 < s.reviewRecord.rate * s.reviewRecord.drain) := by decide +kernel

/-- A pass at its end for each decision. -/
theorem witness_PassEndRunsTheReview :
    let s := reviewed 16000 1500 4000 0
    let past := fun (p : Nat) (pol : Policy) (handover : Bool) =>
      ({ reviewed 40 0 0 5 with
        review := { (reviewed 40 0 0 5).review with passNumber := p }
        settings := { Settings.reset with policy := pol }
        session := { (feedAt .catchup).session with handoverPending := handover } } : State)
    (s.live = true ∧ s.inFeed = true ∧ s.session.state = .catchup ∧ s.walker = Walker.reset ∧ s.feed = Feed.reset
        ∧ s.reviewRecord.decision = .steady ∧ s.freeze.entries = [] ∧ s.lastStep = .stale)
      ∧ (reviewed 16000 1500 4000 90).reviewRecord.decision = .fit
      ∧ (past 8 .force true).reviewRecord.decision = .forcedHandover ∧ (past 8 .force false).reviewRecord.decision = .forcedLimit
      ∧ (past 8 .abandon false).reviewRecord.decision = .abandon ∧ (past 7 .abandon false).reviewRecord.decision = .nextPass
      ∧ (past 8 .force true).walker = Walker.reset ∧ (past 7 .abandon false).feed = Feed.reset := by decide +kernel

/-- A drained freeze with an entry in the overlay, with none, and with none and a handover pending; a freeze whose timer runs. -/
theorem witness_FreezeEndsInReplayOrCatchup :
    let s : State := { feedAt .freeze with freeze := overlay [{ addr := 0, data := 1, mask := 1, flushing := false }] }
    let e : State := { feedAt .freeze with freeze := overlay [] }
    let h : State := { e with session := { e.session with handoverPending := true } }
    (s.live = true ∧ s.inFeed = true ∧ s.session.state = .freeze ∧ s.dirtyCount = 0 ∧ s.openCount = 0 ∧ s.feed.queue = []
        ∧ s.feed.window = [] ∧ s.freeze.entries ≠ [] ∧ s.path.maint = .empty ∧ s.freeze.timer ≠ none)
      ∧ (e.live = true ∧ e.dirtyCount = 0 ∧ e.freeze.entries = [] ∧ e.session.handoverPending = false)
      ∧ (h.live = true ∧ h.inFeed = true ∧ h.dirtyCount = 0 ∧ h.session.handoverPending = true) := by decide +kernel

/-- An INSTEP and a STALE that wait, the queue with one place left; a drained handover. -/
theorem witness_StateFramesAreQueued :
    let s : State := { feedAt .steady with feed := { Feed.reset with queue := List.replicate 15 .stale, instepWaiting := true } }
    let t : State := { feedAt .steady with
      feed := { Feed.reset with queue := List.replicate 15 .instep }
      session := { (feedAt .steady).session with stalePending := true } }
    let h := feedAt .handover
    (s.live = true ∧ s.inFeed = true ∧ s.feed.queue.length < Config.queuePlaces ∧ s.feed.instepWaiting = true)
      ∧ (t.live = true ∧ t.inFeed = true ∧ t.feed.queue.length < Config.queuePlaces ∧ t.session.stalePending = true
        ∧ t.feed.instepWaiting = false)
      ∧ (h.live = true ∧ h.inFeed = true ∧ h.session.state = .handover ∧ h.dirtyCount = 0 ∧ h.openCount = 0 ∧ h.feed.queue = []
        ∧ h.feed.window = [] ∧ h.freeze.entries = [] ∧ h.feed.instepWaiting = false ∧ h.session.stalePending = false) := by
  decide +kernel

/-- A feed in SWEEP with 7 credits in use and a SEG frame at the head of its queue. -/
def sending : State :=
  { feedAt .sweep with
    feed := { Feed.reset with queue := [.seg 0 (Vector.replicate 64 0)], nextNumber := 7, sentTotal := 7 } }

/-- Each frame a feed may be about to send, and each a take may; `p` has the filtered PEER_PRESENT level high and a TRAIN due. -/
theorem witness_TransmitterSendsTheFirstReady :
    let p : State := { sending with
      chassis := { State.reset.chassis with peerFiltered := true }, link := { upLink with confirmed := false, trainDue := true } }
    let g : State := { sending with link := { upLink with greetDue := true } }
    let l : State := { feedAt .install with link := { upLink with layoutDue := true } }
    let k : State := { feedAt .install with link := { upLink with keepAliveDue := true } }
    (sending.live = true ∧ sending.inFeed = true ∧ sending.link.state = .up
        ∧ sending.feed.rewound = none ∧ sending.link.confirmed = true ∧ sending.link.greetDue = false
        ∧ sending.link.layoutDue = false ∧ sending.link.numbering = true
        ∧ (sending.feed.sentTotal - sending.feed.freedTotal).toNat < 8 ∧ sending.passRunning = true ∧ sending.settled)
      ∧ ((p.link.state = .up ∧ p.link.confirmed = false ∧ p.chassis.peerFiltered = true ∧ p.link.trainDue = true) ∧ p.settled)
      ∧ ((g.link.state = .up ∧ g.link.greetDue = true ∧ g.link.confirmed = true) ∧ g.settled)
      ∧ ((l.link.layoutDue = true ∧ l.session.state = .install ∧ l.link.state = .up) ∧ l.settled)
      ∧ ((k.feed.queue = [] ∧ k.link.confirmed = true ∧ k.link.keepAliveDue = true ∧ k.link.state = .up) ∧ k.settled) := by
  refine ⟨⟨by decide, by decide, by decide, by decide, by decide, by decide, by decide, by decide, by decide +kernel,
    by decide, ?_⟩, ⟨by decide, ?_⟩, ⟨by decide, ?_⟩, ⟨by decide, ?_⟩, by decide, ?_⟩ <;>
  exact settled_of (by decide) (by decide +kernel) (by decide) (by decide)

/-- A REWOUND, each frame of a take, the echo at the head of two, and a feed, a take and a part at rest with nothing to send. -/
theorem witness_TransmitterSendsTheFirstReady_rest :
    let r : State := { feedAt .sweep with feed := { Feed.reset with rewound := some 65535 } }
    let w : State := { takeAt .receiving with
      take := { Take.reset with rx := .discard }, link := { upLink with rewindDue := true } }
    let x : Echo := { session := 77, verdict := .new, reason := .none }
    let e : State := { takeAt .bringup with link := { upLink with echoDue := [x, x] } }
    let y : State := { takeAt .receiving with link := { upLink with readyDue := 2 } }
    let a : State := { takeAt .receiving with link := { upLink with ackDue := true } }
    (r.inFeed = true ∧ r.link.state = .up ∧ r.feed.rewound = some 65535 ∧ r.settled)
      ∧ (w.inTake = true ∧ w.link.rewindDue = true ∧ w.take.rx = .discard ∧ w.settled)
      ∧ (e.inTake = true ∧ e.link.echoDue = x :: [x] ∧ e.link.trainDue = false ∧ e.settled)
      ∧ (y.inTake = true ∧ y.link.echoDue = [] ∧ y.link.readyDue ≠ 0 ∧ y.settled)
      ∧ (a.inTake = true ∧ a.link.echoDue = [] ∧ a.link.readyDue = 0 ∧ a.link.confirmed = true ∧ a.link.ackDue = true ∧ a.settled)
      ∧ ((feedAt .sweep).inFeed = true ∧ (feedAt .sweep).feed.rewound = none ∧ (feedAt .sweep).link.trainDue = false
        ∧ (feedAt .sweep).link.greetDue = false ∧ (feedAt .sweep).link.layoutDue = false ∧ (feedAt .sweep).feed.queue = []
        ∧ (feedAt .sweep).link.keepAliveDue = false ∧ (feedAt .sweep).settled)
      ∧ ((takeAt .receiving).inTake = true ∧ (takeAt .receiving).link = upLink ∧ (takeAt .receiving).settled)
      ∧ (rest.inFeed = false ∧ rest.inTake = false ∧ rest.settled) := by
  refine ⟨⟨by decide, by decide, by decide, ?_⟩, ⟨by decide, by decide, by decide, ?_⟩, ⟨by decide, by decide, by decide, ?_⟩,
    ⟨by decide, by decide, by decide, ?_⟩, ⟨by decide, by decide, by decide, by decide, by decide, ?_⟩,
    ⟨by decide, by decide, by decide, by decide, by decide, by decide, by decide, feedAt_sweep_settled⟩,
    ⟨by decide, by decide, takeAt_receiving_settled⟩, by decide, by decide, rest_settled⟩ <;>
  exact settled_of (by decide) (by decide +kernel) (by decide) (by decide)

/-- Each interval at the part where it runs. -/
theorem witness_IntervalsMakeFramesDue :
    let t : State := { feedAt .bringup with link := Link.reset.enterTraining }
    let g : State := { feedAt .bringup with link := { upLink with greeting := true } }
    let w : State := { takeAt .receiving with take := { Take.reset with rx := .discard } }
    (t.live = true ∧ t.link.state = .training)
      ∧ (g.live = true ∧ g.inFeed = true ∧ g.link.state = .up ∧ g.link.greeting = true)
      ∧ ((feedAt .install).live = true ∧ (feedAt .install).inFeed = true ∧ (feedAt .install).link.state = .up)
      ∧ (w.live = true ∧ w.inTake = true ∧ w.link.state = .up ∧ w.take.rx = .discard) := by decide

theorem witness_KeepAlives :
    ((feedAt .sweep).live = true ∧ (feedAt .sweep).link.state = .up ∧ (feedAt .sweep).inFeed = true
        ∧ (feedAt .sweep).link.confirmed = true ∧ (feedAt .sweep).settled)
      ∧ ((takeAt .receiving).live = true ∧ (takeAt .receiving).link.state = .up ∧ (takeAt .receiving).inTake = true
        ∧ (takeAt .receiving).link.confirmed = true ∧ (takeAt .receiving).settled) :=
  ⟨⟨by decide, by decide, by decide, by decide, feedAt_sweep_settled⟩, by decide, by decide, by decide, by decide,
    takeAt_receiving_settled⟩

/-- A feed whose raw PEER_PRESENT level has fallen, with an entry, a buffer and a record for segments in each state. -/
theorem witness_LinkLossAtTheFeed :
    let s : State := { feedAt .freeze with
      chassis := { State.reset.chassis with peerFiltered := true }
      map := { SegMap.reset with cells := [(0, .clean), (1, .opened), (2, .inflight)] }
      freeze := overlay [{ addr := 0, data := 1, mask := 1, flushing := false }]
      walker := { Walker.reset with buf1 := some (Buffer.start 1 0) }
      feed := { Feed.reset with window := [(0, .seg 2 (Vector.replicate 64 0))], queue := [.mir [{ addr := 3, data := 1, mask := 1 }]] } }
    s.live = true ∧ s.inFeed = true ∧ s.link.state = .up ∧ feedState s.session.state = true ∧ s.chassis.peerRaw = false
      ∧ s.chassis.peerFiltered = true ∧ hasSeg (s.feed.window.map Prod.snd) 2 = true ∧ hasRecord s.feed.queue 0 = true
      ∧ feedState (feedAt .bringup).session.state = true := by decide +kernel

theorem witness_TakeIsHeldOrDetached :
    let h : State := { takeAt .held with session := { (takeAt .held).session with hold := some 0 } }
    let f : State := { takeAt .synced with chassis := { State.reset.chassis with peerFiltered := true } }
    (f.live = true ∧ f.inTake = true ∧ takeState f.session.state = true ∧ f.link.state = .up ∧ f.chassis.peerRaw = false
        ∧ f.chassis.peerFiltered = true)
      ∧ ((takeAt .synced).live = true ∧ (takeAt .synced).inTake = true ∧ takeState (takeAt .synced).session.state = true
        ∧ (takeAt .synced).link.state = .up)
      ∧ ((takeAt .final).live = true ∧ takeState (takeAt .final).session.state = true)
      ∧ (takeState (takeAt .bringup).session.state = true ∧ (takeAt .bringup).take.awaitingLayout = false)
      ∧ (h.live = true ∧ h.inTake = true ∧ h.session.state = .held ∧ h.session.hold ≠ none) := by decide

/-- TRAINING with lanes 1 to 3 seen, the filtered PEER_PRESENT level low and high; an unconfirmed and a confirmed UP link; the part's own slot id. -/
theorem witness_TrainTrainsTheLink :
    let t : State := { feedAt .bringup with link := { Link.reset.enterTraining with seen := 14 } }
    let u : State := { takeAt .bringup with link := { upLink with confirmed := false, numbering := false } }
    let p : State := { t with chassis := { State.reset.chassis with peerFiltered := true } }
    let c : State := { feedAt .sweep with chassis := { State.reset.chassis with peerFiltered := true } }
    (p.live = true ∧ p.link.state = .training ∧ p.chassis.peerFiltered = true ∧ t.chassis.peerFiltered = false ∧ p.settled)
      ∧ (c.link.state = .up ∧ c.link.confirmed = true ∧ c.chassis.peerFiltered = true ∧ c.settled)
      ∧ (t.live = true ∧ t.inFeed = true ∧ t.link.state = .training ∧ (t.link.seen ||| (1#4 <<< (0 : BitVec 2).toNat)).getLsbD 0 = true
        ∧ (t.link.seen ||| (1#4 <<< (1 : BitVec 2).toNat)).getLsbD 0 = false ∧ t.settled)
      ∧ (u.live = true ∧ u.inTake = true ∧ u.link.state = .up ∧ u.link.confirmed = false ∧ u.link.numbering = false ∧ u.settled)
      ∧ ((feedAt .sweep).link.state = .up ∧ (feedAt .sweep).link.confirmed = true) := by
  refine ⟨⟨by decide, by decide, by decide, by decide, ?_⟩, ⟨by decide, by decide, by decide, ?_⟩,
    ⟨by decide, by decide, by decide, by decide, by decide, ?_⟩,
    ⟨by decide, by decide, by decide, by decide, by decide, ?_⟩, by decide⟩ <;>
  exact settled_of (by decide) (by decide +kernel) (by decide) (by decide)

/-- A GREET that was answered before; and states for each verdict. -/
theorem witness_GreetIsAnswered :
    let g : Greeted := { session := 77, kind := .fresh, size := 0, verdict := .new, reason := .none }
    let s : State := { takeAt .bringup with session := { (takeAt .bringup).session with greeted := some g } }
    (s.live = true ∧ s.inTake = true ∧ s.link.state = .up ∧ s.session.greeted = some g ∧ s.settled)
      ∧ ((takeAt .held).live = true ∧ (takeAt .held).inTake = true ∧ (takeAt .held).link.state = .up
        ∧ (takeAt .held).session.greeted = none ∧ (takeAt .held).session.id = 77 ∧ (takeAt .held).session.sizeClass = 0)
      ∧ ((takeAt .receiving).live = true ∧ (takeAt .receiving).session.greeted = none) := by
  refine ⟨⟨by decide, by decide, by decide, by decide, ?_⟩, by decide, by decide⟩
  exact settled_of (by decide) (by decide +kernel) (by decide) (by decide)

theorem witness_EchoAndReadyAtTheFeed :
    let b : State := { feedAt .bringup with link := { upLink with greeting := true } }
    let u : State := { feedAt .suspended with
      link := { upLink with greeting := true }, session := { (feedAt .suspended).session with resumeKind := .resume } }
    (b.live = true ∧ b.inFeed = true ∧ b.link.state = .up ∧ b.link.greeting = true ∧ b.session.state = .bringup
        ∧ (78 : BitVec 16) ≠ b.session.id ∧ b.settled)
      ∧ (u.live = true ∧ u.inFeed = true ∧ u.link.greeting = true ∧ u.session.state = .suspended ∧ u.session.resumeKind = .resume)
      ∧ ((feedAt .install).live = true ∧ (feedAt .install).link.state = .up ∧ (feedAt .install).session.state = .install)
      ∧ ((feedAt .sweep).live = true ∧ (feedAt .sweep).link.greeting = false ∧ (feedAt .sweep).settled) := by
  refine ⟨⟨by decide, by decide, by decide, by decide, by decide, by decide, ?_⟩, by decide, by decide, by decide, by decide,
    feedAt_sweep_settled⟩
  exact settled_of (by decide) (by decide +kernel) (by decide) (by decide)

/-- A layout of one MIRROR entry that ends at the last usable segment, or one segment past it. -/
def layoutOf (length : Nat) : Vector LayoutEntry 16 :=
  Vector.ofFn fun i => if i = 0 then { base := 1, length := BitVec.ofNat 24 length, cls := 1, order := 0, fill := 0 }
    else { base := 0, length := 0, cls := 0, order := 0, fill := 0 }

theorem witness_LayoutAtTheTake :
    let s : State := { takeAt .bringup with take := { Take.reset with awaitingLayout := true }, link := { upLink with numbering := false } }
    let f : State := { s with freeze := { Freeze.reset with entries := [{ addr := 0, data := 1, mask := 1, flushing := true }] } }
    let n : State := { takeAt .install with link := { upLink with numbering := false } }
    (s.live = true ∧ s.inTake = true ∧ s.link.state = .up ∧ s.session.state = .bringup ∧ s.take.awaitingLayout = true
        ∧ s.freeze.entries = [] ∧ layoutMisfits s.chassis.msize (layoutOf 32751) = false
        ∧ layoutMisfits s.chassis.msize (layoutOf 32752) = true)
      ∧ ((f.freeze.entries ≠ [] ∧ f.link.numbering = false) ∧ f.settled)
      ∧ ((takeAt .receiving).live = true ∧ (takeAt .receiving).settled ∧ (takeAt .receiving).link.numbering = true
        ∧ (takeAt .receiving).take.rx = .inOrder
        ∧ (takeAt .receiving).session.layoutInstalled = true
        ∧ layoutIdentical ((takeAt .receiving).regions.map Region.asEntry) (takeAt .receiving).regions = true
        ∧ layoutIdentical (layoutOf 1) (takeAt .receiving).regions = false)
      ∧ (n.live = true ∧ n.inTake = true ∧ n.session.state = .install ∧ n.session.layoutInstalled = true
        ∧ layoutIdentical (n.regions.map Region.asEntry) n.regions = true ∧ n.settled) := by
  refine ⟨by decide +kernel, ⟨by decide, ?_⟩, ⟨by decide, takeAt_receiving_settled, by decide, by decide, by decide,
    by decide +kernel, by decide +kernel⟩, by decide, by decide, by decide, by decide, by decide +kernel, ?_⟩ <;>
  exact settled_of (by decide) (by decide +kernel) (by decide) (by decide)

/-- The expected frame with an apply under way and with none; a wrong number; a check that fails; at a take and at a feed. -/
theorem witness_SequencedFramesAreTakenInOrder :
    let w : State := { takeAt .receiving with
      take := { Take.reset with
        rx := .inOrder, buffer := List.replicate 7 (0, .instep)
        apply := some { kind := .mir, segment := 0, rest := [], limit := 1,
                        job := { use := 0, limit := 1, round := 0, writes := [], reads := [], awaiting := [], bad := [] } } } }
    (w.live = true ∧ w.link.state = .up ∧ w.inTake = true ∧ w.link.numbering = true ∧ w.take.rx = .inOrder
        ∧ (0 : Seq) = w.take.expected ∧ w.take.buffer.length < 8 ∧ w.take.apply ≠ none ∧ w.settled)
      ∧ ((takeAt .receiving).take.buffer = [] ∧ (takeAt .receiving).take.apply = none ∧ (takeAt .receiving).inTake = true
        ∧ (65535 : Seq) ≠ (takeAt .receiving).take.expected ∧ checkedBody [1, 2, 3] = none ∧ (takeAt .receiving).settled)
      ∧ ((feedAt .sweep).inFeed = true ∧ (feedAt .sweep).settled) := by
  refine ⟨⟨by decide, by decide, by decide, by decide, by decide, by decide, by decide, by decide, ?_⟩,
    ⟨by decide, by decide, by decide, by decide, by decide +kernel, takeAt_receiving_settled⟩, by decide, feedAt_sweep_settled⟩
  exact settled_of (by decide) (by decide +kernel) (by decide) (by decide)

/-- A take with an empty buffer and no apply, in RECEIVING and in FINAL, and the frames whose apply begins there: a SEG of a tracked segment
and of one that is not; a MIR whose second record is the first to need memory, and one with none that does. -/
theorem witness_SequencedFramesAreTakenInOrder_begins :
    let s := takeAt .receiving
    let none0 : MirrorRecord := { addr := 0, data := 1, mask := 0 }
    let outside : MirrorRecord := { addr := 64, data := 1, mask := 1 }
    let inside : MirrorRecord := { addr := 63, data := 1, mask := 0x80 }
    (s.live = true ∧ s.link.state = .up ∧ s.inTake = true ∧ s.link.numbering = true ∧ s.take.rx = .inOrder
        ∧ (0 : Seq) = s.take.expected ∧ s.take.buffer = [] ∧ s.take.apply = none ∧ s.session.state = .receiving ∧ s.settled)
      ∧ (s.session.layoutInstalled = true ∧ classOfSegment s.regions (0 : BitVec 18).toNat = .mirror
        ∧ classOfSegment s.regions (1 : BitVec 18).toNat = .localOnly)
      ∧ ((SeqFrame.mir ([outside] ++ inside :: [none0])).wf = true ∧ inside.mask ≠ 0
        ∧ classOfSegment s.regions (segmentOf inside.addr) = .mirror ∧ classOfSegment s.regions (segmentOf outside.addr) ≠ .mirror)
      ∧ ((SeqFrame.mir [none0, outside]).wf = true ∧ none0.mask = 0)
      ∧ ((takeAt .final).live = true ∧ (takeAt .final).take.buffer = [] ∧ (takeAt .final).take.apply = none
        ∧ (takeAt .final).take.rx = .inOrder ∧ (takeAt .final).settled) := by
  refine ⟨⟨by decide, by decide, by decide, by decide, by decide, by decide, by decide, by decide, by decide,
    takeAt_receiving_settled⟩, by decide +kernel, by decide +kernel, by decide, by decide, by decide, by decide, by decide, ?_⟩
  exact settled_of (by decide) (by decide +kernel) (by decide) (by decide)

/-- A window of 65,534 to 1: its oldest, its newest, the next number, a withdrawn one; a HANDOVER at its end. -/
def windowed : State :=
  { feedAt .handover with
    map := { SegMap.reset with cells := [(0, .inflight), (1, .clean), (2, .clean)] }
    feed := { Feed.reset with
      window := [(65534, .seg 0 (Vector.replicate 64 0)), (65535, .instep), (0, .stale), (1, .handover)]
      nextNumber := 2, sentTotal := 4 } }

theorem witness_AckRetiresFrames :
    let oldest := (windowed.feed.window.head?.map Prod.fst).getD windowed.feed.nextNumber
    windowed.live = true ∧ windowed.inFeed = true ∧ windowed.link.state = .up ∧ windowed.link.numbering = true
      ∧ ((65534 : Seq) - oldest).toNat < windowed.feed.window.length ∧ ((1 : Seq) - oldest).toNat < windowed.feed.window.length
      ∧ (¬ ((2 : Seq) - oldest).toNat < windowed.feed.window.length ∧ ((2 : Seq) - windowed.feed.nextNumber).toNat < 32768)
      ∧ (¬ ((65533 : Seq) - oldest).toNat < windowed.feed.window.length
        ∧ 32768 ≤ ((65533 : Seq) - windowed.feed.nextNumber).toNat)
      ∧ SeqFrame.handover ∈ (windowed.feed.window.take 4).map Prod.snd
      ∧ SeqFrame.handover ∉ (windowed.feed.window.take 3).map Prod.snd
      ∧ 128 ≤ (windowed.feed.sentTotal - 132).toNat ∧ (windowed.feed.sentTotal - 133).toNat < 128 := by decide +kernel

theorem witness_RewindAndRewound :
    let oldest := (windowed.feed.window.head?.map Prod.fst).getD windowed.feed.nextNumber
    let d : State := { takeAt .receiving with take := { Take.reset with rx := .discard } }
    let n : State := { takeAt .receiving with link := { upLink with numbering := false } }
    let m : State := { feedAt .install with link := { upLink with numbering := false } }
    (windowed.live = true ∧ windowed.inFeed = true ∧ windowed.link.state = .up ∧ windowed.link.numbering = true
        ∧ ((65534 : Seq) - oldest).toNat < windowed.feed.window.length
        ∧ (¬ ((2 : Seq) - oldest).toNat < windowed.feed.window.length ∧ (2 : Seq) = windowed.feed.nextNumber)
        ∧ (¬ ((3 : Seq) - oldest).toNat < windowed.feed.window.length ∧ (3 : Seq) ≠ windowed.feed.nextNumber))
      ∧ (d.live = true ∧ d.inTake = true ∧ (0 : Seq) = d.take.expected ∧ d.take.rx = .discard ∧ d.settled)
      ∧ ((takeAt .receiving).take.rx ≠ .discard ∧ (1 : Seq) ≠ (takeAt .receiving).take.expected ∧ (takeAt .receiving).settled)
      ∧ (n.inTake = true ∧ n.link.numbering = false ∧ n.settled) ∧ (m.inFeed = true ∧ m.link.numbering = false ∧ m.settled) := by
  refine ⟨by decide +kernel, ⟨by decide, by decide, by decide, by decide, ?_⟩, ⟨by decide, by decide, takeAt_receiving_settled⟩,
    ⟨by decide, by decide, ?_⟩, by decide, by decide, ?_⟩ <;>
  exact settled_of (by decide) (by decide +kernel) (by decide) (by decide)

/-- A rise of the raw PEER_PRESENT level and, with the link not UP, a fall; the other lines at both levels. -/
theorem witness_LinesAreMonitored :
    let p : State := { State.reset with chassis := { State.reset.chassis with peerRaw := true, eject := true, takeEn := true } }
    let f : State := { State.reset with chassis := { State.reset.chassis with peerFiltered := true } }
    (p.live = true ∧ p.chassis.peerRaw = true ∧ p.chassis.peerFiltered = false ∧ p.chassis.eject = true ∧ p.chassis.takeEn = true
        ∧ p.inTake = false ∧ p.settled)
      ∧ (f.live = true ∧ f.chassis.peerRaw ≠ f.chassis.peerFiltered ∧ f.link.state ≠ .up)
      ∧ (rest.live = true ∧ true ≠ rest.chassis.peerRaw ∧ rest.chassis.takeEn = false ∧ rest.chassis.eject = false
        ∧ rest.inTake = false ∧ rest.inFeed = false ∧ rest.settled) := by
  refine ⟨⟨by decide, by decide, by decide, by decide, by decide, by decide, ?_⟩, by decide, by decide, by decide, by decide, by decide,
    by decide, by decide, rest_settled⟩
  exact settled_of (by decide) (by decide +kernel) (by decide) (by decide)

/-- A part held in reset, each line low and each line high. -/
def heldInReset (high : Bool) : State :=
  State.cold false { Pins.reset with peerPresent := high, eject := high, takeEn := high }

theorem witness_heldInReset (high : Bool) :
    (heldInReset high).chassis.power = true ∧ (heldInReset high).chassis.resetN = false ∧ (heldInReset high).settled
      ∧ (heldInReset high).chassis.peerRaw = high ∧ (heldInReset high).chassis.eject = high ∧ (heldInReset high).chassis.takeEn = high
      ∧ (heldInReset high).path.lookup = none ∧ (heldInReset high).path.maint = .empty := by
  cases high <;>
  exact ⟨by decide, by decide, settled_of (by decide) (by decide +kernel) (by decide) (by decide), by decide, by decide, by decide,
    by decide, by decide⟩

/-- R189, R18: while RESET_N is low a TAKE_EN fall raises nothing, and LINE is raised at the rise. -/
theorem test_take_en_fall_in_reset :
    let s := after .takeEnFall (heldInReset true)
    s.notices.line.pending = false ∧ (after (.resetNRise Pins.reset) s).notices.line.pending = true := by decide +kernel

/-- The last response of a round, in the last round the limit allows and one before it. -/
theorem witness_SegApplyEndsByItsLastRound :
    let i : VerifyItem := { addr := 17, data := 0x20, mask := 0xFF }
    let a := fun round : Nat => ({ kind := .seg, segment := 0, rest := [], limit := 2, job :=
      { use := 0, limit := 2, round := round, writes := [], reads := [], awaiting := [i], bad := [] } } : ApplyWork)
    let s := fun round : Nat => ({ takeAt .receiving with
      path := { Path.reset with returns := [{ requester := .apply 0, addr := 17 }] }
      take := { Take.reset with rx := .inOrder, buffer := [(120, .seg 0 (Vector.replicate 64 0))], apply := some (a round) } } : State)
    ((s 2).live = true ∧ (s 2).inTake = true ∧ (s 2).session.state = .receiving
        ∧ (s 2).path.returns = { requester := .apply (a 2).job.use, addr := 17 } :: [] ∧ (s 2).take.apply = some (a 2)
        ∧ (a 2).kind = .seg ∧ (a 2).rest = [] ∧ (a 2).job.writes = [] ∧ (a 2).job.reads = [] ∧ (a 2).job.awaiting = [i]
        ∧ i.mask = fullMask ∧ (a 2).job.limit ≤ (a 2).job.round)
      ∧ ((s 1).take.apply = some (a 1) ∧ (a 1).job.round < (a 1).job.limit) := by decide +kernel

/-- The last response for a MIR record with no record behind it, and with an empty one and one that needs memory. -/
theorem witness_SegApplyEndsByItsLastRound_mir :
    let i : VerifyItem := { addr := 17, data := 0x20, mask := 0x01 }
    let a := fun rest : List MirrorRecord => ({ kind := .mir, segment := 0, rest := rest, limit := 2, job :=
      { use := 0, limit := 2, round := 2, writes := [], reads := [], awaiting := [i], bad := [] } } : ApplyWork)
    let s := fun rest : List MirrorRecord => ({ takeAt .receiving with
      path := { Path.reset with returns := [{ requester := .apply 0, addr := 17 }] }
      take := { Take.reset with rx := .inOrder, buffer := [(120, .instep)], apply := some (a rest) } } : State)
    let r := fun mask : Mask => ({ addr := 63, data := 1, mask := mask } : MirrorRecord)
    ((s []).live = true ∧ (s []).inTake = true ∧ (s []).take.apply = some (a []) ∧ (a []).kind = .mir
        ∧ (a []).job.limit ≤ (a []).job.round ∧ keepBytes i.mask 0x320 = keepBytes i.mask i.data
        ∧ keepBytes i.mask 0x21 ≠ keepBytes i.mask i.data)
      ∧ ((s [r 0, r 1]).take.apply = some (a [r 0, r 1]) ∧ (a [r 0, r 1]).rest = [r 0] ++ r 1 :: [] ∧ (r 0).mask = 0 ∧ (r 1).mask ≠ 0
        ∧ (s []).installedClass (segmentOf (r 1).addr) = .mirror) := by decide +kernel

/-- The last response for a fill segment, with another place of the fill order behind it and with none. -/
theorem witness_SegApplyEndsByItsLastRound_fill :
    let i : VerifyItem := { addr := 64, data := 7, mask := fullMask }
    let w := fun (place round : Nat) => ({ place := place, segment := 1 + place, job :=
      { use := 0, limit := 2, round := round, writes := [], reads := [], awaiting := [i], bad := [] } } : FillWork)
    let s := fun (place round : Nat) => ({ takeAt .install with
      regions := table [entry 0 1 .mirror 0, entry 1 2 .fill 0]
      path := { Path.reset with returns := [{ requester := .fill 0, addr := 64 }] }
      take := { Take.reset with fill := some (w place round) } } : State)
    ((s 0 2).live = true ∧ (s 0 2).inTake = true ∧ (s 0 2).session.state = .install ∧ (s 0 2).take.fill = some (w 0 2)
        ∧ (w 0 2).job.limit ≤ (w 0 2).job.round ∧ (fillOrder (s 0 2).regions)[1]? = some 2)
      ∧ ((w 0 1).job.round < (w 0 1).job.limit ∧ (fillOrder (s 1 2).regions)[2]? = none) := by decide +kernel

/-- A MIR frame with 1 and with 8 records may be built. -/
theorem witness_SentFramesAreReadBack :
    let r : MirrorRecord := { addr := 0xFFFFFF, data := 1, mask := 0xFF }
    (TxFrame.sequenced 65535 (.mir [r])).wf = true ∧ (TxFrame.sequenced 0 (.mir (List.replicate 8 r))).wf = true
      ∧ (TxFrame.greetEcho { session := 77, verdict := .refused, reason := .mismatch }).wf = true := by decide

/-- A feed with two frames in its window and an ACK that agrees waiting. -/
theorem witness_EveryStepKeepsListsBounded :
    let s : State := { feedAt .sweep with
      feed := { Feed.reset with window := [(0, .instep), (1, .stale)], nextNumber := 2, sentTotal := 2 }
      faults := { Faults.reset with list := [(0, .source), (1, .source)] }
      pending := [.ackReceived (some 0) 1 0 .synced] }
    s.bounded ∧ s.overlayDistinct ∧ s.faultsDistinct ∧ s.windowFits ∧ s.ackAgrees (some 0) 1 ∧ ∃ t, step s = .next t :=
  ⟨by unfold State.bounded; decide +kernel, by unfold State.overlayDistinct; decide, by unfold State.faultsDistinct; decide,
    by unfold State.windowFits; decide +kernel, by unfold State.ackAgrees; decide +kernel, _, rfl⟩

/-- A feed with a command waiting. -/
theorem witness_EveryStepKeepsTheSessionLegal :
    let s : State := { feedAt .sweep with pending := [.passEnd] }
    s.stateLegal ∧ s.throttleLegal ∧ s.mapLegal ∧ s.linkFollows ∧ ∃ t, step s = .next t := by
  refine ⟨.inr rfl, by unfold State.throttleLegal; decide +kernel, ?_, fun _ => by decide, _, rfl⟩
  rw [State.mapLegal, if_pos (by decide +kernel)]
  decide +kernel

theorem witness_OnlyTheseCommandsChange : ∃ t, exec .arbiterGrant State.reset = .next t := ⟨_, rfl⟩

end Sys2Proof.Tests
end

section
/-! SUPPORT. What one command as a whole event leaves, and what a trigger of the directive slot does. -/

namespace Sys2Proof.Machine

open Sys2Proof

variable (s : State)

/-! ### Events -/

@[simp] theorem State.fresh_live : s.fresh.live = s.live := rfl
@[simp] theorem State.fresh_inFeed : s.fresh.inFeed = s.inFeed := rfl
@[simp] theorem State.fresh_inTake : s.fresh.inTake = s.inTake := rfl
@[simp] theorem State.fresh_out : s.fresh.out = .none := rfl

/-- A live part does what the command does, and the command ends (log 2). -/
theorem State.liveEvent_of_live (f : State → State) (h : s.live = true) : s.liveEvent f = (f s.fresh).settle := by
  simp [State.liveEvent, State.event, h]

/-- Whether a state is settled does not look at link, faults, review, directive unit, notices, outputs, or at the take but for its two
units' work. -/
theorem State.settled_update {s : State} (h : s.settled) (link : Link) (take : Take) (faults : Faults) (review : Review)
    (directive : Directive) (notices : Notices) (out : Out) (apply : take.apply = s.take.apply) (fill : take.fill = s.take.fill) :
    State.settled { s with link, take, faults, review, directive, notices, out, signals := .none } := by
  obtain ⟨-, hinstep, hwaiting, hruns⟩ := h
  cases take
  subst apply fill
  exact ⟨rfl, hinstep, hwaiting, hruns⟩

/-! ### What the end of a command changes in feed, review and session -/

/-- Of the feed, the end of a command moves only the queue and the waiting INSTEP offer. -/
theorem State.settle_feed_eq :
    s.settle.feed = { s.feed with queue := s.settle.feed.queue, instepWaiting := s.settle.feed.instepWaiting } := by
  have stale (u : State) :
      u.staleStage.feed = { u.feed with queue := u.staleStage.feed.queue, instepWaiting := u.staleStage.feed.instepWaiting } := by
    unfold State.staleStage State.offerStale; (repeat' split) <;> rfl
  have instep (u : State) :
      u.instepStage.feed = { u.feed with queue := u.instepStage.feed.queue, instepWaiting := u.instepStage.feed.instepWaiting } := by
    unfold State.instepStage State.tryInstep State.offerInstep; (repeat' split) <;> rfl
  simp only [State.settle, State.clearSignals_feed, State.serveReport_feed, State.clearRuns_feed]
  rw [instep, stale]
  simp

@[simp] theorem State.settle_feed_nextNumber : s.settle.feed.nextNumber = s.feed.nextNumber := by rw [State.settle_feed_eq]
@[simp] theorem State.settle_feed_sentTotal : s.settle.feed.sentTotal = s.feed.sentTotal := by rw [State.settle_feed_eq]
@[simp] theorem State.settle_feed_freedTotal : s.settle.feed.freedTotal = s.feed.freedTotal := by rw [State.settle_feed_eq]
@[simp] theorem State.settle_feed_rewound : s.settle.feed.rewound = s.feed.rewound := by rw [State.settle_feed_eq]
@[simp] theorem State.settle_feed_peerFail : s.settle.feed.peerFail = s.feed.peerFail := by rw [State.settle_feed_eq]
@[simp] theorem State.settle_feed_peerState : s.settle.feed.peerState = s.feed.peerState := by rw [State.settle_feed_eq]
@[simp] theorem State.settle_feed_rewinds : s.settle.feed.rewinds = s.feed.rewinds := by rw [State.settle_feed_eq]

/-- Of the review unit, the end of a command moves only the write count and the tick of the last admission. -/
theorem State.settle_review_eq :
    s.settle.review = { s.review with w := s.settle.review.w, lastAdmitted := s.settle.review.lastAdmitted } := by
  have admission (u : State) (w : WriteReq) :
      (u.admitWrite w).review
        = { u.review with w := (u.admitWrite w).review.w, lastAdmitted := (u.admitWrite w).review.lastAdmitted } := by
    unfold State.admitWrite; split <;> rfl
  have held : s.examineHeld.review
      = { s.review with w := s.examineHeld.review.w, lastAdmitted := s.examineHeld.review.lastAdmitted } := by
    unfold State.examineHeld State.examineWrite State.writeCandidate
    (repeat' split) <;> first | rfl | exact admission s _
  simp only [State.settle, State.clearSignals_review, State.serveReport_review, State.clearRuns_review, State.instepStage_review,
    State.staleStage_review]
  exact held

@[simp] theorem State.settle_review_t : s.settle.review.t = s.review.t := by rw [State.settle_review_eq]
@[simp] theorem State.settle_review_c : s.settle.review.c = s.review.c := by rw [State.settle_review_eq]
@[simp] theorem State.settle_review_dPrev : s.settle.review.dPrev = s.review.dPrev := by rw [State.settle_review_eq]
@[simp] theorem State.settle_review_record : s.settle.review.record = s.review.record := by rw [State.settle_review_eq]

/-- The review unit is as it was at the end of a command that leaves no write held. -/
theorem State.settle_review_of_not_held (h : ∀ w, s.path.maint ≠ .held w) : s.settle.review = s.review := by
  have held : s.examineHeld = s := by
    unfold State.examineHeld
    split
    · split
      · next w hw => exact absurd hw (h w)
      · rfl
    · rfl
  simp [State.settle, held]

/-- Of the session record, the end of a command moves only stale-pending. -/
theorem State.settle_session_eq : s.settle.session = { s.session with stalePending := s.settle.session.stalePending } := by
  have stale (u : State) : u.staleStage.session = { u.session with stalePending := u.staleStage.session.stalePending } := by
    unfold State.staleStage State.offerStale; (repeat' split) <;> rfl
  simp only [State.settle, State.clearSignals_session, State.serveReport_session, State.clearRuns_session, State.instepStage_session]
  rw [stale]
  simp

@[simp] theorem State.settle_session_id : s.settle.session.id = s.session.id := by rw [State.settle_session_eq]
@[simp] theorem State.settle_session_sizeClass : s.settle.session.sizeClass = s.session.sizeClass := by rw [State.settle_session_eq]
@[simp] theorem State.settle_session_handoverPending : s.settle.session.handoverPending = s.session.handoverPending := by
  rw [State.settle_session_eq]
@[simp] theorem State.settle_session_retiredStep : s.settle.session.retiredStep = s.session.retiredStep := by
  rw [State.settle_session_eq]
@[simp] theorem State.settle_session_resumeKind : s.settle.session.resumeKind = s.session.resumeKind := by rw [State.settle_session_eq]
@[simp] theorem State.settle_session_hold : s.settle.session.hold = s.session.hold := by rw [State.settle_session_eq]
@[simp] theorem State.settle_session_greeted : s.settle.session.greeted = s.session.greeted := by rw [State.settle_session_eq]
@[simp] theorem State.settle_session_layoutInstalled : s.settle.session.layoutInstalled = s.session.layoutInstalled := by
  rw [State.settle_session_eq]
@[simp] theorem State.settle_session_lockout : s.settle.session.lockout = s.session.lockout := by rw [State.settle_session_eq]

/-- The session state after `setState`. -/
@[simp] theorem State.setState_session_state (st : SessState) : (s.setState st).session.state = st := by
  unfold State.setState; split <;> simp_all

/-- Of the session record `setState` moves only the state. -/
theorem State.setState_session (st : SessState) : (s.setState st).session = { s.session with state := st } := by
  unfold State.setState
  split
  · next h => rw [← h]
  · rfl

/-- A change of the session state leaves the STATE notice pending (R144). -/
theorem State.setState_notice (st : SessState) (h : s.session.state ≠ st) : (s.setState st).notices.state.pending = true := by
  simp [State.setState, h, State.raise, Notices.set, raised]

/-- A change of the session state leaves every other notice. -/
theorem State.setState_notices (st : SessState) (k : NoticeKind) (h : k ≠ .state) :
    (s.setState st).notices.get k = s.notices.get k := by
  unfold State.setState
  split
  · rfl
  · cases k <;> first | rfl | exact absurd rfl h

/-- A change of the session state enters no segment in DIRTY. -/
@[simp] theorem State.setState_signals_dirtied (st : SessState) : (s.setState st).signals.dirtied = s.signals.dirtied := by
  unfold State.setState; split <;> rfl

@[simp] theorem State.raise_signals_dirtied (k : NoticeKind) : (s.raise k).signals.dirtied = s.signals.dirtied := rfl
@[simp] theorem State.recordFault_signals_dirtied (f : SessFault) : (s.recordFault f).signals.dirtied = s.signals.dirtied := rfl

/-- `again` is set at the end of a command that asks for a report while one is being written (R178). -/
theorem State.settle_again (h : s.signals.report = true) (hw : s.report.writing = true) : s.settle.report.again = true := by
  simp [State.settle, State.serveReport, State.clearSignals, h, hw]

/-! ### Triggers -/

/-- The bytes of a trigger word: the marker, the number, the code (R168). -/
theorem byteOf_triggerWord (n c : Byte) :
    byteOf (triggerWord n c) 0 = 0xC5 ∧ byteOf (triggerWord n c) 1 = n ∧ byteOf (triggerWord n c) 2 = c := by
  have word : triggerWord n c = 0xC5#64 ||| (n.setWidth 64 <<< 8) ||| (c.setWidth 64 <<< 16) := by
    have wide (b : Byte) : BitVec.ofNat 64 (b.toNat % 256) = b.setWidth 64 := by
      apply BitVec.eq_of_toNat_eq; simp; omega
    simp [triggerWord, packWord, wide]
  rw [word]
  refine ⟨?_, ?_, ?_⟩ <;>
  · apply BitVec.eq_of_getLsbD_eq
    intro i hi
    interval_cases i <;> simp [byteOf]

theorem kindOfCode_code (k : DirKind) : kindOfCode k.code = some k := by cases k <;> rfl

/-- A trigger with the expected number is handled (R168). -/
theorem State.trigger_expected (code : Byte) :
    s.trigger s.directive.expected code = s.handleTrigger s.directive.expected code := by
  obtain ⟨hmark, hnumber, hcode⟩ := byteOf_triggerWord s.directive.expected code
  simp [State.trigger, State.snoop, State.snoopTrigger, State.validTrigger, hmark, hnumber, hcode]

/-- A trigger with another number is stray (R168). -/
theorem State.trigger_of_ne (n code : Byte) (h : n ≠ s.directive.expected) : s.trigger n code = s.countStray := by
  obtain ⟨hmark, hnumber, hcode⟩ := byteOf_triggerWord n code
  simp [State.trigger, State.snoop, State.snoopTrigger, State.validTrigger, hmark, hnumber, h]

/-- Each directive command is the trigger of its kind. -/
theorem exec_command (k : DirKind) (n : Byte) : exec (k.command n) s = .next (s.liveEvent (State.trigger n k.code)) := by
  cases k <;> rfl

/-- The directive unit's record of a trigger judged with outcome `o` (R169). -/
def State.recordDirective (number code : Byte) (o : DirOutcome) (s : State) : State :=
  { s with directive :=
    { s.directive with expected := s.directive.expected + 1, last := { number := number, code := code, outcome := o } } }

/-- What a directive of kind `k` judged `o` does behind its record (R169). -/
def State.obey (k : DirKind) (o : DirOutcome) (s : State) : State := if o = .done then s.doDirective k else s

/-- What a directive asks for at its end: the DIRECTIVE notice, or with ACKNOWLEDGE only a report (R175). -/
def State.finishDirective (k : DirKind) (s : State) : State :=
  if k = .acknowledge then s.requestReport else s.raise .directive

/-- A directive is recorded, obeyed where it is DONE, and finished (R169, R175). -/
theorem State.handleTrigger_kind (k : DirKind) (n : Byte) :
    s.handleTrigger n k.code = ((s.recordDirective n k.code (s.judge k.code)).obey k (s.judge k.code)).finishDirective k := by
  simp [State.handleTrigger, kindOfCode_code, State.recordDirective, State.obey, State.finishDirective]

/-- A directive with the expected number at a live part (R168, R169). -/
theorem exec_command_expected (k : DirKind) (h : s.live = true) :
    exec (k.command s.directive.expected) s =
      .next (((s.fresh.recordDirective s.directive.expected k.code (s.judge k.code)).obey k (s.judge k.code)).finishDirective k).settle := by
  rw [exec_command, State.liveEvent_of_live _ _ h]
  exact congrArg (fun u : State => Host.Outcome.next u.settle)
    ((s.fresh.trigger_expected k.code).trans (s.fresh.handleTrigger_kind k _))

/-- Everything but notices and signals is as it was after a directive's end. -/
theorem State.finishDirective_eq (k : DirKind) :
    s.finishDirective k = { s with notices := (s.finishDirective k).notices, signals := (s.finishDirective k).signals } := by
  unfold State.finishDirective; split <;> rfl

@[simp] theorem State.finishDirective_signals_report (k : DirKind) : (s.finishDirective k).signals.report = true := by
  unfold State.finishDirective; split <;> rfl
@[simp] theorem State.finishDirective_signals_dirtied (k : DirKind) :
    (s.finishDirective k).signals.dirtied = s.signals.dirtied := by
  unfold State.finishDirective; split <;> rfl
@[simp] theorem State.finishDirective_signals_reexamine (k : DirKind) :
    (s.finishDirective k).signals.reexamine = s.signals.reexamine := by
  unfold State.finishDirective; split <;> rfl
theorem State.finishDirective_notices (k : DirKind) (o : NoticeKind) (h : o ≠ .directive) :
    (s.finishDirective k).notices.get o = s.notices.get o := by
  unfold State.finishDirective
  split
  · rfl
  · cases o <;> first | rfl | exact absurd rfl h
theorem State.finishDirective_notice (k : DirKind) (h : k ≠ .acknowledge) :
    (s.finishDirective k).notices.directive = raised s.report.generation := by
  simp [State.finishDirective, h, State.raise, Notices.set]

end Sys2Proof.Machine
end

section
/-! SUPPORT. The segment map under its operations: what a segment's state is after each, and that none of them moves anything but the map
and the signals (R25, R37, R38, R40). -/

namespace Sys2Proof.Machine

open Sys2Proof

variable (s : State)

/-! ### One segment -/

/-- Looking a segment up after a change of the listed states, place by place. -/
theorem SegMap.get_mapCells (m : SegMap) (g : Segment × SegState → SegState) (k : Segment) :
    ({ m with cells := m.cells.map fun e => (e.1, g e) } : SegMap).get k
      = ((m.cells.find? fun e => e.1 == k).map g).getD .notTracked := by
  have same : ((fun e : Segment × SegState => e.1 == k) ∘ fun e => (e.1, g e)) = fun e => e.1 == k := rfl
  simp only [SegMap.get, List.find?_map, same, Option.map_map]
  rfl

/-- The states after a change of one segment's state (R25). -/
theorem SegMap.get_update (m : SegMap) (n : Segment) (f : SegState → SegState) (k : Segment) (hf : f .notTracked = .notTracked) :
    (m.update n f).get k = if k = n then f (m.get k) else m.get k := by
  have shape : m.update n f = { m with cells := m.cells.map fun e => (e.1, if e.1 = n then f e.2 else e.2) } := by
    unfold SegMap.update
    congr 2
    funext e
    split <;> rfl
  rw [shape, SegMap.get_mapCells]
  unfold SegMap.get
  cases h : m.cells.find? fun e => e.1 == k with
  | none => simp [hf]
  | some e =>
    have key : e.1 = k := by simpa using List.find?_some h
    simp [key]

theorem State.changeSeg_get (n : Segment) (f : SegState → SegState) (k : Segment) (hf : f .notTracked = .notTracked) :
    (s.changeSeg n f).map.get k = if k = n then f (s.map.get k) else s.map.get k :=
  s.map.get_update n f k hf

@[simp] theorem State.changeSeg_drift (n : Segment) (f : SegState → SegState) : (s.changeSeg n f).map.drift = s.map.drift := rfl
@[simp] theorem State.changeSeg_overflow (n : Segment) (f : SegState → SegState) :
    (s.changeSeg n f).map.overflow = s.map.overflow := rfl

/-- Every UNSENT segment is DIRTY after a RESUMED verdict, and no other changes (R27). -/
theorem State.unsentToDirty_get (n : Segment) :
    s.unsentToDirty.map.get n = if s.map.get n = .unsent then .dirty else s.map.get n := by
  have shape : s.unsentToDirty.map
      = { s.map with cells := s.map.cells.map fun e => (e.1, if e.2 = .unsent then .dirty else e.2) } := by
    simp only [State.unsentToDirty, State.toldDirty_map]
    congr 2
    funext e
    split <;> rfl
  rw [shape, SegMap.get_mapCells]
  unfold SegMap.get
  cases s.map.cells.find? fun e => e.1 == n <;> simp

/-! ### Operations that move only map and signals -/

/-- Between `s` and `t` only the map's states and the signals have moved. -/
def OnlyCells (s t : State) : Prop := t = { s with map := { s.map with cells := t.map.cells }, signals := t.signals }

theorem OnlyCells.refl (s : State) : OnlyCells s s := rfl

theorem OnlyCells.trans {s t u : State} (h : OnlyCells s t) (h' : OnlyCells t u) : OnlyCells s u := by
  unfold OnlyCells at *
  rw [h'] 
  rw [h]

theorem OnlyCells.changeSeg (n : Segment) (f : SegState → SegState) : OnlyCells s (s.changeSeg n f) := rfl

theorem OnlyCells.foldl {α : Type} (f : State → α → State) (h : ∀ s a, OnlyCells s (f s a)) (l : List α) (s : State) :
    OnlyCells s (l.foldl f s) := by
  induction l generalizing s with
  | nil => exact .refl s
  | cons a l ih => exact (h s a).trans (ih (f s a))

theorem OnlyCells.withdrawOne (left : List SeqFrame) (f : SeqFrame) : OnlyCells s (s.withdrawOne left f) := by
  cases f with
  | seg n ws => unfold State.withdrawOne; dsimp only; split <;> rfl
  | mir rs => exact .foldl _ (fun s r => .changeSeg s _ _) rs s
  | _ => rfl

theorem OnlyCells.withdrawAll (frames left : List SeqFrame) : OnlyCells s (s.withdrawAll frames left) :=
  .foldl _ (fun s f => .withdrawOne s left f) frames s

theorem OnlyCells.reopen (b : Option Buffer) : OnlyCells s (s.reopen b) := by
  cases b <;> rfl

/-! ### Many changes of segments -/

/-- The states after one change made at each segment of a list, the change being idempotent. -/
theorem State.foldl_changeSeg_get {α : Type} (seg : α → Segment) (f : SegState → SegState) (hf : f .notTracked = .notTracked)
    (hff : ∀ x, f (f x) = f x) (l : List α) (s : State) (k : Segment) :
    (l.foldl (fun s a => s.changeSeg (seg a) f) s).map.get k
      = if l.any (fun a => seg a == k) then f (s.map.get k) else s.map.get k := by
  induction l generalizing s with
  | nil => simp
  | cons a l ih =>
    rw [List.foldl_cons, ih, State.changeSeg_get _ _ _ _ hf, List.any_cons]
    by_cases hk : seg a = k
    · simp [hk, hff]
    · simp [hk, Ne.symm hk]

/-- The states after the withdrawal of one frame (R38). -/
theorem State.withdrawOne_get (left : List SeqFrame) (f : SeqFrame) (k : Segment) :
    (s.withdrawOne left f).map.get k =
      if hasRecord [f] k then sentToDirty (s.map.get k)
      else if isSegFor k f && !hasSeg left k then inflightToDirty (s.map.get k) else s.map.get k := by
  cases f with
  | seg n ws =>
    have one : s.withdrawOne left (.seg n ws) = if hasSeg left n.toNat then s else s.changeSeg n.toNat inflightToDirty := rfl
    have record : hasRecord [.seg n ws] k = false := rfl
    have seg : isSegFor k (.seg n ws) = (n.toNat == k) := rfl
    rw [one, record, seg]
    by_cases hk : k = n.toNat
    · subst hk
      cases hasSeg left n.toNat <;> simp [State.changeSeg_get s _ inflightToDirty _ rfl]
    · have other : (n.toNat == k) = false := by simpa using Ne.symm hk
      cases hasSeg left n.toNat <;> simp [State.changeSeg_get s _ inflightToDirty _ rfl, hk, other]
  | mir rs =>
    rw [State.withdrawOne, State.foldl_changeSeg_get _ _ rfl (by intro x; cases x <;> rfl)]
    simp [hasRecord, isSegFor]
  | _ => rfl

/-- The states after the withdrawal of frames (R38): a segment with a withdrawn record leaves INFLIGHT and CLEAN, one with a withdrawn SEG
frame and none left leaves INFLIGHT. -/
theorem State.withdrawAll_get (frames left : List SeqFrame) (s : State) (k : Segment) :
    (s.withdrawAll frames left).map.get k =
      if hasRecord frames k then sentToDirty (s.map.get k)
      else if hasSeg frames k && !hasSeg left k then inflightToDirty (s.map.get k) else s.map.get k := by
  unfold State.withdrawAll
  induction frames generalizing s with
  | nil => simp [hasRecord, hasSeg]
  | cons f fs ih =>
    have record : hasRecord (f :: fs) k = (hasRecord [f] k || hasRecord fs k) := by simp [hasRecord]
    have seg : hasSeg (f :: fs) k = (isSegFor k f || hasSeg fs k) := by simp [hasSeg]
    rw [List.foldl_cons, ih, State.withdrawOne_get, record, seg]
    cases hasRecord [f] k <;> cases hasRecord fs k <;> cases isSegFor k f <;> cases hasSeg fs k <;> cases hasSeg left k <;>
      cases s.map.get k <;> rfl

/-- The states after the retirement of one frame (R37). -/
theorem State.retireOne_get (f : SeqFrame) (left : List SeqFrame) (k : Segment) :
    (s.retireOne f left).map.get k =
      if isSegFor k f && !hasSeg left k then inflightToClean (s.map.get k) else s.map.get k := by
  cases f with
  | seg n ws =>
    have one : s.retireOne (.seg n ws) left = if hasSeg left n.toNat then s else s.changeSeg n.toNat inflightToClean := rfl
    have seg : isSegFor k (.seg n ws) = (n.toNat == k) := rfl
    rw [one, seg]
    by_cases hk : k = n.toNat
    · subst hk
      cases hasSeg left n.toNat <;> simp [State.changeSeg_get s _ inflightToClean _ rfl]
    · have other : (n.toNat == k) = false := by simpa using Ne.symm hk
      cases hasSeg left n.toNat <;> simp [State.changeSeg_get s _ inflightToClean _ rfl, hk, other]
  | _ => rfl

/-- The states after the retirement of frames, oldest first (R37): a segment whose last SEG frame is retired leaves INFLIGHT. -/
theorem State.retireAll_get (gone left : List SeqFrame) (s : State) (k : Segment) :
    (State.retireAll gone left s).map.get k =
      if hasSeg gone k && !hasSeg left k then inflightToClean (s.map.get k) else s.map.get k := by
  induction gone generalizing s with
  | nil => simp [State.retireAll, hasSeg]
  | cons f fs ih =>
    have seg : hasSeg (f :: fs) k = (isSegFor k f || hasSeg fs k) := by simp [hasSeg]
    have rest : hasSeg (fs ++ left) k = (hasSeg fs k || hasSeg left k) := by simp [hasSeg]
    rw [State.retireAll, ih, State.retireOne_get, seg, rest]
    cases isSegFor k f <;> cases hasSeg fs k <;> cases hasSeg left k <;> cases s.map.get k <;> rfl

/-! ### Retirement -/

/-- Between `s` and `t` only the map's states, the signals and the retired step have moved. -/
def OnlyRetired (s t : State) : Prop :=
  t = { s with map := { s.map with cells := t.map.cells }, signals := t.signals,
               session := { s.session with retiredStep := t.session.retiredStep } }

theorem OnlyRetired.retireOne (f : SeqFrame) (left : List SeqFrame) : OnlyRetired s (s.retireOne f left) := by
  cases f with
  | seg n ws => unfold State.retireOne; dsimp only; split <;> rfl
  | _ => rfl

theorem OnlyRetired.trans {s t u : State} (h : OnlyRetired s t) (h' : OnlyRetired t u) : OnlyRetired s u := by
  unfold OnlyRetired at *
  rw [h']
  rw [h]

theorem OnlyRetired.retireAll (gone left : List SeqFrame) (s : State) : OnlyRetired s (State.retireAll gone left s) := by
  induction gone generalizing s with
  | nil => rfl
  | cons f fs ih => exact (OnlyRetired.retireOne s f _).trans (ih _)

/-- Settles O23: the retirement of one frame, by the frame's kind. -/
theorem retirementMovesInflightToClean : Obligations.RetirementMovesInflightToClean := by
  intro s f left
  refine ⟨?_, ?_, ?_, ?_⟩
  · rintro n ws rfl
    refine ⟨?_, fun k hk => ?_⟩
    · have seg : isSegFor n.toNat (.seg n ws) = true := by simp [isSegFor]
      have later : left.any (isSegFor n.toNat) = hasSeg left n.toNat := rfl
      rw [State.retireOne_get, seg, later]
      cases hasSeg left n.toNat <;> cases s.map.get n.toNat <;> rfl
    · simp [State.retireOne_get, isSegFor, Ne.symm hk]
  · intro hf
    cases f with
    | seg n ws => exact absurd rfl (hf n ws)
    | _ => rfl
  · rintro rfl; rfl
  · rintro rfl; rfl

end Sys2Proof.Machine
end

section
/-! SUPPORT. The promises on session, throttle, map and link, and which operations keep them: most leave all that the promises look at, and
the few that move the session are taken one by one (R25, R64, R122, R144). -/

namespace Sys2Proof.Machine

open Sys2Proof

variable {s t u : State}

/-! ### What the promises look at -/

/-- The four promises on the session together (R25, R64, R122, R144). -/
def State.legal (s : State) : Prop := s.stateLegal ∧ s.throttleLegal ∧ s.mapLegal ∧ s.linkFollows

/-- The change of a segment's state makes no segment NONE. -/
def KeepsTracked (f : SegState → SegState) : Prop := ∀ x, x ≠ .notTracked → f x ≠ .notTracked

theorem sentToDirty_keepsTracked : KeepsTracked sentToDirty := by intro x h; cases x <;> simp_all [sentToDirty]
theorem inflightToDirty_keepsTracked : KeepsTracked inflightToDirty := by intro x h; cases x <;> simp_all [inflightToDirty]
theorem openToDirty_keepsTracked : KeepsTracked openToDirty := by intro x h; cases x <;> simp_all [openToDirty]
theorem inflightToClean_keepsTracked : KeepsTracked inflightToClean := by intro x h; cases x <;> simp_all [inflightToClean]
theorem toOpen_keepsTracked : KeepsTracked toOpen := by intro x h; cases x <;> simp_all [toOpen]
theorem openToInflight_keepsTracked : KeepsTracked openToInflight := by intro x h; cases x <;> simp_all [openToInflight]
theorem openToSrcFault_keepsTracked : KeepsTracked openToSrcFault := by intro x h; cases x <;> simp_all [openToSrcFault]
theorem cleanToDirty_keepsTracked : KeepsTracked cleanToDirty := by intro x h; cases x <;> simp_all [cleanToDirty]
theorem flushToDirty_keepsTracked : KeepsTracked flushToDirty := by intro x h; cases x <;> simp_all [flushToDirty]

/-- The map lists the same segments in the same order, and none of them has become NONE. -/
def CellsKept (a b : List (Segment × SegState)) : Prop :=
  b.map Prod.fst = a.map Prod.fst ∧ ((∀ e ∈ a, e.2 ≠ .notTracked) → ∀ e ∈ b, e.2 ≠ .notTracked)

@[simp] theorem CellsKept.refl (a : List (Segment × SegState)) : CellsKept a a := ⟨rfl, id⟩

theorem CellsKept.trans {a b c : List (Segment × SegState)} (h : CellsKept a b) (h' : CellsKept b c) : CellsKept a c :=
  ⟨h'.1.trans h.1, h'.2 ∘ h.2⟩

theorem CellsKept.mapCells (a : List (Segment × SegState)) (g : Segment × SegState → Segment × SegState)
    (key : ∀ e, (g e).1 = e.1) (tracked : ∀ e, e.2 ≠ .notTracked → (g e).2 ≠ .notTracked) : CellsKept a (a.map g) := by
  refine ⟨?_, fun h e he => ?_⟩
  · simp [Function.comp_def, key]
  · obtain ⟨d, hd, rfl⟩ := List.mem_map.1 he
    exact tracked d (h d hd)

theorem CellsKept.update (m : SegMap) (n : Segment) (f : SegState → SegState) (hf : KeepsTracked f) :
    CellsKept m.cells (m.update n f).cells := by
  refine .mapCells _ _ (fun e => ?_) (fun e he => ?_)
  · split <;> rfl
  · split
    · exact hf _ he
    · exact he

/-- Role, session state, throttle, listed segments, region table and power are as they were. -/
structure SameSession (s t : State) : Prop where
  role : t.session.role = s.session.role
  state : t.session.state = s.session.state
  throttle : t.review.throttle = s.review.throttle
  cells : CellsKept s.map.cells t.map.cells
  regions : t.regions = s.regions
  power : t.chassis.power = s.chassis.power

/-- All that the promises look at is as it was. -/
structure SameFrame (s t : State) : Prop extends SameSession s t where
  link : t.link.state = s.link.state

theorem SameSession.trans (h : SameSession s t) (h' : SameSession t u) : SameSession s u where
  role := h'.role.trans h.role
  state := h'.state.trans h.state
  throttle := h'.throttle.trans h.throttle
  cells := h.cells.trans h'.cells
  regions := h'.regions.trans h.regions
  power := h'.power.trans h.power

theorem SameFrame.of_fields (role : t.session.role = s.session.role) (state : t.session.state = s.session.state)
    (throttle : t.review.throttle = s.review.throttle) (cells : CellsKept s.map.cells t.map.cells) (regions : t.regions = s.regions)
    (power : t.chassis.power = s.chassis.power) (link : t.link.state = s.link.state) : SameFrame s t :=
  { role, state, throttle, cells, regions, power, link }

theorem SameFrame.refl (s : State) : SameFrame s s := by apply of_fields <;> simp

theorem SameFrame.trans (h : SameFrame s t) (h' : SameFrame t u) : SameFrame s u :=
  { h.toSameSession.trans h'.toSameSession with link := h'.link.trans h.link }

theorem SameFrame.foldl {α : Type} (f : State → α → State) (h : ∀ s a, SameFrame s (f s a)) (l : List α) (s : State) :
    SameFrame s (l.foldl f s) := by
  induction l generalizing s with
  | nil => exact .refl s
  | cons a l ih => exact (h s a).trans (ih (f s a))

theorem SameSession.inFeed (h : SameSession s t) : t.inFeed = s.inFeed := by simp [State.inFeed, h.role, h.state]

theorem SameSession.inTake (h : SameSession s t) : t.inTake = s.inTake := by simp [State.inTake, h.role, h.state]

/-- Three of the promises do not look at the link. -/
theorem SameSession.legal (h : SameSession s t) (hs : s.legal) : t.stateLegal ∧ t.throttleLegal ∧ t.mapLegal := by
  obtain ⟨hstate, hthrottle, hmap, -⟩ := hs
  refine ⟨?_, ?_, ?_⟩
  · simpa only [State.stateLegal, h.role, h.state] using hstate
  · simpa only [State.throttleLegal, h.inFeed, h.state, h.throttle] using hthrottle
  · unfold State.mapLegal at hmap ⊢
    rw [h.inFeed, h.regions]
    split at hmap
    · next hf => rw [if_pos hf]; exact ⟨h.cells.1.trans hmap.1, h.cells.2 hmap.2⟩
    · next hf =>
      rw [if_neg hf]
      have none := h.cells.1
      rwa [hmap, List.map_nil, List.map_eq_nil_iff] at none

theorem State.legal.same (hs : s.legal) (h : SameFrame s t) : t.legal := by
  obtain ⟨a, b, c⟩ := h.toSameSession.legal hs
  refine ⟨a, b, c, ?_⟩
  have := hs.2.2.2
  simpa only [State.linkFollows, h.power, h.link, h.state] using this

/-- With a session active the link may be in TRAINING or UP. -/
theorem State.legal.link (hs : s.legal) (h : SameSession s t) (active : s.session.state ≠ .idle) (link : t.link.state ≠ .off) :
    t.legal := by
  obtain ⟨a, b, c⟩ := h.legal hs
  exact ⟨a, b, c, fun _ => iff_of_false link (h.state ▸ active)⟩

/-! ### Operations that leave all of it -/

namespace SameFrame

variable (s)

theorem changeSeg (n : Segment) (f : SegState → SegState) (hf : KeepsTracked f) :
    SameFrame s (s.changeSeg n f) := by
  apply of_fields <;> first | exact .update s.map n f hf | simp

theorem unsentToDirty : SameFrame s s.unsentToDirty := by
  have cells : CellsKept s.map.cells s.unsentToDirty.map.cells := by
    refine .mapCells _ _ (fun e => ?_) (fun e he => ?_)
    · split <;> rfl
    · split
      · simp
      · exact he
  apply of_fields <;> first | exact cells | simp

theorem raise (k : NoticeKind) : SameFrame s (s.raise k) := by apply of_fields <;> simp
theorem recordFault (f : SessFault) : SameFrame s (s.recordFault f) := by apply of_fields <;> simp
theorem requestReport : SameFrame s s.requestReport := by apply of_fields <;> simp
theorem heard : SameFrame s s.heard := by apply of_fields <;> simp
theorem discardFrame : SameFrame s s.discardFrame := by apply of_fields <;> simp
theorem fresh : SameFrame s s.fresh := by apply of_fields <;> simp
theorem settle : SameFrame s s.settle := by apply of_fields <;> simp
theorem verifyFailed (n : Segment) (c : Cause) : SameFrame s (s.verifyFailed n c) := by apply of_fields <;> simp
theorem verified (n : Segment) : SameFrame s (s.verified n) := by apply of_fields <;> simp

theorem advance (n : Nat) : SameFrame s (s.advance n) := by
  apply of_fields <;> first | simp | (unfold State.advance; (repeat' split) <;> rfl)

theorem endTick (n : Nat) (l : Link → Link) (hl : ∀ k, (l k).state = k.state) :
    SameFrame s { s.advance n with link := l (s.advance n).link } := by
  have h := advance s n
  exact { h with link := (hl _).trans h.link }

theorem withdrawOne (left : List SeqFrame) (f : SeqFrame) : SameFrame s (s.withdrawOne left f) := by
  cases f with
  | seg n ws =>
    unfold State.withdrawOne
    dsimp only
    split
    · exact .refl s
    · exact changeSeg s _ _ inflightToDirty_keepsTracked
  | mir rs => exact foldl _ (fun s r => changeSeg s _ _ sentToDirty_keepsTracked) rs s
  | _ => exact .refl s

theorem withdrawAll (frames left : List SeqFrame) : SameFrame s (s.withdrawAll frames left) :=
  foldl _ (fun s f => withdrawOne s left f) frames s

theorem reopen (b : Option Buffer) : SameFrame s (s.reopen b) := by
  cases b with
  | none => exact .refl s
  | some b => exact changeSeg s _ _ openToDirty_keepsTracked

theorem flushContinuing : SameFrame s s.flushContinuing := by
  have marked := foldl _ (fun s (e : OverlayEntry) => changeSeg s (segmentOf e.addr) flushToDirty flushToDirty_keepsTracked)
    s.freeze.entries s
  exact { marked with }

theorem loseFrames : SameFrame s s.loseFrames := by
  have reopened := (reopen s s.walker.buf0).trans (reopen _ s.walker.buf1)
  have emptied : SameFrame ((s.reopen s.walker.buf0).reopen s.walker.buf1)
      ((s.reopen s.walker.buf0).reopen s.walker.buf1).dropBuffers.emptyQueues := by apply of_fields <;> simp
  exact ((reopened.trans emptied).trans (withdrawAll _ _ _)).trans (flushContinuing _)

theorem retireOne (f : SeqFrame) (left : List SeqFrame) : SameFrame s (s.retireOne f left) := by
  cases f with
  | seg n ws =>
    unfold State.retireOne
    dsimp only
    split
    · exact .refl s
    · exact changeSeg s _ _ inflightToClean_keepsTracked
  | _ => apply of_fields <;> simp [State.retireOne]

theorem retireAll (gone left : List SeqFrame) (s : State) : SameFrame s (State.retireAll gone left s) := by
  induction gone generalizing s with
  | nil => exact .refl s
  | cons f fs ih => exact (retireOne s f _).trans (ih _)

theorem retire (n : Nat) : SameFrame s (s.retire n) := by
  unfold State.retire
  exact { retireAll _ _ ({ s with feed := _ } : State) with }

theorem keepFigures (freed : BitVec 8) (fails : BitVec 16) (st : SessState) : SameFrame s (s.keepFigures freed fails st) := by
  unfold State.keepFigures
  split <;> apply of_fields <;> simp

theorem withdrawFrom (d : Nat) (e : Seq) : SameFrame s (s.withdrawFrom d e) := by
  have after (frames : List SeqFrame) (u : State) : SameFrame u (u.afterWithdrawal frames) := by
    unfold State.afterWithdrawal
    (repeat' split) <;> apply of_fields <;> simp
  have pend (u : State) : SameFrame u (u.pendRewound e) := by apply of_fields <;> simp [State.pendRewound]
  unfold State.withdrawFrom
  exact { ((withdrawAll { s with feed := _ } _ _).trans (pend _)).trans (after _ _) with }

/-! Requests at the port and grants -/

theorem examineRead (st : Stream) (a : Addr) : SameFrame s (s.examineRead st a) := by
  unfold State.examineRead State.readCandidate State.answerRead State.returnAnswers
  (repeat' split) <;> apply of_fields <;> simp

theorem examineWrite (w : WriteReq) : SameFrame s (s.examineWrite w) := by apply of_fields <;> simp

theorem toMemory (r : MemRequest) : SameFrame s (s.toMemory r) := by apply of_fields <;> simp

theorem supersede (w : WriteReq) : SameFrame s (s.supersede w) := by
  unfold State.supersede
  dsimp only
  split <;> apply of_fields <;> simp

theorem patchWrite (w : WriteReq) : SameFrame s (s.patchWrite w) := by
  unfold State.patchWrite State.patchStaging
  split <;> apply of_fields <;> simp

theorem offerMirror (w : WriteReq) : SameFrame s (s.offerMirror w) := by
  unfold State.offerMirror
  split
  · apply of_fields <;> simp
  · exact { changeSeg s (segmentOf w.addr) _ sentToDirty_keepsTracked with }

theorem mapWrite (w : WriteReq) : SameFrame s (s.mapWrite w) := by
  have mirror : SameFrame s (s.mapMirror w) := by
    unfold State.mapMirror
    (repeat' split) <;> first | exact changeSeg s _ _ cleanToDirty_keepsTracked | exact offerMirror s w | exact .refl s
  have snapshot : SameFrame s (s.mapSnapshot w) := by
    unfold State.mapSnapshot
    split <;> apply of_fields <;> simp
  unfold State.mapWrite
  (repeat' split) <;> first | exact mirror | exact snapshot | exact .refl s

theorem issueRead (r : ReadFor) (a : Addr) : SameFrame s (s.issueRead r a) := by apply of_fields <;> simp [State.issueRead]

theorem grantWalk : SameFrame s s.grantWalk := by
  unfold State.grantWalk
  (repeat' split) <;> first | exact .refl s | exact { issueRead { s with walker := _ } _ _ with }

theorem placeReplay (e : OverlayEntry) : SameFrame s (s.placeReplay e) := by
  unfold State.placeReplay
  split <;> apply of_fields <;> simp

theorem grantJob (r : ReadFor) (j : VerifyJob) : SameFrame s (s.grantJob r j) := by
  unfold State.grantJob
  split <;> first | exact issueRead s _ _ | exact toMemory s _ | exact .refl s

theorem grantApply : SameFrame s s.grantApply := by
  unfold State.grantApply
  split
  · exact .refl s
  · exact { grantJob { s with take := _ } _ _ with }

theorem grantFill : SameFrame s s.grantFill := by
  unfold State.grantFill
  split
  · exact .refl s
  · exact { grantJob { s with take := _ } _ _ with }

theorem grantReportWord : SameFrame s s.grantReportWord := by
  unfold State.grantReportWord State.grantReport
  dsimp only
  (repeat' split) <;> apply of_fields <;> simp

theorem upstreamResponse (st : Stream) (r : ReadResult) : SameFrame s (s.upstreamResponse st r) := by
  apply of_fields <;> simp [State.upstreamResponse, State.returnAnswers]

/-! The walker and its buffers -/

theorem takeBuffer (n : Segment) (i : Nat) : SameFrame s (s.takeBuffer n i) :=
  { changeSeg { s with walker := _ } n _ toOpen_keepsTracked with }

theorem walkStep : SameFrame s s.walkStep := by
  unfold State.walkStep
  (repeat' split) <;> first | exact takeBuffer s _ _ | apply of_fields <;> simp

theorem takeIfWaiting : SameFrame s s.takeIfWaiting := by
  unfold State.takeIfWaiting
  (repeat' split) <;> first | exact takeBuffer s _ _ | exact .refl s

theorem sourceFault (second : Bool) (n : Segment) : SameFrame s (s.sourceFault second n) := by
  have fault : SameFrame s (s.changeSeg n openToSrcFault) := changeSeg s n _ openToSrcFault_keepsTracked
  have listed (u : State) : SameFrame u (({ u with walker := u.walker.setBuf second none } : State).enterFault n .source) := by
    apply of_fields <;> simp
  exact ((fault.trans (listed _)).trans (recordFault _ _)).trans (takeIfWaiting _)

theorem stagingResponse (second : Bool) (i use : Nat) (status : Status) (data : Word) :
    SameFrame s (s.stagingResponse second i use status data) := by
  unfold State.stagingResponse
  dsimp only
  (repeat' split) <;> first | exact sourceFault s _ _ | apply of_fields <;> simp

theorem queueSeg : SameFrame s s.queueSeg := by
  unfold State.queueSeg
  split
  · split
    · exact .refl s
    · split
      · exact .refl s
      · next second _ b _ =>
        have queued : SameFrame s ((s.enqueue b.frame).changeSeg b.segment openToInflight) :=
          { changeSeg (s.enqueue b.frame) b.segment _ openToInflight_keepsTracked with }
        exact queued.trans { takeIfWaiting { (s.enqueue b.frame).changeSeg b.segment openToInflight with walker := _ } with }
  · exact .refl s

/-! The apply and fill units, as far as the session state stays -/

theorem beginRecords (limit : Nat) (rs : List MirrorRecord) (s : State) : SameFrame s (s.beginRecords limit rs) := by
  induction rs generalizing s with
  | nil => apply of_fields <;> simp [State.beginRecords]
  | cons r rs ih =>
    unfold State.beginRecords
    split
    · exact ih s
    · split
      · apply of_fields <;> simp
      · exact (verifyFailed s _ _).trans (ih _)

theorem beginSeg (n : Segment) (words : Vector Word 64) : SameFrame s (s.beginSeg n words) := by
  unfold State.beginSeg
  split
  · apply of_fields <;> simp
  · exact verifyFailed s n .verify

theorem failInFinal (f : SeqFrame) : SameFrame s (s.failInFinal f) := by
  cases f with
  | seg n ws => exact verifyFailed s _ _
  | mir rs => exact foldl _ (fun s r => verifyFailed s _ _) rs s
  | _ => exact .refl s

theorem completeHead : SameFrame s s.completeHead := by
  unfold State.completeHead
  split <;> apply of_fields <;> simp

theorem applyOutcome (a : ApplyWork) (ok : Bool) : SameFrame s (s.applyOutcome a ok) := by
  cases ok with
  | false => exact verifyFailed s a.segment .verify
  | true =>
    unfold State.applyOutcome
    cases a.kind with
    | seg => exact verified s a.segment
    | mir => exact .refl s
    | fill => exact .refl s

/-! The transmitter -/

theorem send (f : TxFrame) : SameFrame s (s.send f) := by apply of_fields <;> simp [State.send]

theorem ite (c : Prop) [Decidable c] {s t u : State} (ht : SameFrame s t) (hu : SameFrame s u) : SameFrame s (if c then t else u) := by
  split
  · exact ht
  · exact hu

theorem sendHead : SameFrame s s.sendHead := by
  unfold State.sendHead
  split
  · exact .refl s
  · next f rest _ =>
    have counted : (if s.countsC f then { s.review with c := satAdd Config.topC s.review.c 1 } else s.review).throttle
        = s.review.throttle := by split <;> rfl
    have taken (feed : Feed) : SameFrame s { s with
        feed := feed
        review := if s.countsC f then { s.review with c := satAdd Config.topC s.review.c 1 } else s.review } := by
      apply of_fields <;> first | exact counted | simp
    exact ((taken _).trans (ite _ (raise _ _) (.refl _))).trans (send _ _)

theorem sendDue (f : TxFrame) (l : Link) (feed : Feed) (hl : l.state = s.link.state) :
    SameFrame s (({ s with link := l, feed } : State).send f) :=
  { send { s with link := l, feed } f with link := hl }

theorem transmitFeed : SameFrame s s.transmitFeed := by
  unfold State.transmitFeed
  refine ite _ (sendDue s _ s.link _ rfl) (ite _ (sendDue s _ _ s.feed rfl) (ite _ (sendDue s _ _ s.feed rfl)
    (ite _ (sendDue s _ _ s.feed rfl) (ite _ (sendHead s) (ite _ (send s _) (.refl s))))))

theorem transmitTake : SameFrame s s.transmitTake := by
  unfold State.transmitTake State.sendReadyOrAck
  refine ite _ (sendDue s _ _ s.feed rfl) (ite _ (sendDue s _ _ s.feed rfl) (ite _ ?_ (.refl s)))
  split
  · exact sendDue s _ _ s.feed rfl
  · exact ite _ (sendDue s _ _ s.feed rfl) (ite _ (sendDue s _ _ s.feed rfl) (.refl s))

end SameFrame

end Sys2Proof.Machine
end

section
/-! SUPPORT. The operations that move the session keep the promises (R25, R64, R122, R144). -/

namespace Sys2Proof.Machine

open Sys2Proof

variable {s t : State}

/-! ### The promises by role -/

theorem State.inFeed_iff : s.inFeed = true ↔ s.session.role = .feed ∧ s.session.state ≠ .idle := by simp [State.inFeed]

theorem State.inTake_iff : s.inTake = true ↔ s.session.role = .take ∧ s.session.state ≠ .idle := by simp [State.inTake]

/-- A part in a take session is in no feed session. -/
theorem State.inFeed_of_inTake (h : s.inTake = true) : s.inFeed = false := by
  simp [State.inFeed, (State.inTake_iff.1 h).1]

/-- A part in a feed session is in no take session. -/
theorem State.inTake_of_inFeed (h : s.inFeed = true) : s.inTake = false := by
  simp [State.inTake, (State.inFeed_iff.1 h).1]

/-- The map holds one state, not NONE, for each tracked segment of the table, in walk order. -/
def State.mapTracks (s : State) : Prop :=
  s.map.cells.map Prod.fst = walkOrder s.regions ∧ ∀ e ∈ s.map.cells, e.2 ≠ .notTracked

theorem State.legal.mapTracks (h : s.legal) (hf : s.inFeed = true) : s.mapTracks := by
  have map := h.2.2.1
  rwa [State.mapLegal, if_pos hf] at map

theorem State.legal.cells (h : s.legal) (hf : s.inFeed = false) : s.map.cells = [] := by
  have := h.2.2.1
  simpa [State.mapLegal, hf] using this

theorem State.legal.throttle (h : s.legal) (hf : s.inFeed = false) : s.review.throttle = 0 := h.2.1.2 (.inl hf)

theorem State.legal.linked (h : s.legal) (active : s.session.state ≠ .idle) (hp : s.chassis.power = true) : s.link.state ≠ .off :=
  fun off => active ((h.2.2.2 hp).1 off)

/-- The promises in a feed session. -/
theorem State.legal_of_feed (role : t.session.role = .feed) (state : feedState t.session.state = true)
    (throttle : t.review.throttle ≤ 3) (calm : t.session.state = .steady ∨ t.session.state = .handover → t.review.throttle = 0)
    (map : t.mapTracks) (link : t.chassis.power = true → t.link.state ≠ .off) : t.legal := by
  have active : t.session.state ≠ .idle := by intro h; simp [h, feedState] at state
  have feed : t.inFeed = true := State.inFeed_iff.2 ⟨role, active⟩
  refine ⟨?_, ⟨throttle, fun h => calm (h.resolve_left (by simp [feed]))⟩, ?_, fun hp => iff_of_false (link hp) active⟩
  · simp [State.stateLegal, role, state]
  · rwa [State.mapLegal, if_pos feed]

/-- The promises in a take session. -/
theorem State.legal_of_take (role : t.session.role = .take) (state : takeState t.session.state = true)
    (throttle : t.review.throttle = 0) (cells : t.map.cells = []) (link : t.chassis.power = true → t.link.state ≠ .off) :
    t.legal := by
  have active : t.session.state ≠ .idle := by intro h; simp [h, takeState] at state
  have feed : t.inFeed = false := by simp [State.inFeed, role]
  refine ⟨?_, ⟨by omega, fun _ => throttle⟩, ?_, fun hp => iff_of_false (link hp) active⟩
  · simp [State.stateLegal, role, state]
  · simpa [State.mapLegal, feed] using cells

/-- The promises in IDLE. -/
theorem State.legal_of_idle (state : t.session.state = .idle) (throttle : t.review.throttle = 0) (cells : t.map.cells = [])
    (link : t.chassis.power = true → t.link.state = .off) : t.legal := by
  have feed : t.inFeed = false := by simp [State.inFeed, state]
  refine ⟨?_, ⟨by omega, fun _ => throttle⟩, ?_, fun hp => iff_of_true (link hp) state⟩
  · unfold State.stateLegal
    split <;> simp [state]
  · simpa [State.mapLegal, feed] using cells

/-! ### A link loss at the feed, in its two parts -/

/-- The feed once its frames are lost and its link is back in TRAINING (R39, R68). -/
def State.lostLink (s : State) : State :=
  { s.loseFrames.retrain with feed := { s.loseFrames.retrain.feed with sentTotal := 0, freedTotal := 0 } }

/-- The feed session states that a link loss takes to SUSPENDED (R152). -/
def lossSuspends (st : SessState) : Bool :=
  match st with
  | .install | .sweep | .catchup | .freeze | .replay | .steady | .handover => true
  | _ => false

/-- What a link loss makes of the feed's session (R152): a handover under way becomes a pending one. -/
def State.suspendByState (s : State) : State :=
  if lossSuspends s.session.state then
    ({ s with session := { s.session with
        handoverPending := if s.session.state = .handover then true else s.session.handoverPending } } : State).suspend
      (if s.session.state = .install then .fresh else .resume)
  else s

theorem State.loseLinkFeed_eq (s : State) : s.loseLinkFeed = s.lostLink.suspendByState := by
  have parts : s.loseLinkFeed = (match s.lostLink.session.state with
    | .install => s.lostLink.suspend .fresh
    | .sweep => s.lostLink.suspend .resume
    | .catchup => s.lostLink.suspend .resume
    | .freeze => s.lostLink.suspend .resume
    | .replay => s.lostLink.suspend .resume
    | .steady => s.lostLink.suspend .resume
    | .handover => ({ s.lostLink with session := { s.lostLink.session with handoverPending := true } } : State).suspend .resume
    | _ => s.lostLink) := rfl
  rw [parts, State.suspendByState]
  cases s.lostLink.session.state <;> simp [lossSuspends]

/-! ### Moves of a feed session -/

namespace State.legal

theorem setState_feed (h : s.legal) (hf : s.inFeed = true) (st : SessState) (hst : feedState st = true)
    (calm : st = .steady ∨ st = .handover → s.review.throttle = 0) : (s.setState st).legal := by
  obtain ⟨role, active⟩ := State.inFeed_iff.1 hf
  refine State.legal_of_feed ?_ ?_ ?_ ?_ ?_ ?_
  · simpa using role
  · simpa using hst
  · simpa using h.2.1.1
  · simpa using calm
  · simpa [State.mapTracks] using h.mapTracks hf
  · simpa using h.linked active

theorem setThrottle (h : s.legal) (hf : s.inFeed = true) (moving : s.session.state ≠ .steady ∧ s.session.state ≠ .handover)
    {n : Nat} (hn : n ≤ 3) : (s.setThrottle n).legal := by
  have level : (s.setThrottle n).review.throttle = n := rfl
  have feed : (s.setThrottle n).inFeed = true := by simpa [State.inFeed] using hf
  refine ⟨?_, ⟨by omega, ?_⟩, ?_, ?_⟩
  · simpa [State.stateLegal] using h.1
  · rintro (hc | hc | hc)
    · simp [feed] at hc
    · exact absurd (by simpa using hc) moving.1
    · exact absurd (by simpa using hc) moving.2
  · have := h.mapTracks hf
    simpa [State.mapLegal, feed, State.mapTracks] using this
  · simpa [State.linkFollows] using h.2.2.2

/-- An update that leaves every block the promises look at. -/
theorem startPass (h : s.legal) (n : Nat) : (s.startPass n).legal := h.same (by apply SameFrame.of_fields <;> simp)

theorem enterHandover (h : s.legal) (hf : s.inFeed = true) (calm : s.review.throttle = 0) : s.enterHandover.legal :=
  (h.setState_feed hf .handover rfl fun _ => calm).same (by apply SameFrame.of_fields <;> simp [State.enterHandover])

theorem enterFreeze (h : s.legal) (hf : s.inFeed = true) : s.enterFreeze.legal :=
  (h.setState_feed hf .freeze rfl (by simp)).same (by apply SameFrame.of_fields <;> simp [State.enterFreeze])

theorem enterSteady (h : s.legal) (hf : s.inFeed = true) : s.enterSteady.legal := by
  obtain ⟨role, active⟩ := State.inFeed_iff.1 hf
  have level : s.enterSteady.review.throttle = 0 := rfl
  have state : s.enterSteady.session.state = .steady := by simp [State.enterSteady]
  refine State.legal_of_feed ?_ ?_ ?_ ?_ ?_ ?_
  · simpa using role
  · simp [state, feedState]
  · omega
  · exact fun _ => level
  · simpa [State.mapTracks] using h.mapTracks hf
  · simpa using h.linked active

/-- STEADY leaves at once for HANDOVER where one is pending (R135, R155). -/
theorem enterSteadyOrHandover (h : s.legal) (hf : s.inFeed = true) {u : State} (hu : SameFrame s.enterSteady u) :
    (if u.session.handoverPending then u.enterHandover else u).legal := by
  have steady := (h.enterSteady hf).same hu
  split
  · refine steady.enterHandover ?_ ?_
    · rw [hu.inFeed]
      simpa [State.inFeed, State.enterSteady] using (State.inFeed_iff.1 hf).1
    · exact hu.throttle
  · exact steady

theorem endReplay (h : s.legal) : s.endReplay.legal := by
  unfold State.endReplay
  split
  · next hr =>
    have feed : s.inFeed = true := by
      have legal := h.1
      cases role : s.session.role <;> simp_all [State.stateLegal, takeState, State.inFeed]
    exact h.enterSteadyOrHandover feed (.refl _)
  · exact h

theorem requestHandover (h : s.legal) : s.requestHandover.legal := by
  unfold State.requestHandover
  split
  · next hf =>
    split
    · next st => exact h.enterHandover hf (h.2.1.2 (.inr (.inl st)))
    · exact h
    · exact h.same (by apply SameFrame.of_fields <;> simp)
  · exact h

theorem endFeed (close : Option CloseReason) : (s.endFeed close).legal := by
  refine State.legal_of_idle ?_ ?_ ?_ ?_
  · simp [State.endFeed]
  · simp [State.endFeed, State.setThrottle]
  · simp [State.endFeed, State.clearMap]
  · simp [State.endFeed, State.closeLink, Link.enterOff]

theorem retrain (h : s.legal) (active : s.session.state ≠ .idle) : s.retrain.legal :=
  h.link (by constructor <;> simp) active (by simp [State.retrain, Link.enterTraining])

theorem suspend (h : s.legal) (hf : s.inFeed = true) (kind : GreetKind) : (s.suspend kind).legal := by
  have same : SameFrame s { s with
      freeze := { s.freeze with timer := none }
      session := { s.session with retiredStep := .stale, stalePending := false, resumeKind := kind, hold := some 0 } } := by
    apply SameFrame.of_fields <;> simp
  exact (h.same same).setState_feed (same.inFeed ▸ hf) .suspended rfl (by simp)

theorem suspendByState (h : s.legal) (hf : s.inFeed = true) : s.suspendByState.legal := by
  have pending : SameFrame s { s with session := { s.session with
      handoverPending := if s.session.state = .handover then true else s.session.handoverPending } } := by
    apply SameFrame.of_fields <;> simp
  unfold State.suspendByState
  split
  · exact (h.same pending).suspend (pending.inFeed ▸ hf) _
  · exact h

theorem loseLinkFeed (h : s.legal) (hf : s.inFeed = true) : s.loseLinkFeed.legal := by
  have lost := SameFrame.loseFrames s
  have feed : s.loseFrames.inFeed = true := lost.inFeed ▸ hf
  have trained := (h.same lost).retrain (State.inFeed_iff.1 feed).2
  have same : SameFrame s.loseFrames.retrain s.lostLink := by apply SameFrame.of_fields <;> simp [State.lostLink]
  have feed' : s.lostLink.inFeed = true := by
    rw [same.inFeed]
    simpa [State.inFeed] using feed
  rw [State.loseLinkFeed_eq]
  exact (trained.same same).suspendByState feed'

/-! ### Moves of a take session -/

theorem setState_take (h : s.legal) (ht : s.inTake = true) (st : SessState) (hst : takeState st = true) :
    (s.setState st).legal := by
  obtain ⟨role, active⟩ := State.inTake_iff.1 ht
  have feed := State.inFeed_of_inTake ht
  refine State.legal_of_take ?_ ?_ ?_ ?_ ?_
  · simpa using role
  · simpa using hst
  · simpa using h.throttle feed
  · simpa using h.cells feed
  · simpa using h.linked active

theorem endTake (h : s.legal) (hf : s.inFeed = false) (close : Option CloseReason) : (s.endTake close).legal := by
  refine State.legal_of_idle ?_ ?_ ?_ ?_
  · simp [State.endTake]
  · simpa using h.throttle hf
  · simpa using h.cells hf
  · simp [State.endTake, State.closeLink, Link.enterOff]

theorem enterHeld (h : s.legal) (ht : s.inTake = true) : s.enterHeld.legal := by
  have same : SameFrame s { s.dropWork with
      take := { s.dropWork.take with awaitingLayout := false }
      session := { s.dropWork.session with hold := some 0, greeted := none } } := by
    apply SameFrame.of_fields <;> simp
  exact (h.same same).setState_take (same.inTake ▸ ht) .held rfl

theorem enterDetached (h : s.legal) (ht : s.inTake = true) : s.enterDetached.legal := by
  have same : SameFrame s { s.dropWork with
      take := { s.dropWork.take with awaitingLayout := false }
      link := { s.dropWork.link with bringup := none }
      session := { s.dropWork.session with hold := none, greeted := none } } := by
    apply SameFrame.of_fields <;> simp
  exact (h.same same).setState_take (same.inTake ▸ ht) .detached rfl

theorem loseLinkTake (h : s.legal) (ht : s.inTake = true) : s.loseLinkTake.legal := by
  have trained := h.retrain (State.inTake_iff.1 ht).2
  have take : s.retrain.inTake = true := by simpa [State.inTake] using ht
  unfold State.loseLinkTake
  dsimp only
  (repeat' split) <;>
    first
    | exact trained.enterHeld take
    | exact trained

/-! ### Moves of either role -/

theorem loseLink (h : s.legal) : s.loseLink.legal := by
  unfold State.loseLink
  split
  · split
    · next hf => exact h.loseLinkFeed hf
    · split
      · next ht => exact h.loseLinkTake ht
      · exact h
  · exact h

theorem endSession (h : s.legal) (close : Option CloseReason) : (s.endSession close).legal := by
  unfold State.endSession
  split
  · exact endFeed close
  · next hf =>
    split
    · exact h.endTake (by simpa using hf) close
    · exact h

end State.legal

end Sys2Proof.Machine
end

section
/-! SUPPORT. Every command keeps the promises on session, throttle, map and link, and so does every step (R25, R64, R122, R144). -/

namespace Sys2Proof.Machine

open Sys2Proof

variable {s : State}

/-- A directive with outcome DONE is allowed in the session state (R169). -/
theorem State.dirAllowed_of_judge {k : DirKind} {code : Byte} (hk : kindOfCode code = some k) (h : s.judge code = .done) :
    s.dirAllowed k = true := by
  cases hn : s.dirAllowed k
  · simp [State.judge, hk, hn] at h
  · rfl

namespace State.legal

/-! ### Events -/

theorem event (h : s.legal) (f : State → State) (hf : ∀ u : State, u.legal → (f u).legal) : (s.event f).legal :=
  (hf _ (h.same (.fresh s))).same (.settle _)

theorem guarded (h : s.legal) (c : Prop) [Decidable c] {t : State} (ht : c → t.legal) : (if c then t else s).legal := by
  split
  · next hc => exact ht hc
  · exact h

theorem liveEvent (h : s.legal) (f : State → State) (hf : ∀ u : State, u.legal → (f u).legal) : (s.liveEvent f).legal :=
  h.event _ fun _ hu => hu.guarded _ fun _ => hf _ hu

/-! ### Resets and power -/

theorem coldStart (resetN : Bool) (pins : Pins) : (s.coldStart resetN pins).legal := by
  unfold State.coldStart
  dsimp only
  split <;> exact State.legal_of_idle rfl rfl rfl fun _ => rfl

theorem warmStart : s.warmStart.legal := State.legal_of_idle rfl rfl rfl fun _ => rfl

theorem riseStart (h : s.legal) (power : s.chassis.power = true) (pins : Pins) : (s.riseStart pins).legal := by
  refine h.same ?_
  unfold State.riseStart
  dsimp only
  split <;> apply SameFrame.of_fields <;> simp [Chassis.rise, Chassis.atCold, power]

theorem powerDown (h : s.legal) : s.powerDown.legal := by
  obtain ⟨state, throttle, map, -⟩ := h
  refine ⟨?_, ?_, ?_, fun hp => by simp [State.powerDown] at hp⟩
  · simpa [State.powerDown, State.stateLegal] using state
  · simpa [State.powerDown, State.throttleLegal, State.inFeed] using throttle
  · simpa [State.powerDown, State.mapLegal, State.inFeed] using map

/-! ### Directives -/

theorem filterPeer (h : s.legal) : s.filterPeer.legal := by
  have raised : State.legal { s.raise .line with
      chassis := { s.chassis with peerFiltered := s.chassis.peerRaw, peerHeld := 0 } } :=
    h.same (by apply SameFrame.of_fields <;> simp)
  unfold State.filterPeer
  dsimp only
  split
  · exact raised.loseLink
  · exact raised

theorem doSetup (h : s.legal) : s.doSetup.legal := by
  have replaced (c : Settings) (p : Path) : State.legal { s with settings := c, path := p } :=
    h.same (by apply SameFrame.of_fields <;> simp)
  unfold State.doSetup
  dsimp only
  split
  · exact (replaced _ _).filterPeer
  · exact replaced _ _

/-- A change of the region table outside a feed session. -/
theorem withRegions (h : s.legal) (hf : s.inFeed = false) (rs : Vector Region 16) : State.legal { s with regions := rs } := by
  obtain ⟨state, throttle, map, link⟩ := h
  have feed : State.inFeed { s with regions := rs } = false := hf
  refine ⟨state, throttle, ?_, link⟩
  rw [State.mapLegal, hf] at map
  rw [State.mapLegal, feed]
  exact map

theorem doRegion (h : s.legal) (idle : s.session.state = .idle) : s.doRegion.legal := by
  unfold State.doRegion
  split
  · exact h
  · exact h.withRegions (by simp [State.inFeed, idle]) _

theorem doFeed : s.doFeed.legal := by
  refine State.legal_of_feed ?_ ?_ ?_ ?_ ?_ ?_
  · simp [State.doFeed]
  · simp [State.doFeed, feedState]
  · simp [State.doFeed, Review.reset]
  · simp [State.doFeed]
  · refine ⟨?_, ?_⟩
    · simp [State.doFeed, SegMap.start, Function.comp_def]
    · simp [State.doFeed, SegMap.start]
  · simp [State.doFeed, Link.start, Link.enterTraining]

theorem doTake (h : s.legal) (idle : s.session.state = .idle) : s.doTake.legal := by
  have feed : s.inFeed = false := by simp [State.inFeed, idle]
  refine State.legal_of_take ?_ ?_ ?_ ?_ ?_
  · simp [State.doTake]
  · simp [State.doTake, takeState]
  · simpa [State.doTake] using h.throttle feed
  · simpa [State.doTake] using h.cells feed
  · simp [State.doTake, Link.start, Link.enterTraining]

theorem doDirective (h : s.legal) (k : DirKind) (allowed : s.dirAllowed k = true) : (s.doDirective k).legal := by
  cases k with
  | setup => exact h.doSetup
  | region => exact h.doRegion (by simpa [State.dirAllowed] using allowed)
  | feed => exact doFeed
  | take => exact h.doTake (by simpa [State.dirAllowed] using allowed)
  | handover => exact h.requestHandover
  | release => exact endFeed _
  | abort => exact h.endSession _
  | adopt =>
    have take : s.inTake = true := by
      simp only [State.dirAllowed, Bool.and_eq_true] at allowed
      exact allowed.1
    exact h.endTake (State.inFeed_of_inTake take) _
  | notices | acknowledge | refresh => exact h.same (by apply SameFrame.of_fields <;> simp [State.doDirective])

theorem handleTrigger (h : s.legal) (number code : Byte) : (s.handleTrigger number code).legal := by
  have recorded (d : Directive) : State.legal { s with directive := d } := h.same (by apply SameFrame.of_fields <;> simp)
  unfold State.handleTrigger
  dsimp only
  cases hk : kindOfCode code with
  | none => exact (recorded _).same (.raise _ _)
  | some k =>
    have obeyed (o : DirOutcome) (ho : s.judge code = o) :
        ((s.recordDirective number code o).obey k o).legal := by
      unfold State.obey
      split
      · next hd => exact (recorded _).doDirective k (State.dirAllowed_of_judge hk (ho.trans hd))
      · exact recorded _
    dsimp only
    split
    · exact (obeyed _ rfl).same (.requestReport _)
    · exact (obeyed _ rfl).same (.raise _ _)

theorem snoop (h : s.legal) (offset : Nat) (data : Word) (mask : Mask) : (s.snoop offset data mask).legal := by
  unfold State.snoop State.snoopTrigger
  split
  · split
    · exact h.handleTrigger _ _
    · exact h.same (by apply SameFrame.of_fields <;> simp [State.countStray])
  · exact h.same (by apply SameFrame.of_fields <;> simp [State.snoopShadow])

theorem snoopWrite (h : s.legal) (w : WriteReq) : (s.snoopWrite w).legal := by
  unfold State.snoopWrite
  split
  · exact h.snoop _ _ _
  · exact h

/-! ### Grants and responses -/

theorem grantUpstreamWrite (h : s.legal) (w : WriteReq) : (s.grantUpstreamWrite w).legal := by
  unfold State.grantUpstreamWrite
  dsimp only
  split
  · have seen := (((SameFrame.toMemory s (.write w.addr w.data w.mask)).trans (.supersede _ w)).trans (.patchWrite _ w)).trans (.mapWrite _ w)
    exact ((h.same seen).snoopWrite w).endReplay
  · exact h.same (.toMemory s _)

theorem grantUpstream (h : s.legal) : s.grantUpstream.legal := by
  have passed (p : Path) : State.legal { s with path := p } := h.same (by apply SameFrame.of_fields <;> simp)
  unfold State.grantUpstream State.grantUpstreamRead
  split
  · split
    · exact (passed _).same (.issueRead _ _ _)
    · exact h
  · split
    · exact (passed _).same (.issueRead _ _ _)
    · exact (passed _).grantUpstreamWrite _
    · exact h
    · exact h

theorem grantReplay (h : s.legal) : s.grantReplay.legal := by
  unfold State.grantReplay
  split
  · exact h
  · next e _ =>
    have dropped (u : State) : SameFrame u (u.dropEntry e.addr) := by apply SameFrame.of_fields <;> simp
    have written := (SameFrame.toMemory s (.write e.addr e.data e.mask)).trans (.ite (e.flushing = true) (.refl _) (.placeReplay _ e))
    exact (h.same (written.trans (dropped _))).endReplay

theorem grantPart (h : s.legal) (r : Requester) : (s.grantPart r).legal := by
  cases r with
  | report => exact h.same (.grantReportWord s)
  | replay => exact h.grantReplay
  | apply => exact h.same (.grantApply s)
  | fill => exact h.same (.grantFill s)
  | walk => exact h.same (.grantWalk s)

theorem grant (h : s.legal) : s.grant.legal := by
  have run (p : Path) : State.legal { s with path := p } := h.same (by apply SameFrame.of_fields <;> simp)
  unfold State.grant
  split
  · exact h
  · next win _ =>
    cases win with
    | upstream => exact (run _).grantUpstream
    | owed r => exact (run _).grantPart r
    | byLevel r => exact (run _).grantPart r

theorem beginFrame (h : s.legal) (ht : s.inTake = true) (f : SeqFrame) : (s.beginFrame f).legal := by
  cases f with
  | seg n ws => exact h.same (.beginSeg s _ _)
  | mir rs => exact h.same (.beginRecords _ _ s)
  | instep => exact (h.setState_take ht .synced rfl).same (.raise _ _)
  | stale => exact (h.setState_take ht .receiving rfl).same (.raise _ _)
  | handover => exact h.setState_take ht .final rfl

theorem beginApply (n : Nat) (h : s.legal) : (s.beginApply n).legal := by
  induction n generalizing s with
  | zero => exact h
  | succ n ih =>
    unfold State.beginApply
    split
    · exact h
    · split
      · exact h
      · next f _ _ =>
        split
        · next ha =>
          have take : s.inTake = true := by
            simp only [State.applying, Bool.and_eq_true] at ha
            exact ha.1
          have begun := h.beginFrame take f
          dsimp only
          split
          · exact begun
          · exact ih (begun.same (.completeHead _))
        · split
          · exact ih (h.same ((SameFrame.failInFinal s f).trans (.completeHead _)))
          · exact h

theorem endApply (h : s.legal) (a : ApplyWork) (ok : Bool) : (s.endApply a ok).legal := by
  have recorded := h.same ((SameFrame.applyOutcome s a ok).trans (.beginRecords a.limit a.rest _))
  unfold State.endApply
  dsimp only
  split
  · exact recorded
  · exact beginApply _ (recorded.same (.completeHead _))

theorem applyResponse (h : s.legal) (use : Nat) (status : Status) (data : Word) : (s.applyResponse use status data).legal := by
  unfold State.applyResponse
  split
  · exact h
  · split
    · split
      · exact h.same (by apply SameFrame.of_fields <;> simp)
      · exact h.endApply _ _
      · exact h.endApply _ _
    · exact h

theorem fillFrom (h : s.legal) (ht : s.inTake = true) (place : Nat) : (s.fillFrom place).legal := by
  have finished : SameFrame s (({ s with
      take := { s.take with fill := none }
      link := { s.link with readyDue := s.link.readyDue + 1 } } : State).startNumberingTake) := by
    apply SameFrame.of_fields <;> simp
  unfold State.fillFrom
  split
  · exact (h.same finished).setState_take (finished.inTake ▸ ht) .receiving rfl
  · exact h.same (by apply SameFrame.of_fields <;> simp)

theorem endFill (h : s.legal) (ht : s.inTake = true) (f : FillWork) (ok : Bool) : (s.endFill f ok).legal := by
  have recorded : SameFrame s (if ok then s.verified f.segment else s.verifyFailed f.segment .fill) :=
    .ite _ (.verified s _) (.verifyFailed s _ _)
  exact (h.same recorded).fillFrom (recorded.inTake ▸ ht) _

theorem fillResponse (h : s.legal) (use : Nat) (status : Status) (data : Word) : (s.fillResponse use status data).legal := by
  unfold State.fillResponse
  split
  · exact h
  · split
    · next hf =>
      have take : s.inTake = true := by
        simp only [State.filling, Bool.and_eq_true] at hf
        exact hf.1.1
      split
      · exact h.same (by apply SameFrame.of_fields <;> simp)
      · exact h.endFill take _ _
      · exact h.endFill take _ _
    · exact h

theorem readAnswer (h : s.legal) (status : Status) (data : Word) : (s.readAnswer status data).legal := by
  unfold State.readAnswer
  split
  · exact h
  · next e rest _ =>
    have popped : State.legal { s with path := { s.path with returns := rest } } :=
      h.same (by apply SameFrame.of_fields <;> simp)
    dsimp only
    split
    · exact popped.same (.upstreamResponse _ _ _)
    · exact popped.same (.stagingResponse _ _ _ _ _ _)
    · exact popped.applyResponse _ _ _
    · exact popped.fillResponse _ _ _

/-! ### The feed's own steps -/

theorem actOnReview (h : s.legal) (hf : s.inFeed = true) (dec : Decision) : (s.actOnReview dec).legal := by
  cases dec with
  | none => exact h
  | steady => exact h.enterSteadyOrHandover hf (by apply SameFrame.of_fields <;> simp)
  | fit | forcedHandover | forcedLimit => exact h.enterFreeze hf
  | abandon => exact endFeed _
  | nextPass => exact (h.setState_feed hf .catchup rfl (by simp)).startPass _

theorem endPass (h : s.legal) : s.endPass.legal := by
  refine h.guarded _ fun atEnd => ?_
  have pass : s.walkMode = .pass := by
    simp only [State.passAtEnd, Bool.and_eq_true, beq_iff_eq] at atEnd
    exact atEnd.1.1.1.1.1
  have feed : s.inFeed = true := by
    by_contra hn
    simp [State.walkMode, hn] at pass
  have moving : s.session.state ≠ .steady ∧ s.session.state ≠ .handover := by
    constructor <;> intro st <;> simp [State.walkMode, feed, st] at pass
  have noted (d : Option Nat) (r : ReviewRecord) : SameFrame s { s with review := { s.review with dPrev := d, record := r } } := by
    apply SameFrame.of_fields <;> simp
  unfold State.runReview
  dsimp only
  split
  · next raises =>
    have below : s.review.throttle < 3 := by
      simp only [State.raisesThrottle, Bool.and_eq_true, decide_eq_true_eq] at raises
      exact raises.2.2
    have thrown := (h.same (noted (some s.reviewRecord.d) s.reviewRecord)).setThrottle (n := s.review.throttle + 1)
      ((noted _ _).inFeed ▸ feed) moving (by omega)
    exact (thrown.actOnReview (by simpa [State.inFeed] using feed) _).same (.raise _ _)
  · exact ((h.same (noted _ _)).actOnReview ((noted _ _).inFeed ▸ feed) _).same (.raise _ _)

theorem enterReplay (h : s.legal) (hf : s.inFeed = true) : s.enterReplay.legal := by
  have stopped : SameFrame s { s with freeze := { s.freeze with timer := none } } := by apply SameFrame.of_fields <;> simp
  exact ((h.same stopped).setState_feed (stopped.inFeed ▸ hf) .replay rfl (by simp)).endReplay

theorem abandonFreeze (h : s.legal) (hf : s.inFeed = true) (freeze : s.session.state = .freeze) : s.abandonFreeze.legal := by
  have stopped : SameFrame s { s with freeze := { s.freeze with timer := none } } := by apply SameFrame.of_fields <;> simp
  have flushed := stopped.trans (.flushContinuing _)
  have raised (u : State) (hu : SameFrame s u) : u.raiseAtAbandon.legal ∧ u.raiseAtAbandon.inFeed = true := by
    have feed : u.inFeed = true := hu.inFeed ▸ hf
    unfold State.raiseAtAbandon
    split
    · next hr =>
      have below : u.review.throttle < 3 := by
        simp only [Bool.and_eq_true, decide_eq_true_eq] at hr
        exact hr.2
      exact ⟨(h.same hu).setThrottle feed (by simp [hu.state, freeze]) (by omega), by simpa [State.inFeed] using feed⟩
    · exact ⟨h.same hu, feed⟩
  obtain ⟨legal, feed⟩ := raised _ flushed
  exact ((legal.setState_feed feed .catchup rfl (by simp)).startPass _).same (.recordFault _ _)

theorem freezeExpired (h : s.legal) : s.freezeExpired.legal := by
  unfold State.freezeExpired
  split
  · next hc =>
    simp only [Bool.and_eq_true, beq_iff_eq] at hc
    split
    · exact h
    · next k _ =>
      have later := SameFrame.advance s (s.settings.freezeTicks - k)
      exact (h.same later).abandonFreeze (later.inFeed ▸ hc.1) (later.state.trans hc.2)
  · exact h

theorem takeInstep (h : s.legal) : s.takeInstep.legal :=
  h.guarded _ fun _ => h.same (by apply SameFrame.of_fields <;> simp)

theorem takeStale (h : s.legal) : s.takeStale.legal :=
  h.guarded _ fun _ => h.same (by apply SameFrame.of_fields <;> simp)

theorem handoverExpired (h : s.legal) : s.handoverExpired.legal := by
  unfold State.handoverExpired
  split
  · split
    · exact h
    · exact endFeed _
  · exact h

end State.legal

end Sys2Proof.Machine
end

section
/-! SUPPORT. The commands of time, of arriving frames and of the chassis lines keep the promises on session, throttle, map and link, and with
them every command and every step does (R25, R64, R122, R144). -/

namespace Sys2Proof.Machine

open Sys2Proof

variable {s : State}

namespace State.legal

/-! ### Timers -/

theorem spacingPassed (h : s.legal) : s.spacingPassed.legal := by
  have reexamined (u : State) : SameFrame u u.reexamine := by apply SameFrame.of_fields <;> simp
  unfold State.spacingPassed
  split
  · split
    · exact h
    · exact h.same ((SameFrame.advance s _).trans (reexamined _))
  · exact h

/-- The clock carried forward to an interval's end, and the link then told. -/
theorem tick (h : s.legal) (c : Prop) [Decidable c] (n : Nat) (l : Link → Link) (hl : ∀ k, (l k).state = k.state) :
    (if c then { s.advance n with link := l (s.advance n).link } else s).legal :=
  h.guarded c fun _ => h.same (.endTick s n l hl)

theorem trainTick (h : s.legal) : s.trainTick.legal :=
  h.guarded _ fun _ => h.same (.endTick s _
    (fun k => { k with trainTimer := 0, trainDue := (s.advance (Config.ticks10us - s.link.trainTimer)).chassis.peerFiltered })
    fun _ => rfl)

theorem greetTick (h : s.legal) : s.greetTick.legal :=
  h.tick _ _ (fun k => { k with greetTimer := 0, greetDue := true }) fun _ => rfl

theorem layoutTick (h : s.legal) : s.layoutTick.legal :=
  h.tick _ _ (fun k => { k with layoutTimer := 0, layoutDue := true }) fun _ => rfl

theorem rewindTick (h : s.legal) : s.rewindTick.legal :=
  h.tick _ _ (fun k => { k with rewindTimer := 0, rewindDue := true }) fun _ => rfl

theorem keepAlive (h : s.legal) (c : Prop) [Decidable c] : (if c then s.keepAlive else s).legal :=
  h.tick c _ (fun k => { k with keepAliveDue := true }) fun _ => rfl

theorem silenceExpired (h : s.legal) : s.silenceExpired.legal :=
  h.guarded _ fun _ => (h.same (.advance s _)).loseLink

theorem bringupExpired (h : s.legal) : s.bringupExpired.legal := by
  unfold State.bringupExpired
  split
  · exact h
  · exact (h.same ((SameFrame.advance s _).trans (.recordFault _ _))).endSession _

theorem feedHoldExpired (h : s.legal) : s.feedHoldExpired.legal := by
  unfold State.feedHoldExpired
  split
  · split
    · exact h
    · exact endFeed _
  · exact h

theorem takeHoldExpired (h : s.legal) : s.takeHoldExpired.legal := by
  unfold State.takeHoldExpired
  split
  · next hc =>
    simp only [Bool.and_eq_true] at hc
    split
    · exact h
    · next k _ =>
      have later := (SameFrame.advance s (s.settings.holdTicks - k)).trans (.recordFault _ .linkLost)
      exact (h.same later).enterDetached (later.inTake ▸ hc.1)
  · exact h

/-! ### Arriving frames -/

theorem feedReceives (h : s.legal) (f : State → State) (hf : s.link.state ≠ .off → s.inFeed = true → (f s).legal) :
    (s.feedReceives f).legal := by
  unfold State.feedReceives
  split
  · exact h
  · next on =>
    split
    · exact h.same (.discardFrame s)
    · exact h.guarded _ fun feed => hf on feed

theorem takeReceives (h : s.legal) (f : State → State) (hf : s.link.state ≠ .off → s.inTake = true → (f s).legal) :
    (s.takeReceives f).legal := by
  unfold State.takeReceives
  split
  · exact h
  · next on =>
    split
    · exact h.same (.discardFrame s)
    · exact h.guarded _ fun take => hf on take

/-- A frame handled on an UP link, in the role it found. -/
theorem handled (h : s.legal) (f : State → State)
    (hf : ∀ u : State, u.legal → u.inFeed = s.inFeed → u.inTake = s.inTake → (f u).legal) : (s.handled f).legal :=
  h.guarded _ fun _ => hf _ (h.same (.heard s)) (SameFrame.heard s).inFeed (SameFrame.heard s).inTake

theorem trainOn (h : s.legal) (active : s.session.state ≠ .idle) (lane : BitVec 2) (on : s.link.state ≠ .off) :
    (s.trainOn lane).legal := by
  unfold State.trainOn
  dsimp only
  split
  · exact h.link (by constructor <;> simp [State.linkUp]) active (by simp [State.linkUp])
  · exact h.link (by constructor <;> simp) active on

/-- A link loss leaves a session active and its link in TRAINING or UP. -/
theorem loseLink_active (active : s.session.state ≠ .idle) (on : s.link.state ≠ .off) :
    s.loseLink.session.state ≠ .idle ∧ s.loseLink.link.state ≠ .off := by
  unfold State.loseLink
  split
  · split
    · rw [State.loseLinkFeed_eq, State.suspendByState]
      have state : s.lostLink.session.state = s.session.state := (SameFrame.loseFrames s).state
      have link : s.lostLink.link.state = .training := rfl
      split <;> simp [State.suspend, state, active, link]
    · split
      · unfold State.loseLinkTake
        dsimp only
        (repeat' split) <;>
          simp [State.enterHeld, active, State.retrain, Link.enterTraining]
      · exact ⟨active, on⟩
  · exact ⟨active, on⟩

theorem oppositeTrain (h : s.legal) (active : s.session.state ≠ .idle) (lane : BitVec 2) : (s.oppositeTrain lane).legal := by
  unfold State.oppositeTrain
  split
  · exact h
  · next training => exact h.trainOn active lane (by simp [training])
  · next up =>
    split
    · have lost := loseLink_active active (by simp [up])
      exact h.loseLink.trainOn lost.1 lane lost.2
    · exact h.same (by apply SameFrame.of_fields <;> simp)

theorem trainArrives (h : s.legal) (lane : BitVec 2) (role : LinkRole) (slot : BitVec 1) :
    (s.trainArrives lane role slot).legal := by
  unfold State.trainArrives
  split
  · exact h
  · split
    · exact h.same (.discardFrame s)
    · split
      · exact h
      · next session =>
        split
        · exact (h.same (.recordFault s _)).endSession _
        · refine h.oppositeTrain (fun idle => session ?_) lane
          simp [State.inFeed, State.inTake, idle]

theorem giveVerdict (h : s.legal) (ht : s.inTake = true) (v : Verdict) (session : BitVec 16) (size : BitVec 2) :
    (s.giveVerdict v session size).legal := by
  cases v with
  | new =>
    have named : SameFrame s { s with
        take := { s.take with awaitingLayout := true }
        session := { s.session with id := session, sizeClass := size, hold := none } } := by
      apply SameFrame.of_fields <;> simp
    exact (h.same named).setState_take (named.inTake ▸ ht) .bringup rfl
  | resumed =>
    have numbered : SameFrame s ({ s with session := { s.session with hold := none } } : State).startNumberingTake := by
      apply SameFrame.of_fields <;> simp
    exact (h.same numbered).setState_take (numbered.inTake ▸ ht) .receiving rfl
  | refused => exact h

theorem answerGreet (h : s.legal) (ht : s.inTake = true) (kind : GreetKind) (session : BitVec 16) (size : BitVec 2) :
    (s.answerGreet kind session size).legal := by
  have owed (e : Echo) (u : State) : SameFrame u (u.owesEcho e) := by apply SameFrame.of_fields <;> simp [State.owesEcho]
  have recorded (g : Greeted) (u : State) : SameFrame u { u with
      link := { u.link with bringup := none }
      session := { u.session with greeted := some g } } := by
    apply SameFrame.of_fields <;> simp
  unfold State.answerGreet
  split
  · exact h.same (owed _ s)
  · exact (h.giveVerdict ht _ _ _).same ((owed _ _).trans (recorded _ _))

theorem greetArrives (h : s.legal) (ht : s.inTake = true) (kind : GreetKind) (session : BitVec 16) (size : BitVec 2)
    (slot : BitVec 1) : (s.greetArrives kind session size slot).legal := by
  unfold State.greetArrives
  split
  · exact h.same (.discardFrame s)
  · exact h.handled _ fun u hu _ take => hu.answerGreet (take.trans ht) _ _ _

theorem firstEcho (h : s.legal) (hf : s.inFeed = true) (v : Verdict) : (s.firstEcho v).legal := by
  have stopped : SameFrame s s.stopGreeting := by apply SameFrame.of_fields <;> simp [State.stopGreeting]
  have new : s.echoNew.legal := by
    have due : SameFrame s { s.stopGreeting with link := { s.stopGreeting.link with layoutDue := true, layoutTimer := 0 } } :=
      { stopped with }
    exact (h.same due).setState_feed (due.inFeed ▸ hf) .install rfl (by simp)
  have resumed : s.echoResumed.legal := by
    have numbered (u : State) : SameFrame u u.startNumberingFeed := by apply SameFrame.of_fields <;> simp
    have marked (u : State) : SameFrame u { u with review := { u.review with dPrev := none } } := by
      apply SameFrame.of_fields <;> simp
    have all := ((stopped.trans (numbered _)).trans (.unsentToDirty _)).trans (marked _)
    exact ((h.same all).setState_feed (all.inFeed ▸ hf) .catchup rfl (by simp)).startPass _
  unfold State.firstEcho
  split
  · exact new
  · exact h.guarded _ fun _ => new
  · exact h.guarded _ fun _ => resumed
  · exact endFeed _
  · exact endFeed _
  · exact h

theorem echoArrives (h : s.legal) (hf : s.inFeed = true) (session : BitVec 16) (v : Verdict) :
    (s.echoArrives session v).legal := by
  unfold State.echoArrives
  split
  · exact h.same (.discardFrame s)
  · exact h.handled _ fun u hu feed _ => hu.guarded _ fun _ => hu.firstEcho (feed.trans hf) v

theorem installLayout (h : s.legal) (ht : s.inTake = true) (es : Vector LayoutEntry 16) : (s.installLayout es).legal := by
  have feed := State.inFeed_of_inTake ht
  have installed : SameFrame { s with regions := layoutTable es } { s with
      regions := layoutTable es
      take := { s.take with awaitingLayout := false }
      session := { s.session with layoutInstalled := true } } := by
    apply SameFrame.of_fields <;> simp
  have install := ((h.withRegions feed (layoutTable es)).same installed).setState_take (by simpa [State.inTake] using ht) .install rfl
  refine install.fillFrom ?_ 0
  simpa [State.inTake] using (State.inTake_iff.1 ht).1

theorem layoutArrives (h : s.legal) (ht : s.inTake = true) (es : Vector LayoutEntry 16) : (s.layoutArrives es).legal := by
  have heard := h.same (.heard s)
  have take : s.heard.inTake = true := (SameFrame.heard s).inTake ▸ ht
  have discarded := h.same (.discardFrame s)
  have awaited : (s.awaitedLayout es).legal := by
    unfold State.awaitedLayout
    split
    · exact discarded
    · split
      · exact (heard.same (.recordFault _ _)).endTake (State.inFeed_of_inTake take) _
      · exact heard.installLayout take es
  have owed (u : State) : SameFrame u { u with link := { u.link with readyDue := u.link.readyDue + 1 } } := by
    apply SameFrame.of_fields <;> simp
  unfold State.layoutArrives
  split
  · exact discarded
  · split
    · exact awaited
    · split
      · exact heard
      · split
        · exact heard.same (owed _)
        · exact discarded

theorem readyAtFeed (h : s.legal) (hf : s.inFeed = true) : s.readyAtFeed.legal := by
  refine h.guarded _ fun _ => ?_
  have numbered : SameFrame s s.startNumberingFeed := by apply SameFrame.of_fields <;> simp
  exact ((h.same numbered).setState_feed (numbered.inFeed ▸ hf) .sweep rfl (by simp)).startPass _

theorem seqArrives (h : s.legal) (q : Seq) (f : SeqFrame) : (s.seqArrives q f).legal := by
  unfold State.seqArrives
  split
  · exact beginApply _ ((h.same (.heard s)).same (by apply SameFrame.of_fields <;> simp))
  · exact h.same (.discardFrame s)

theorem ackAtFeed (h : s.legal) (k : Option Seq) (freed : BitVec 8) (fails : BitVec 16) (st : SessState) :
    (s.ackAtFeed k freed fails st).legal := by
  have taken (n : Nat) : (s.takeAck n freed fails st).legal := by
    have kept := h.same ((SameFrame.retire s n).trans (.keepFigures _ freed fails st))
    unfold State.takeAck
    dsimp only
    split
    · exact endFeed _
    · exact kept.guarded _ fun _ => kept.loseLink
  refine h.guarded _ fun _ => ?_
  split
  · exact h.loseLink
  · exact taken 0
  · exact taken _

theorem rewindAtFeed (h : s.legal) (e : Seq) : (s.rewindAtFeed e).legal := by
  refine h.guarded _ fun _ => ?_
  dsimp only
  split
  · exact h.same (.withdrawFrom s _ _)
  · split
    · exact h.same (by apply SameFrame.of_fields <;> simp [State.pendRewound])
    · exact endFeed _

theorem rewoundAtTake (h : s.legal) (e : Seq) : (s.rewoundAtTake e).legal := by
  refine h.guarded _ fun _ => ?_
  split
  · exact h.guarded _ fun _ => h.same (by apply SameFrame.of_fields <;> simp)
  · exact h.loseLink

theorem closeAtTake (h : s.legal) (ht : s.inTake = true) (r : CloseReason) : (s.closeAtTake r).legal := by
  unfold State.closeAtTake
  dsimp only
  split
  · exact h.retrain (State.inTake_iff.1 ht).2
  · have recorded := SameFrame.ite (r = .incomplete ∨ r = .aborted ∨ r = .faulted)
      (.recordFault s.enterDetached .closedByPeer) (.refl s.enterDetached)
    refine ((h.enterDetached ht).same recorded).retrain ?_
    rw [recorded.state]
    simp [State.enterDetached]

theorem closeArrives (h : s.legal) (r : CloseReason) : (s.closeArrives r).legal := by
  unfold State.closeArrives
  split
  · exact h
  · split
    · split
      · exact h.handled _ fun u _ _ _ => endFeed _
      · exact h.same (.discardFrame s)
    · refine h.guarded _ fun take => ?_
      split
      · exact h.handled _ fun u hu _ ht => hu.closeAtTake (ht.trans take) r
      · exact h.same (.discardFrame s)

/-! ### Chassis lines -/

theorem ejectRise (h : s.legal) : s.ejectRise.legal := by
  have level (b : Bool) : SameFrame s (s.setEject b) := by
    unfold State.setEject
    dsimp only
    split <;> apply SameFrame.of_fields <;> simp
  refine h.guarded _ fun _ => ?_
  have set := h.same (level true)
  refine set.guarded _ fun _ => ?_
  unfold State.ejected
  split
  · next ht => exact set.endTake (State.inFeed_of_inTake ht) _
  · exact set.requestHandover

theorem ejectFall (h : s.legal) : (s.setEject false).legal := by
  refine h.same ?_
  unfold State.setEject
  dsimp only
  split <;> apply SameFrame.of_fields <;> simp

theorem takeEnDrop (h : s.legal) : s.takeEnDrop.legal := by
  refine h.guarded _ fun _ => ?_
  have low : State.legal (s.setTakeEn false) := h.same (by apply SameFrame.of_fields <;> simp [State.setTakeEn])
  have line := low.same (.raise _ .line)
  dsimp only
  split
  · refine line.guarded _ fun ht => ?_
    have feed := State.inFeed_of_inTake ht
    have latched : SameFrame ((s.setTakeEn false).raise .line) (({ (s.setTakeEn false).raise .line with
        session := { ((s.setTakeEn false).raise .line).session with lockout := true } } : State).recordFault .lockoutTrip) := by
      apply SameFrame.of_fields <;> simp
    exact (line.same latched).endTake (latched.inFeed ▸ feed) _
  · exact low.same (by apply SameFrame.of_fields <;> simp)

theorem takeEnLift (h : s.legal) : s.takeEnLift.legal := by
  refine h.guarded _ fun _ => ?_
  dsimp only
  split <;> exact h.same (by apply SameFrame.of_fields <;> simp [State.setTakeEn])

theorem changePeer (h : s.legal) (level : Bool) : (s.changePeer level).legal :=
  h.guarded _ fun _ => h.same (by apply SameFrame.of_fields <;> simp)

theorem peerHeldOut (h : s.legal) : s.peerHeldOut.legal := h.guarded _ fun _ => (h.same (.advance s _)).filterPeer

end State.legal

/-- Every command keeps the promises on session, throttle, map and link. -/
theorem State.legal.exec (h : s.legal) (c : Instr) {t : State} (ht : exec c s = .next t) : t.legal := by
  have trigger (n : Byte) (code : Byte) : (s.liveEvent (State.trigger n code)).legal := h.liveEvent _ fun _ hu => hu.snoop _ _ _
  cases c <;> cases ht
  case coldReset resetN pins => exact h.event _ fun _ _ => coldStart resetN pins
  case warmReset => exact h.liveEvent _ fun _ _ => warmStart
  case resetNRise pins =>
    refine h.event _ fun _ hu => hu.guarded _ fun hc => hu.riseStart ?_ pins
    simp only [Bool.and_eq_true] at hc
    exact hc.1
  case lookupRead a => exact h.event _ fun u hu => hu.guarded _ fun _ => hu.same (.examineRead u _ _)
  case maintenanceRead a => exact h.event _ fun u hu => hu.guarded _ fun _ => hu.same (.examineRead u _ _)
  case maintenanceWrite a data mask => exact h.event _ fun u hu => hu.guarded _ fun _ => hu.same (.examineWrite u _)
  case throttleSpacingPassed => exact h.liveEvent _ fun _ hu => hu.spacingPassed
  case arbiterGrant => exact h.event _ fun _ hu => hu.guarded _ fun _ => hu.grant
  case shadowWrite i data mask =>
    refine h.liveEvent _ fun u hu => ?_
    split
    · exact hu
    · exact hu.snoop _ _ _
  case strayTrigger data mask =>
    refine h.liveEvent _ fun u hu => ?_
    split
    · exact hu
    · exact hu.snoop _ _ _
  case unknownKind n code => exact h.liveEvent _ fun _ hu => hu.guarded _ fun _ => hu.snoop _ _ _
  case setup n => exact trigger _ _
  case region n => exact trigger _ _
  case feed n => exact trigger _ _
  case take n => exact trigger _ _
  case handover n => exact trigger _ _
  case release n => exact trigger _ _
  case abort n => exact trigger _ _
  case adopt n => exact trigger _ _
  case notices n => exact trigger _ _
  case acknowledge n => exact trigger _ _
  case refresh n => exact trigger _ _
  case readResponse st data => exact h.event _ fun _ hu => hu.guarded _ fun _ => hu.readAnswer st data
  case segFrameQueued => exact h.liveEvent _ fun u hu => hu.same (.queueSeg u)
  case walkerStep => exact h.liveEvent _ fun u hu => hu.same (.walkStep u)
  case passEnd => exact h.liveEvent _ fun _ hu => hu.endPass
  case drainComplete =>
    refine h.liveEvent _ fun _ hu => hu.guarded _ fun hd => hu.enterReplay ?_
    simp only [State.freezeDrained, Bool.and_eq_true] at hd
    exact hd.1.1
  case freezeAbandon => exact h.liveEvent _ fun _ hu => hu.freezeExpired
  case instepQueued => exact h.liveEvent _ fun _ hu => hu.takeInstep
  case staleQueued => exact h.liveEvent _ fun _ hu => hu.takeStale
  case handoverDrainComplete =>
    exact h.liveEvent _ fun _ hu => hu.guarded _ fun _ => hu.same (by apply SameFrame.of_fields <;> simp)
  case handoverOverrun => exact h.liveEvent _ fun _ hu => hu.handoverExpired
  case transmitFrame =>
    refine h.liveEvent _ fun u hu => ?_
    exact hu.same (.ite _ (.transmitFeed u) (.ite _ (.transmitTake u) (.refl u)))
  case trainDue => exact h.liveEvent _ fun _ hu => hu.trainTick
  case greetRepeatDue => exact h.liveEvent _ fun _ hu => hu.greetTick
  case layoutRepeatDue => exact h.liveEvent _ fun _ hu => hu.layoutTick
  case rewindRepeatDue => exact h.liveEvent _ fun _ hu => hu.rewindTick
  case pulseDue => exact h.liveEvent _ fun _ hu => hu.keepAlive _
  case keepaliveAckDue => exact h.liveEvent _ fun _ hu => hu.keepAlive _
  case silenceTimeout => exact h.liveEvent _ fun _ hu => hu.silenceExpired
  case bringupTimeout => exact h.liveEvent _ fun _ hu => hu.bringupExpired
  case feedHoldTimeout => exact h.liveEvent _ fun _ hu => hu.feedHoldExpired
  case takeHoldTimeout => exact h.liveEvent _ fun _ hu => hu.takeHoldExpired
  case frameDiscarded bytes => exact h.liveEvent _ fun u hu => hu.guarded _ fun _ => hu.same (.discardFrame u)
  case trainReceived lane role slot => exact h.liveEvent _ fun _ hu => hu.trainArrives lane role slot
  case greetReceived kind session size slot =>
    exact h.liveEvent _ fun _ hu => hu.takeReceives _ fun _ take => hu.greetArrives take _ _ _ _
  case greetEchoReceived session v r => exact h.liveEvent _ fun _ hu => hu.feedReceives _ fun _ feed => hu.echoArrives feed _ _
  case layoutReceived es => exact h.liveEvent _ fun _ hu => hu.takeReceives _ fun _ take => hu.layoutArrives take es
  case readyReceived =>
    exact h.liveEvent _ fun _ hu => hu.feedReceives _ fun _ feed => hu.handled _ fun _ hv same _ => hv.readyAtFeed (same.trans feed)
  case sequencedFrameReceived q f => exact h.liveEvent _ fun _ hu => hu.takeReceives _ fun _ _ => hu.seqArrives q f
  case ackReceived k freed fails st =>
    exact h.liveEvent _ fun _ hu => hu.feedReceives _ fun _ _ => hu.handled _ fun _ hv _ _ => hv.ackAtFeed _ _ _ _
  case rewindReceived e =>
    exact h.liveEvent _ fun _ hu => hu.feedReceives _ fun _ _ => hu.handled _ fun _ hv _ _ => hv.rewindAtFeed e
  case rewoundReceived e =>
    exact h.liveEvent _ fun _ hu => hu.takeReceives _ fun _ _ => hu.handled _ fun _ hv _ _ => hv.rewoundAtTake e
  case pulseReceived => exact h.liveEvent _ fun _ hu => hu.takeReceives _ fun _ _ => hu.handled _ fun _ hv _ _ => hv
  case closeReceived r => exact h.liveEvent _ fun _ hu => hu.closeArrives r
  case peerPresentChange level => exact h.event _ fun _ hu => hu.changePeer level
  case peerPresentFiltered => exact h.liveEvent _ fun _ hu => hu.peerHeldOut
  case ejectEvent => exact h.event _ fun _ hu => hu.ejectRise
  case ejectFall => exact h.event _ fun _ hu => hu.guarded _ fun _ => hu.ejectFall
  case takeEnFall => exact h.event _ fun _ hu => hu.takeEnDrop
  case takeEnRise => exact h.event _ fun _ hu => hu.takeEnLift
  case pwrGoodFall => exact h.event _ fun _ hu => hu.guarded _ fun _ => hu.powerDown

/-- Settles O58: the front command keeps the promises, and so does a pace tick. -/
theorem everyStepKeepsTheSessionLegal : Obligations.EveryStepKeepsTheSessionLegal := by
  intro s t state throttle map link ht
  have legal : s.legal := ⟨state, throttle, map, link⟩
  unfold step at ht
  split at ht
  · cases ht
    exact legal.same ((SameFrame.fresh s).trans (.advance _ 1))
  · next c rest _ =>
    have shorter : SameFrame s { s with pending := rest } := by apply SameFrame.of_fields <;> simp
    exact (legal.same shorter).exec c ht

end Sys2Proof.Machine
end

section
/-! The segment map: its counts (R21, R25), and what a granted write makes of it (R29 to R33, R77). -/

namespace Sys2Proof.Machine

open Sys2Proof

variable (s : State)

/-! ### Counts -/

/-- Sorting by sweep order loses and repeats no entry (R41). -/
theorem bySweepOrder_perm (rs : Vector Region 16) : (bySweepOrder rs).Perm rs.toList := by
  have below (a : Region) (n : Nat) : ((List.range n).map fun o => (rs.toList.filter fun r => r.order.toNat = o).count a).sum
      = if a.order.toNat < n then rs.toList.count a else 0 := by
    induction n with
    | zero => simp
    | succ n ih =>
      have here : (rs.toList.filter fun r => r.order.toNat = n).count a = if a.order.toNat = n then rs.toList.count a else 0 := by
        split
        · next h => exact List.count_filter (by simpa using h)
        · next h => exact List.count_eq_zero.2 (by simp [h])
      rw [List.range_succ, List.map_append, List.sum_append, ih, List.map_singleton, List.sum_singleton, here]
      split <;> split <;> split <;> omega
  refine List.perm_iff_count.2 fun a => ?_
  have small := a.order.isLt
  rw [bySweepOrder, List.count_flatMap]
  exact (below a 16).trans (if_pos small)

/-- The walk order holds each tracked segment's place (R21, R41). -/
theorem length_walkOrder (rs : Vector Region 16) : (walkOrder rs).length = trackedTotal rs := by
  have segments : (fun r : Region => r.segments.length) = fun r => r.length.toNat := by
    funext r; simp [Region.segments]
  rw [walkOrder, List.length_flatMap, segments, trackedTotal]
  exact (((bySweepOrder_perm rs).filter _).map _).sum_eq

/-- A list of states with no NONE among them is counted by the six counts (R25). -/
theorem sum_counts (cells : List (Segment × SegState)) (h : ∀ e ∈ cells, e.2 ≠ .notTracked) (m : SegMap) (hm : m.cells = cells) :
    m.count .unsent + m.count .opened + m.count .inflight + m.count .clean + m.count .dirty + m.count .srcFault = cells.length := by
  unfold SegMap.count
  rw [hm]
  clear hm
  induction cells with
  | nil => rfl
  | cons e cells ih =>
    obtain ⟨he, hcells⟩ := List.forall_mem_cons.1 h
    have rest := ih hcells
    simp only [List.countP_cons, List.length_cons]
    cases hst : e.2 <;> simp_all <;> omega

/-- Settles O22: the listed segments are the tracked ones, and each is in one of the six states. -/
theorem countsSumToTrackedSegments : Obligations.CountsSumToTrackedSegments := by
  intro s map
  refine ⟨fun feed => ?_, fun feed => ?_⟩
  · rw [State.mapLegal, if_pos feed] at map
    rw [sum_counts s.map.cells map.2 s.map rfl, ← length_walkOrder, ← map.1, List.length_map]
  · rw [State.mapLegal, feed] at map
    have none : s.map.cells = [] := map
    simp [SegMap.count, none]

/-! ### A granted write at the map -/

/-- The step 1 of R77: the record joins the last frame. -/
theorem placeRecord_append (q : List SeqFrame) (rs : List MirrorRecord) (r : MirrorRecord) (h : rs.length < 8) :
    placeRecord (q ++ [.mir rs]) r = some (q ++ [.mir (rs ++ [r])]) := by
  simp [placeRecord, appendRecord, Config.mirRecords, h]

/-- The last frame takes no record: it is no MIR frame with fewer than 8, or the queue is empty. -/
theorem getLast?_bind_appendRecord (q : List SeqFrame) (r : MirrorRecord)
    (h : ∀ p rs, q = p ++ [.mir rs] → 8 ≤ rs.length) : (q.getLast?.bind fun f => appendRecord f r) = none := by
  cases hq : q.getLast? with
  | none => rfl
  | some f =>
    obtain ⟨p, rfl⟩ := List.getLast?_eq_some_iff.1 hq
    cases f with
    | mir rs =>
      have := h p rs rfl
      exact if_neg (Nat.not_lt.2 this)
    | _ => rfl

/-- The steps 2 and 3 of R77: a new MIR frame, or no place. -/
theorem placeRecord_new (q : List SeqFrame) (r : MirrorRecord) (h : ∀ p rs, q = p ++ [.mir rs] → 8 ≤ rs.length) :
    placeRecord q r = if q.length < 16 then some (q ++ [.mir [r]]) else none := by
  rw [placeRecord, getLast?_bind_appendRecord q r h]
  rfl

/-- A record is refused only by a full queue. -/
theorem hasPlace_of_placeRecord (f : Feed) (r : MirrorRecord) (h : placeRecord f.queue r = none) : f.hasPlace = false := by
  unfold placeRecord at h
  split at h
  · cases h
  · simpa [Feed.hasPlace] using h

/-- The map's view of a write in a feed session, by class (R29). -/
theorem State.mapWrite_mirror (w : WriteReq) (hf : s.inFeed = true) (hc : s.classOf w.addr = .mirror) :
    s.mapWrite w = s.mapMirror w := by simp [State.mapWrite, hf, hc]

theorem State.mapWrite_snapshot (w : WriteReq) (hf : s.inFeed = true) (hc : s.classOf w.addr = .snapshot) :
    s.mapWrite w = s.mapSnapshot w := by simp [State.mapWrite, hf, hc]

/-- What a write makes of map and queue looks at session, straps, table, map and feed alone. -/
theorem State.mapWrite_congr {s v : State} (w : WriteReq) (session : v.session = s.session) (chassis : v.chassis = s.chassis)
    (regions : v.regions = s.regions) (map : v.map = s.map) (feed : v.feed = s.feed) :
    (v.mapWrite w).map = (s.mapWrite w).map ∧ (v.mapWrite w).feed = (s.mapWrite w).feed := by
  have role : v.inFeed = s.inFeed := by simp [State.inFeed, session]
  have cls : v.classOf w.addr = s.classOf w.addr := by simp [State.classOf, chassis, regions]
  have offer : (v.offerMirror w).map = (s.offerMirror w).map ∧ (v.offerMirror w).feed = (s.offerMirror w).feed := by
    unfold State.offerMirror
    rw [feed]
    cases placeRecord s.feed.queue { addr := w.addr, data := w.data, mask := w.mask } <;>
      simp [State.changeSeg, map, feed]
  unfold State.mapWrite
  rw [role, cls]
  cases s.inFeed
  · exact ⟨map, feed⟩
  · cases s.classOf w.addr with
    | mirror =>
      dsimp only [if_true]
      unfold State.mapMirror
      rw [map, session]
      cases s.map.get (segmentOf w.addr)
      case clean => by_cases hs : s.session.state = .suspended <;> simp [hs, State.changeSeg, map, feed, offer]
      case inflight => exact offer
      all_goals exact ⟨map, feed⟩
    | snapshot =>
      dsimp only [if_true]
      unfold State.mapSnapshot
      rw [map]
      cases s.map.get (segmentOf w.addr) <;> exact ⟨by simp [map], feed⟩
    | localOnly => exact ⟨map, feed⟩
    | fill => exact ⟨map, feed⟩

/-- A write enters a segment in DIRTY only in SUSPENDED or with a full queue, which it leaves full (R31, R33). -/
theorem State.mapWrite_dirtied (w : WriteReq) (h : s.signals.dirtied = false) (ht : (s.mapWrite w).signals.dirtied = true) :
    s.session.state = .suspended ∨ (s.mapWrite w).feed.hasPlace = false := by
  have offer (hd : (s.offerMirror w).signals.dirtied = true) : (s.offerMirror w).feed.hasPlace = false := by
    unfold State.offerMirror at hd ⊢
    split
    · next hq => simp [hq, h] at hd
    · next hq => exact hasPlace_of_placeRecord s.feed _ hq
  have stays : s.signals.dirtied ≠ true := by simp [h]
  cases hf : s.inFeed
  · rw [State.mapWrite, hf] at ht
    exact absurd ht stays
  · cases hc : s.classOf w.addr with
    | mirror =>
      rw [s.mapWrite_mirror w hf hc, State.mapMirror] at ht ⊢
      cases hg : s.map.get (segmentOf w.addr) <;> rw [hg] at ht
      case clean =>
        by_cases hs : s.session.state = .suspended
        · exact .inl hs
        · simp only [if_neg hs] at ht ⊢
          exact .inr (offer ht)
      case inflight => exact .inr (offer ht)
      all_goals exact absurd ht stays
    | snapshot =>
      rw [s.mapWrite_snapshot w hf hc, State.mapSnapshot] at ht
      cases hg : s.map.get (segmentOf w.addr) <;> rw [hg] at ht <;> exact absurd ht stays
    | localOnly => rw [State.mapWrite, hf, hc] at ht; exact absurd ht stays
    | fill => rw [State.mapWrite, hf, hc] at ht; exact absurd ht stays

/-- A write at the map leaves session and window, and what the part has driven. -/
theorem State.mapWrite_frame (w : WriteReq) :
    (s.mapWrite w).session = s.session ∧ (s.mapWrite w).feed.window = s.feed.window ∧ (s.mapWrite w).out = s.out
      ∧ (s.mapWrite w).freeze = s.freeze ∧ (s.mapWrite w).path = s.path ∧ (s.mapWrite w).chassis = s.chassis := by
  unfold State.mapWrite State.mapMirror State.mapSnapshot State.offerMirror
  (repeat' split) <;> exact ⟨rfl, rfl, rfl, rfl, rfl, rfl⟩

/-! ### A granted write as an event -/

/-- The queue at the end of a command that entered a segment in DIRTY only with no place in the queue, or away from STEADY and HANDOVER:
nothing joins it but an INSTEP in STEADY (R149, R150). -/
theorem State.settle_queue_cases
    (h : s.signals.dirtied = true → s.feed.hasPlace = false ∨ (s.session.state ≠ .steady ∧ s.session.state ≠ .handover)) :
    s.settle.feed.queue = s.feed.queue ∨ (s.session.state = .steady ∧ s.settle.feed.queue = s.feed.queue ++ [.instep]) := by
  have stale : s.examineHeld.staleStage.feed.queue = s.feed.queue := by
    unfold State.staleStage
    split
    · next hc =>
      simp only [State.examineHeld_signals, State.examineHeld_session, Bool.and_eq_true, Bool.or_eq_true, beq_iff_eq] at hc
      obtain ⟨⟨⟨dirtied, drains⟩, -⟩, -⟩ := hc
      obtain full | away := h dirtied
      · simp [State.offerStale, full]
      · exact absurd drains (by simp [away])
    · simp
  have queue : s.settle.feed.queue = s.examineHeld.staleStage.instepStage.feed.queue := by simp [State.settle]
  rw [queue]
  unfold State.instepStage
  split
  · exact .inl stale
  · unfold State.tryInstep
    split
    · next ht =>
      have steady : s.session.state = .steady := by
        simp only [State.instepTest, Bool.and_eq_true, beq_iff_eq] at ht
        simpa using ht.1.1.1.1.1.1
      unfold State.offerInstep
      split
      · exact .inr ⟨steady, by simp [State.enqueue, stale]⟩
      · exact .inl stale
    · exact .inl stale

/-- A write snooped at another word than the trigger moves only the shadow (R10, R167). -/
theorem State.snoopWrite_shadow (w : WriteReq) (h : slotOffset s.chassis.msize w.addr ≠ some 0) :
    ∃ d, s.snoopWrite w = { s with directive := d } := by
  unfold State.snoopWrite
  split
  · next i hi =>
    have : i ≠ 0 := by rintro rfl; exact h hi
    exact ⟨_, by rw [State.snoop, if_neg this]; rfl⟩
  · exact ⟨s.directive, rfl⟩

/-- What follows the map in a granted write's event leaves map and feed, the news of DIRTY and the port (R10, R135). -/
theorem State.endReplay_signals_dirtied : s.endReplay.signals.dirtied = s.signals.dirtied := by
  have throttle (u : State) (n : Nat) : (u.setThrottle n).signals.dirtied = u.signals.dirtied := by
    unfold State.setThrottle; split <;> rfl
  have steady : s.enterSteady.signals.dirtied = s.signals.dirtied := by simp [State.enterSteady, throttle]
  have handover (u : State) : u.enterHandover.signals.dirtied = u.signals.dirtied := by simp [State.enterHandover]
  unfold State.endReplay
  dsimp only
  (repeat' split) <;> simp [steady, handover]

/-- A session in SUSPENDED, as every one but REPLAY, is left there by the end of a replay (R135). -/
theorem State.endReplay_of_ne (h : s.session.state ≠ .replay) : s.endReplay = s := by simp [State.endReplay, h]

/-- The maintenance write is UPSTREAM's request where no lookup read is ready (R14). -/
theorem State.grantUpstream_write (w : WriteReq) (noLookup : s.isReady s.lookupOffer = false) (maint : s.path.maint = .write w) :
    s.grantUpstream = ({ s with path := { s.path with maint := .empty } } : State).grantUpstreamWrite w := by
  rw [State.grantUpstream, noLookup]
  simp only [Bool.false_eq_true, if_false, maint]

/-- ARBITER_GRANT to the maintenance write (R14). -/
theorem exec_arbiterGrant_maint (w : WriteReq) (power : s.chassis.power = true) (win : s.winner = some .upstream)
    (noLookup : s.isReady s.lookupOffer = false) (maint : s.path.maint = .write w) :
    ∃ p : Path, exec .arbiterGrant s = .next (({ s.fresh with path := p } : State).grantUpstreamWrite w).settle := by
  have won : s.fresh.winner = some .upstream := win
  have grant : s.fresh.grant
      = State.grantUpstream { s.fresh with path := { s.path with waitRuns := s.fresh.runsAfter .upstream } } := by
    rw [State.grant, won]
    rfl
  have event : exec .arbiterGrant s = .next (State.settle (if s.fresh.chassis.power then s.fresh.grant else s.fresh)) := rfl
  rw [event, if_pos (show s.fresh.chassis.power = true from power), grant]
  exact ⟨_, congrArg (fun u : State => Host.Outcome.next u.settle)
    (State.grantUpstream_write { s.fresh with path := { s.path with waitRuns := s.fresh.runsAfter .upstream } } w noLookup maint)⟩

/-- An upstream write that is no trigger reaches the map with session, table, map and feed as they were, and leaves the map for the end of
a replay (R10, R29, R51, R140). -/
theorem State.grantUpstreamWrite_at_map (w : WriteReq) (live : s.live = true) (mask : w.mask ≠ 0)
    (slot : slotOffset s.chassis.msize w.addr ≠ some 0) :
    ∃ (v : State) (d : Directive), s.grantUpstreamWrite w = State.endReplay { v.mapWrite w with directive := d }
      ∧ v.out.mem = s.out.mem ++ [.write w.addr w.data w.mask] ∧ v.signals.dirtied = s.signals.dirtied
      ∧ v.session = s.session ∧ v.chassis = s.chassis ∧ v.regions = s.regions ∧ v.map = s.map ∧ v.feed = s.feed := by
  have reached (v : State) (hv : v = ((s.toMemory (.write w.addr w.data w.mask)).supersede w).patchWrite w) :
      v.out.mem = s.out.mem ++ [.write w.addr w.data w.mask] ∧ v.signals.dirtied = s.signals.dirtied
        ∧ v.session = s.session ∧ v.chassis = s.chassis ∧ v.regions = s.regions ∧ v.map = s.map ∧ v.feed = s.feed := by
    subst hv
    simp only [State.patchWrite, State.patchStaging, State.supersede]
    (repeat' split) <;> exact ⟨rfl, rfl, rfl, rfl, rfl, rfl, rfl⟩
  obtain ⟨v, hv⟩ : ∃ v, v = ((s.toMemory (.write w.addr w.data w.mask)).supersede w).patchWrite w := ⟨_, rfl⟩
  obtain ⟨mem, dirtied, session, chassis, regions, map, feed⟩ := reached v hv
  obtain ⟨d, snooped⟩ := (v.mapWrite w).snoopWrite_shadow w (by rw [(v.mapWrite_frame w).2.2.2.2.2, chassis]; exact slot)
  refine ⟨v, d, ?_, mem, dirtied, session, chassis, regions, map, feed⟩
  have here : (s.toMemory (.write w.addr w.data w.mask)).live = true := live
  rw [← snooped, hv]
  exact if_pos (by simpa [here] using mask)

/-- ARBITER_GRANT of a maintenance write that is no trigger: the write is passed on, and map and queue are those of the map's own view of
it, but for an INSTEP behind in STEADY (R10, R14, R29). -/
theorem exec_arbiterGrant_write (w : WriteReq) (live : s.live = true) (win : s.winner = some .upstream)
    (noLookup : s.isReady s.lookupOffer = false) (maint : s.path.maint = .write w) (mask : w.mask ≠ 0)
    (slot : slotOffset s.chassis.msize w.addr ≠ some 0) :
    ∃ u, exec .arbiterGrant s = .next u ∧ u.out.mem = [.write w.addr w.data w.mask] ∧ u.map = (s.mapWrite w).map
      ∧ (u.feed.queue = (s.mapWrite w).feed.queue
          ∨ (u.session.state = .steady ∧ u.feed.queue = (s.mapWrite w).feed.queue ++ [.instep]))
      ∧ u.feed.window = s.feed.window := by
  have power : s.chassis.power = true := by
    simp only [State.live, Bool.and_eq_true] at live
    exact live.1
  obtain ⟨p, granted⟩ := exec_arbiterGrant_maint s w power win noLookup maint
  obtain ⟨v, d, upstream, mem, dirtied, session, chassis, regions, map, feed⟩ :=
    State.grantUpstreamWrite_at_map { s.fresh with path := p } w live mask slot
  obtain ⟨mapped, queued⟩ := State.mapWrite_congr (s := s) w session chassis regions map feed
  obtain ⟨session', window, out, -⟩ := v.mapWrite_frame w
  rw [granted, upstream]
  refine ⟨_, rfl, ?_, ?_, ?_, ?_⟩
  · simpa [out, Out.none] using mem
  · simp [mapped]
  · have queue := State.settle_queue_cases (State.endReplay { v.mapWrite w with directive := d }) fun told => ?_
    · simpa [queued] using queue
    · rw [State.endReplay_signals_dirtied] at told
      obtain suspended | full := v.mapWrite_dirtied w dirtied told
      · have state : (v.mapWrite w).session.state = .suspended := by rw [session']; exact suspended
        rw [State.endReplay_of_ne _ (by simp [state])]
        exact .inr (by simp [state])
      · exact .inl (by simpa using full)
  · simp [window, feed]

/-- Settles O20: the map's view of the write by the segment's state, and its grant as an event. -/
theorem mirrorWriteAtGrant : Obligations.MirrorWriteAtGrant := by
  intro s w feed cls n r t
  have view : t = s.mapMirror w := s.mapWrite_mirror w feed cls
  have others (f : SegState → SegState) (hf : f .notTracked = .notTracked) (k : Segment) (hk : k ≠ n) :
      (s.changeSeg n f).map.get k = s.map.get k := by
    rw [State.changeSeg_get _ _ _ _ hf, if_neg hk]
  have self (f : SegState → SegState) (hf : f .notTracked = .notTracked) : (s.changeSeg n f).map.get n = f (s.map.get n) := by
    rw [State.changeSeg_get _ _ _ _ hf, if_pos rfl]
  refine ⟨fun sent => ?_, fun clean suspended => ?_, fun notInflight notClean => ?_, fun live win noLookup maint mask slot => ?_⟩
  · have offered : t = s.offerMirror w := by
      obtain inflight | ⟨clean, notSuspended⟩ := sent
      · rw [view, State.mapMirror, inflight]
      · rw [view, State.mapMirror, clean]; exact if_neg notSuspended
    have dirty : sentToDirty (s.map.get n) = .dirty := by
      obtain inflight | ⟨clean, -⟩ := sent
      · rw [inflight]; rfl
      · rw [clean]; rfl
    refine ⟨fun q rs hq room => ?_, fun last place => ?_, fun last full => ?_⟩
    · rw [offered, State.offerMirror, hq, placeRecord_append q rs r room]
    · rw [offered, State.offerMirror, placeRecord_new _ r last, if_pos place]
    · have refused : t = { s.changeSeg n sentToDirty with
          map := { (s.changeSeg n sentToDirty).map with overflow := min Config.top32 (s.map.overflow + 1) } } := by
        rw [offered, State.offerMirror, placeRecord_new _ r last, if_neg (by omega)]
        rfl
      rw [refused]
      exact ⟨(self _ rfl).trans dirty, rfl, rfl, fun k hk => others _ rfl k hk⟩
  · have marked : t = s.changeSeg n cleanToDirty := by
      rw [view, State.mapMirror, clean]; exact if_pos suspended
    rw [marked]
    exact ⟨(self _ rfl).trans (by rw [clean]; rfl), rfl, rfl, fun k hk => others _ rfl k hk⟩
  · rw [view, State.mapMirror]
    split
    · next hg => exact absurd hg notClean
    · next hg => exact absurd hg notInflight
    · rfl
  · exact exec_arbiterGrant_write s w live win noLookup maint mask slot

/-- Settles O21: the map's view of the write by the segment's state, and its grant as an event. -/
theorem snapshotWriteAtGrant : Obligations.SnapshotWriteAtGrant := by
  intro s w feed cls st
  have view := s.mapWrite_snapshot w feed cls
  have queue : (s.mapWrite w).feed.queue = s.feed.queue := by
    rw [view, State.mapSnapshot]
    split <;> rfl
  refine ⟨fun copied => ?_, fun notInflight notClean => ?_, fun live win noLookup maint mask slot => ?_⟩
  · rw [view, State.mapSnapshot]
    obtain inflight | clean := copied
    · rw [show s.map.get (segmentOf w.addr) = .inflight from inflight]; rfl
    · rw [show s.map.get (segmentOf w.addr) = .clean from clean]; rfl
  · rw [view, State.mapSnapshot]
    split
    · next hg => exact absurd hg notClean
    · next hg => exact absurd hg notInflight
    · rfl
  · have granted := exec_arbiterGrant_write s w live win noLookup maint mask slot
    rwa [queue] at granted

end Sys2Proof.Machine
end

section
/-! SUPPORT. A link loss block by block (R39, R68), what a directive leaves of the directive unit and the report, and the end of a command
that has only asked for a report. -/

namespace Sys2Proof.Machine

open Sys2Proof

variable (s : State)

/-! ### A link loss -/

/-- The feed's frames, buffers and offers are gone and its overlay entries FLUSHING; of the map only the states have moved (R39). -/
theorem State.loseFrames_eq :
    s.loseFrames = { s with
      map := { s.map with cells := s.loseFrames.map.cells }
      signals := s.loseFrames.signals
      walker := { s.walker with buf0 := none, buf1 := none }
      feed := { s.feed with queue := [], window := [], instepWaiting := false }
      freeze := { s.freeze with entries := s.freeze.entries.map fun e => { e with flushing := true } } } := by
  have flushed (u : State) (h0 : u.walker.buf0 = none) (h1 : u.walker.buf1 = none) : u.flushContinuing = { u with
      map := { u.map with cells := u.flushContinuing.map.cells }
      signals := u.flushContinuing.signals
      walker := { u.walker with buf0 := none, buf1 := none }
      freeze := { u.freeze with entries := u.freeze.entries.map fun e => { e with flushing := true } } } := by
    have marked := OnlyCells.foldl (fun s (e : OverlayEntry) => s.changeSeg (segmentOf e.addr) flushToDirty)
      (fun s e => .changeSeg s _ _) u.freeze.entries u
    unfold State.flushContinuing
    dsimp only
    rw [marked]
    simp [State.beginFlush, keepBuffer, h0, h1]
  have reopened : OnlyCells s ((s.reopen s.walker.buf0).reopen s.walker.buf1) :=
    (OnlyCells.reopen s _).trans (.reopen _ _)
  have withdrawn := OnlyCells.withdrawAll ((s.reopen s.walker.buf0).reopen s.walker.buf1).dropBuffers.emptyQueues
    (((s.reopen s.walker.buf0).reopen s.walker.buf1).feed.window.map Prod.snd
      ++ ((s.reopen s.walker.buf0).reopen s.walker.buf1).feed.queue) []
  have parts : s.loseFrames = State.flushContinuing (State.withdrawAll
      (((s.reopen s.walker.buf0).reopen s.walker.buf1).feed.window.map Prod.snd
        ++ ((s.reopen s.walker.buf0).reopen s.walker.buf1).feed.queue) []
      ((s.reopen s.walker.buf0).reopen s.walker.buf1).dropBuffers.emptyQueues) := rfl
  rw [parts, flushed _ (by rw [withdrawn]; rfl) (by rw [withdrawn]; rfl)]
  rw [withdrawn, reopened]
  rfl

@[simp] theorem State.loseFrames_chassis : s.loseFrames.chassis = s.chassis := by rw [State.loseFrames_eq]
@[simp] theorem State.loseFrames_settings : s.loseFrames.settings = s.settings := by rw [State.loseFrames_eq]
@[simp] theorem State.loseFrames_regions : s.loseFrames.regions = s.regions := by rw [State.loseFrames_eq]
@[simp] theorem State.loseFrames_link : s.loseFrames.link = s.link := by rw [State.loseFrames_eq]
@[simp] theorem State.loseFrames_take : s.loseFrames.take = s.take := by rw [State.loseFrames_eq]
@[simp] theorem State.loseFrames_faults : s.loseFrames.faults = s.faults := by rw [State.loseFrames_eq]
@[simp] theorem State.loseFrames_review : s.loseFrames.review = s.review := by rw [State.loseFrames_eq]
@[simp] theorem State.loseFrames_session : s.loseFrames.session = s.session := by rw [State.loseFrames_eq]
@[simp] theorem State.loseFrames_directive : s.loseFrames.directive = s.directive := by rw [State.loseFrames_eq]
@[simp] theorem State.loseFrames_notices : s.loseFrames.notices = s.notices := by rw [State.loseFrames_eq]
@[simp] theorem State.loseFrames_report : s.loseFrames.report = s.report := by rw [State.loseFrames_eq]
@[simp] theorem State.loseFrames_out : s.loseFrames.out = s.out := by rw [State.loseFrames_eq]
@[simp] theorem State.loseFrames_walker :
    s.loseFrames.walker = { s.walker with buf0 := none, buf1 := none } := by rw [State.loseFrames_eq]
@[simp] theorem State.loseFrames_feed :
    s.loseFrames.feed = { s.feed with queue := [], window := [], instepWaiting := false } := by rw [State.loseFrames_eq]
@[simp] theorem State.loseFrames_freeze : s.loseFrames.freeze
    = { s.freeze with entries := s.freeze.entries.map fun e => { e with flushing := true } } := by rw [State.loseFrames_eq]

/-- The state changes of a link loss leave every block but freeze, session, notices and signals. -/
theorem State.suspendByState_eq : s.suspendByState = { s with
    freeze := { s.freeze with timer := s.suspendByState.freeze.timer }
    session := s.suspendByState.session, notices := s.suspendByState.notices, signals := s.suspendByState.signals } := by
  unfold State.suspendByState
  split
  · unfold State.suspend State.setState
    dsimp only
    split <;> rfl
  · rfl

/-- A link loss leaves the directive unit (R68). -/
@[simp] theorem State.loseLink_directive : s.loseLink.directive = s.directive := by
  unfold State.loseLink
  split
  · split
    · rw [State.loseLinkFeed_eq, State.suspendByState_eq]
      simp [State.lostLink]
    · split
      · unfold State.loseLinkTake
        dsimp only
        (repeat' split) <;> simp
      · rfl
  · rfl

/-- A link loss leaves the report writer (R68). -/
@[simp] theorem State.loseLink_report : s.loseLink.report = s.report := by
  unfold State.loseLink
  split
  · split
    · rw [State.loseLinkFeed_eq, State.suspendByState_eq]
      simp [State.lostLink]
    · split
      · unfold State.loseLinkTake
        dsimp only
        (repeat' split) <;> simp
      · rfl
  · rfl

/-! ### Directives -/

/-- No directive's effect touches the directive unit (R169). -/
@[simp] theorem State.doDirective_directive (k : DirKind) : (s.doDirective k).directive = s.directive := by
  cases k with
  | setup =>
    unfold State.doDirective State.doSetup State.filterPeer
    dsimp only
    (repeat' split) <;> simp
  | region => unfold State.doDirective State.doRegion; dsimp only; split <;> rfl
  | feed => simp [State.doDirective, State.doFeed]
  | take => simp [State.doDirective, State.doTake]
  | _ => simp [State.doDirective]

/-- No directive's effect touches the report writer (R178). -/
@[simp] theorem State.doDirective_report (k : DirKind) : (s.doDirective k).report = s.report := by
  cases k with
  | setup =>
    unfold State.doDirective State.doSetup State.filterPeer
    dsimp only
    (repeat' split) <;> simp
  | region => unfold State.doDirective State.doRegion; dsimp only; split <;> rfl
  | feed => simp [State.doDirective, State.doFeed]
  | take => simp [State.doDirective, State.doTake]
  | _ => simp [State.doDirective]

@[simp] theorem State.obey_directive (k : DirKind) (o : DirOutcome) : (s.obey k o).directive = s.directive := by
  unfold State.obey; split <;> simp
@[simp] theorem State.obey_report (k : DirKind) (o : DirOutcome) : (s.obey k o).report = s.report := by
  unfold State.obey; split <;> simp
@[simp] theorem State.finishDirective_directive (k : DirKind) : (s.finishDirective k).directive = s.directive := by
  unfold State.finishDirective; split <;> rfl
@[simp] theorem State.finishDirective_report (k : DirKind) : (s.finishDirective k).report = s.report := by
  unfold State.finishDirective; split <;> rfl
@[simp] theorem State.recordDirective_report (n code : Byte) (o : DirOutcome) : (s.recordDirective n code o).report = s.report := rfl

/-! ### A command that has only asked for a report -/

/-- A state that is settled but for a requested report has only that report served at the end of the command. -/
theorem State.settle_of_settled_signals (h : State.settled { s with signals := .none }) (dirtied : s.signals.dirtied = false)
    (reexamine : s.signals.reexamine = false) : s.settle = s.serveReport.clearSignals := by
  have runs : s.clearRuns = s := by
    have cleared := State.clearRuns_of_settled { s with signals := .none } h
    exact congrArg (fun u : State => ({ u with signals := s.signals } : State)) cleared
  have held : s.examineHeld = s := by simp [State.examineHeld, reexamine]
  have stale : s.staleStage = s := by simp [State.staleStage, dirtied]
  obtain ⟨-, test, waiting, -⟩ := h
  have instep : s.instepStage = s := by
    have test' : s.instepTest = false := test
    unfold State.instepStage State.tryInstep
    rw [test']
    split
    · next hw =>
      simp only [Bool.and_eq_true, Bool.or_eq_true, bne_iff_ne] at hw
      obtain ⟨noDirty, noOpen⟩ := waiting hw.1
      exact absurd hw.2 (by simp only [not_or, not_not]; exact ⟨noDirty, noOpen⟩)
    · rfl
  simp only [State.settle, held, stale, instep, runs]

end Sys2Proof.Machine
end

section
/-! SUPPORT. The value checks of REGION and FEED as statements about the table (R22, R172), and the tests of a directive in their order
(R169). -/

namespace Sys2Proof.Machine

open Sys2Proof

variable (s : State)

/-! ### The table's entries with their indices -/

/-- A test of the entries with their indices holds of some index below the table's size. -/
theorem any_zipIdx_toList {α : Type} {n : Nat} (v : Vector α n) (p : α × Nat → Bool) :
    v.toList.zipIdx.any p = true ↔ ∃ i : Fin n, p (v[i], i.val) = true := by
  rw [List.any_eq_true]
  constructor
  · rintro ⟨⟨a, i⟩, hmem, hp⟩
    rw [List.mem_zipIdx_iff_getElem?] at hmem
    obtain ⟨hi, ha⟩ := List.getElem?_eq_some_iff.1 hmem
    dsimp only at hi ha
    subst ha
    exact ⟨⟨i, by simpa using hi⟩, by simpa using hp⟩
  · rintro ⟨i, hp⟩
    refine ⟨(v[i], i.val), ?_, hp⟩
    rw [List.mem_zipIdx_iff_getElem?]
    simp

/-- Two runs share no segment where either is empty or one ends before the other begins. -/
theorem runsOverlap_eq_false_iff (a la b lb : Nat) :
    runsOverlap a la b lb = false ↔ la = 0 ∨ lb = 0 ∨ b + lb ≤ a ∨ a + la ≤ b := by
  rw [← Bool.not_eq_true]
  simp only [runsOverlap, Bool.and_eq_true, decide_eq_true_eq]
  omega

theorem classOfCode_eq_none_iff (c : Byte) : classOfCode c = none ↔ 3 < c.toNat := by
  unfold classOfCode
  split <;> simp_all
  omega

theorem codeOfClass_of_classOfCode {c : Byte} {r : RegionClass} (h : classOfCode c = some r) : codeOfClass r = c := by
  unfold classOfCode at h
  split at h <;> simp_all [← BitVec.toNat_inj] <;> subst h <;> rfl

/-! ### REGION's check -/

/-- The fields of a REGION pass the check of R22 for an entry that is not empty: the run ends below the control area, the code names a
class, no other non-empty entry shares a segment. -/
def RegionFields.fits (f : RegionFields) (msize : BitVec 2) (rs : Vector Region 16) : Prop :=
  f.base.toNat + f.length.toNat - 1 ≤ segmentsOf msize - 17 ∧ f.cls.toNat ≤ 3
    ∧ ∀ j : Fin 16, j.val ≠ f.index.toNat → rs[j].length ≠ 0 →
        rs[j].base.toNat + rs[j].length.toNat ≤ f.base.toNat ∨ f.base.toNat + f.length.toNat ≤ rs[j].base.toNat

theorem overlapsOthers_eq_false_iff (rs : Vector Region 16) (index base len : Nat) (h : len ≠ 0) :
    overlapsOthers rs index base len = false ↔
      ∀ j : Fin 16, j.val ≠ index → rs[j].length ≠ 0 →
        rs[j].base.toNat + rs[j].length.toNat ≤ base ∨ base + len ≤ rs[j].base.toNat := by
  have zero (b : BitVec 18) : b.toNat = 0 ↔ b = 0 := by simp [← BitVec.toNat_inj]
  rw [← Bool.not_eq_true, overlapsOthers, any_zipIdx_toList, not_exists]
  refine forall_congr' fun j => ?_
  simp only [Bool.and_eq_true, decide_eq_true_eq, not_and, Bool.not_eq_true, runsOverlap_eq_false_iff, h, false_or, zero, ne_eq]
  exact imp_congr_right fun _ => or_iff_not_imp_left

theorem regionCheck_of_empty {msize : BitVec 2} {rs : Vector Region 16} {f : RegionFields} (h : f.length = 0) :
    regionCheck msize rs f = some Region.empty := by simp [regionCheck, h]

/-- The entry that a REGION makes holds the directive's fields (R22). -/
theorem regionCheck_of_fits {msize : BitVec 2} {rs : Vector Region 16} {f : RegionFields} (h : f.length ≠ 0) (hf : f.fits msize rs) :
    ∃ c, codeOfClass c = f.cls
      ∧ regionCheck msize rs f = some { base := f.base, length := f.length, cls := c, order := f.order, fill := f.fill } := by
  obtain ⟨hend, hcls, hothers⟩ := hf
  have hlen : f.length.toNat ≠ 0 := fun h0 => h (BitVec.eq_of_toNat_eq (by simpa using h0))
  have hpast : reachesPast msize f.base.toNat f.length.toNat = false := by simpa [reachesPast] using hend
  have hover := (overlapsOthers_eq_false_iff rs f.index.toNat f.base.toNat _ hlen).2 hothers
  obtain ⟨c, hc⟩ : ∃ c, classOfCode f.cls = some c := by
    refine Option.ne_none_iff_exists'.1 fun hnone => ?_
    exact absurd ((classOfCode_eq_none_iff _).1 hnone) (by omega)
  exact ⟨c, codeOfClass_of_classOfCode hc, by simp only [regionCheck, h, hpast, hover, hc]; rfl⟩

theorem regionCheck_of_not_fits {msize : BitVec 2} {rs : Vector Region 16} {f : RegionFields} (h : f.length ≠ 0)
    (hf : ¬ f.fits msize rs) : regionCheck msize rs f = none := by
  have hlen : f.length.toNat ≠ 0 := fun h0 => h (BitVec.eq_of_toNat_eq (by simpa using h0))
  unfold regionCheck
  rw [if_neg h]
  split
  · rfl
  · next hpast =>
    split
    · rfl
    · next hover =>
      rw [Bool.not_eq_true, overlapsOthers_eq_false_iff rs _ _ _ hlen] at hover
      rw [(classOfCode_eq_none_iff _).2]
      · rfl
      · refine Nat.lt_of_not_le fun hcls => hf ⟨?_, hcls, hover⟩
        simpa [reachesPast] using hpast

theorem regionCheck_isSome_iff (msize : BitVec 2) (rs : Vector Region 16) (f : RegionFields) :
    (regionCheck msize rs f).isSome = true ↔ f.length = 0 ∨ f.fits msize rs := by
  by_cases h : f.length = 0
  · simp [regionCheck_of_empty h, h]
  · by_cases hf : f.fits msize rs
    · obtain ⟨c, -, hc⟩ := regionCheck_of_fits h hf
      simp [hc, hf]
    · exact iff_of_false (by simp [regionCheck_of_not_fits h hf]) (not_or.2 ⟨h, hf⟩)

/-! ### FEED's check -/

/-- T is not 0 where an entry that is not empty is MIRROR or SNAPSHOT (R21). -/
theorem trackedTotal_ne_zero_iff (rs : Vector Region 16) :
    trackedTotal rs ≠ 0 ↔ ∃ j : Fin 16, rs[j].length ≠ 0 ∧ (rs[j].cls = .mirror ∨ rs[j].cls = .snapshot) := by
  have tracked (r : Region) : r.cls.tracked = true ↔ r.cls = .mirror ∨ r.cls = .snapshot := by
    cases h : r.cls <;> simp [RegionClass.tracked]
  have zero (b : BitVec 18) : b.toNat = 0 ↔ b = 0 := by simp [← BitVec.toNat_inj]
  rw [trackedTotal, ne_eq, List.sum_eq_zero_iff]
  simp only [List.mem_map, List.mem_filter, tracked]
  constructor
  · intro h
    by_contra hno
    refine h ?_
    rintro x ⟨r, ⟨hmem, hcls⟩, rfl⟩
    obtain ⟨j, hj, hr⟩ := List.getElem_of_mem hmem
    subst hr
    rw [zero]
    by_contra hlen
    exact hno ⟨⟨j, by simpa using hj⟩, by simpa using hlen, by simpa using hcls⟩
  · rintro ⟨j, hlen, hcls⟩ h
    exact hlen ((zero _).1 (h _ ⟨rs[j], ⟨by simp [Fin.getElem_fin], hcls⟩, rfl⟩))

/-! ### The tests in their order (R169) -/

/-- The outcome of a directive of a kind: the first test that fails, else DONE (R169). -/
theorem State.judge_code (k : DirKind) : s.judge k.code =
    if ¬ s.dirAllowed k = true then .refusedState
    else if k = .take ∧ ¬ (s.chassis.takeEn = true ∧ s.session.lockout = false) then .refusedEnable
    else if ¬ s.dirValue k = true then .refusedValue
    else .done := by
  have enabled : (k == DirKind.take && !(s.chassis.takeEn && !s.session.lockout)) = true
      ↔ k = .take ∧ ¬ (s.chassis.takeEn = true ∧ s.session.lockout = false) := by
    cases s.chassis.takeEn <;> simp
  simp only [State.judge, kindOfCode_code, enabled, Bool.not_eq_true', Bool.not_eq_true]

end Sys2Proof.Machine
end

section
/-! PROOFS. The directives: the tests in their order (O29), REGION (O31), FEED (O32). -/

namespace Sys2Proof.Machine

open Sys2Proof

variable (s : State)

/-! ### Where each kind is allowed (section 9.3) -/

/-- The session states in which a directive of each kind is taken, by role (section 9.3). -/
def State.allows (s : State) (k : DirKind) : Prop :=
  let st := s.session.state
  let feed := s.session.role = .feed ∧ st ≠ .idle
  let take := s.session.role = .take ∧ st ≠ .idle
  match k with
  | .setup | .region | .feed | .take => st = .idle
  | .handover => feed
  | .release => feed ∧ st = .steady
  | .abort => feed ∨ take
  | .adopt => take ∧ (st = .synced ∨ st = .final ∨ st = .held ∨ st = .detached
      ∨ ((st = .bringup ∨ st = .install ∨ st = .receiving) ∧ (s.directive.word 1).getLsbD 0 = true))
  | .notices | .acknowledge | .refresh => True

theorem adoptAllowed_iff (st : SessState) (force : Bool) :
    adoptAllowed st force = true ↔ st = .synced ∨ st = .final ∨ st = .held ∨ st = .detached
      ∨ ((st = .bringup ∨ st = .install ∨ st = .receiving) ∧ force = true) := by
  cases st <;> simp [adoptAllowed]

theorem State.dirAllowed_iff_allows (k : DirKind) : s.dirAllowed k = true ↔ s.allows k := by
  have force (w : Word) : adoptForce w = w.getLsbD 0 := by simp [adoptForce, byteOf]
  cases k <;> simp [State.dirAllowed, State.allows, State.inFeed_iff, State.inTake_iff, adoptAllowed_iff, force]

/-- The states of a session in the feed role. -/
theorem State.stateLegal.feed_iff {s : State} (h : s.stateLegal) :
    s.session.role = .feed ∧ s.session.state ≠ .idle ↔ s.session.role = .feed ∧ (s.session.state = .bringup ∨ s.session.state = .install
      ∨ s.session.state = .sweep ∨ s.session.state = .catchup ∨ s.session.state = .freeze ∨ s.session.state = .replay
      ∨ s.session.state = .steady ∨ s.session.state = .suspended ∨ s.session.state = .handover) := by
  refine and_congr_right fun role => ?_
  rw [State.stateLegal, role] at h
  revert h
  cases s.session.state <;> simp [feedState]

/-- The states of a session in the take role. -/
theorem State.stateLegal.take_iff {s : State} (h : s.stateLegal) :
    s.session.role = .take ∧ s.session.state ≠ .idle ↔ s.session.role = .take ∧ (s.session.state = .bringup ∨ s.session.state = .install
      ∨ s.session.state = .receiving ∨ s.session.state = .synced ∨ s.session.state = .final ∨ s.session.state = .held
      ∨ s.session.state = .detached) := by
  refine and_congr_right fun role => ?_
  rw [State.stateLegal, role] at h
  revert h
  cases s.session.state <;> simp [takeState]

/-- The fields that the shadow names for REGION, as numbers (R186). -/
theorem State.regionRequest_fields :
    s.regionRequest.base.toNat = (s.directive.word 1).toNat % 2 ^ 18
      ∧ s.regionRequest.length.toNat = (s.directive.word 1).toNat / 2 ^ 32 % 2 ^ 18
      ∧ s.regionRequest.cls.toNat = (s.directive.word 2).toNat / 2 ^ 8 % 2 ^ 8
      ∧ s.regionRequest.index.toNat = (s.directive.word 2).toNat % 16 := by
  simp [State.regionRequest, regionFields, byteOf, BitVec.extractLsb'_toNat, Nat.shiftRight_eq_div_pow]

/-- The value checks (R22, R169, R172). -/
theorem State.dirValue_iff (k : DirKind) : s.dirValue k = true ↔
    (k = .region → s.regionRequest.length = 0 ∨ s.regionRequest.fits s.chassis.msize s.regions)
      ∧ (k = .feed → feedSession (s.directive.word 1) ≠ 0 ∧ trackedTotal s.regions ≠ 0) := by
  cases k <;> simp [State.dirValue, regionCheck_isSome_iff]

/-! ### A command of the directive slot -/

/-- What a trigger with the expected number always leaves: its record, the report, its notice (R168, R169, R175). -/
theorem exec_command_record (k : DirKind) (live : s.live = true) :
    ∃ t, exec (k.command s.directive.expected) s = .next t
      ∧ t.directive = { s.directive with
          expected := s.directive.expected + 1,
          last := { number := s.directive.expected, code := k.code, outcome := s.judge k.code } }
      ∧ t.report.writing = true ∧ (s.report.writing = true → t.report.again = true)
      ∧ (k ≠ .acknowledge → t.notices.directive = raised s.report.generation) := by
  refine ⟨_, exec_command_expected s k live, ?_, State.settle_writing _ (by simp), fun busy => State.settle_again _ (by simp) ?_,
    fun hk => ?_⟩
  · simp [State.recordDirective]
  · simpa using busy
  · simp [State.finishDirective_notice _ k hk]

/-- A refused directive leaves every block but the directive unit, the notices and the report (R169). -/
theorem exec_command_refused (k : DirKind) (live : s.live = true) (settled : s.settled) (refused : s.judge k.code ≠ .done) :
    ∃ t, exec (k.command s.directive.expected) s = .next t
      ∧ t.settings = s.settings ∧ t.regions = s.regions ∧ t.session = s.session ∧ t.link = s.link ∧ t.feed = s.feed
      ∧ t.take = s.take ∧ t.map = s.map ∧ t.walker = s.walker ∧ t.freeze = s.freeze ∧ t.review = s.review
      ∧ t.faults = s.faults ∧ t.chassis = s.chassis ∧ t.out = Out.none := by
  refine ⟨_, exec_command_expected s k live, ?_⟩
  have unmoved (u : State) : u.obey k (s.judge k.code) = u := by simp [State.obey, refused]
  rw [unmoved, State.settle_of_settled_signals _ _ (by simp [State.recordDirective, State.fresh, Signals.none])
    (by simp [State.recordDirective, State.fresh, Signals.none]), State.finishDirective_eq]
  · simp [State.clearSignals, State.recordDirective]
  · rw [State.finishDirective_eq]
    exact State.settled_update settled s.link s.take s.faults s.review _ _ .none rfl rfl

/-- A trigger with another number is counted as stray and does nothing else (R168). -/
theorem exec_command_stray (k : DirKind) (n : Byte) (live : s.live = true) (settled : s.settled) (h : n ≠ s.directive.expected) :
    exec (k.command n) s =
      .next { s with directive := { s.directive with stray := min 65535 (s.directive.stray + 1) }, out := .none } := by
  rw [exec_command, State.liveEvent_of_live _ _ live, State.trigger_of_ne s.fresh n k.code h]
  refine congrArg Host.Outcome.next ((State.settle_of_settled _ ?_).trans ?_)
  · exact State.settled_update settled s.link s.take s.faults s.review _ s.notices .none rfl rfl
  · obtain ⟨signals, -⟩ := settled
    simp [State.countStray, State.fresh, satAdd, Config.top16, signals]

/-- Settles O29. -/
theorem directivesAreJudgedInOrder : Obligations.DirectivesAreJudgedInOrder := by
  intro k s live st feed take w allowed base length fits tracked enabled valid
  refine ⟨fun legal => ⟨legal.feed_iff, legal.take_iff⟩, fun o order => ?_, fun n hn settled => exec_command_stray s k n live settled hn⟩
  have hallowed : s.dirAllowed k = true ↔ allowed := (s.dirAllowed_iff_allows k).trans (by cases k <;> exact Iff.rfl)
  have henabled : (k = .take ∧ ¬ (s.chassis.takeEn = true ∧ s.session.lockout = false)) ↔ ¬ enabled := Classical.not_imp.symm
  have hvalid : s.dirValue k = true ↔ valid := by
    obtain ⟨hbase, hlength, hcls, hindex⟩ := s.regionRequest_fields
    have hempty : s.regionRequest.length = 0 ↔ length = 0 := by
      rw [← BitVec.toNat_inj, hlength]; exact Iff.rfl
    have hfits : (s.regionRequest.length = 0 ∨ s.regionRequest.fits s.chassis.msize s.regions) ↔ fits := by
      rw [hempty, RegionFields.fits, hbase, hlength, hcls, hindex]
    have hid : feedSession (s.directive.word 1) ≠ 0 ↔ (w 1).toNat % 2 ^ 16 ≠ 0 := by
      simp [feedSession, ← BitVec.toNat_inj, BitVec.extractLsb'_toNat, w]
    rw [State.dirValue_iff, hfits, hid, trackedTotal_ne_zero_iff]
  have hjudge : s.judge k.code = o := by
    rw [State.judge_code]
    rcases order with ⟨notAllowed, rfl⟩ | ⟨isAllowed, notEnabled, rfl⟩ | ⟨isAllowed, isEnabled, notValid, rfl⟩
      | ⟨isAllowed, isEnabled, isValid, rfl⟩
    · rw [if_pos (mt hallowed.1 notAllowed)]
    · rw [if_neg (not_not.2 (hallowed.2 isAllowed)), if_pos (henabled.2 notEnabled)]
    · rw [if_neg (not_not.2 (hallowed.2 isAllowed)), if_neg (mt henabled.1 (not_not.2 isEnabled)), if_pos (mt hvalid.1 notValid)]
    · rw [if_neg (not_not.2 (hallowed.2 isAllowed)), if_neg (mt henabled.1 (not_not.2 isEnabled)), if_neg (not_not.2 (hvalid.2 isValid))]
  obtain ⟨t, ht, record, writing, again, notice⟩ := exec_command_record s k live
  refine ⟨t, ht, hjudge ▸ record, writing, again, notice, fun refused settled => ?_⟩
  obtain ⟨t', ht', unmoved⟩ := exec_command_refused s k live settled (hjudge ▸ refused)
  cases ht.symm.trans ht'
  exact unmoved

/-! ### REGION -/

/-- REGION in IDLE is done where the check makes an entry, and else refused (R22, R169). -/
theorem State.judge_region (idle : s.session.state = .idle) : s.judge DirKind.region.code =
    if (regionCheck s.chassis.msize s.regions s.regionRequest).isSome then .done else .refusedValue := by
  rw [State.judge_code]
  simp only [State.dirAllowed, State.dirValue, idle, reduceCtorEq, false_and, if_false]
  exact ite_not (p := (regionCheck s.chassis.msize s.regions s.regionRequest).isSome = true) _ _

/-- The table after a REGION that passes or fails the check (R22). -/
theorem State.doRegion_regions : s.doRegion.regions =
    (regionCheck s.chassis.msize s.regions s.regionRequest).elim s.regions
      fun r => s.regions.set s.regionRequest.index.toNat r s.regionRequest.index.isLt := by
  unfold State.doRegion
  split <;> simp_all

/-- A REGION moves the table and nothing else (R171). -/
theorem State.obey_region_eq (o : DirOutcome) : s.obey .region o = { s with regions := (s.obey .region o).regions } := by
  unfold State.obey
  split
  · show s.doRegion = { s with regions := s.doRegion.regions }
    unfold State.doRegion
    split <;> rfl
  · rfl

/-- A REGION in IDLE leaves everything but the table, the path, the feed's offers, the directive unit, the notices and the report. -/
theorem exec_region (live : s.live = true) (idle : s.session.state = .idle) :
    ∃ t, exec (.region s.directive.expected) s = .next t
      ∧ t.regions = (s.obey .region (s.judge DirKind.region.code)).regions
      ∧ t.directive.last.outcome = s.judge DirKind.region.code
      ∧ t.settings = s.settings ∧ t.session = s.session ∧ t.map = s.map ∧ t.walker = s.walker ∧ t.link = s.link ∧ t.take = s.take
      ∧ t.faults = s.faults ∧ t.chassis = s.chassis ∧ t.freeze = s.freeze ∧ t.out = Out.none := by
  have table (n code : Byte) (o' o : DirOutcome) :
      ((s.fresh.recordDirective n code o').obey .region o).regions = (s.obey .region o).regions := by
    unfold State.obey
    split
    · show (State.doRegion _).regions = s.doRegion.regions
      rw [State.doRegion_regions, State.doRegion_regions]
      rfl
    · rfl
  refine ⟨_, exec_command_expected s .region live, ?_⟩
  rw [State.obey_region_eq, table, State.finishDirective_eq]
  rw [State.settle_session, State.settle_freeze]
  · simp [State.recordDirective]
  · exact .inr ⟨by simp [State.recordDirective, idle], by simp [State.recordDirective, idle]⟩
  · exact .inr ⟨by simp [State.recordDirective, idle], by simp [State.recordDirective, idle]⟩

/-- Settles O31. -/
theorem regionRewritesItsEntry : Obligations.RegionRewritesItsEntry := by
  intro s live idle f fits
  obtain ⟨t, ht, table, outcome, rest⟩ := exec_region s live idle
  have judged := s.judge_region idle
  have refused (hnone : regionCheck s.chassis.msize s.regions f = none) :
      t.regions = s.regions ∧ t.directive.last.outcome = .refusedValue := by
    have value : s.judge DirKind.region.code = .refusedValue := by rw [judged, hnone]; rfl
    exact ⟨by simp [table, value, State.obey], outcome.trans value⟩
  have done (r : Region) (hsome : regionCheck s.chassis.msize s.regions f = some r) :
      t.regions = s.regions.set f.index.toNat r ∧ t.directive.last.outcome = .done := by
    have value : s.judge DirKind.region.code = .done := by rw [judged, hsome]; rfl
    refine ⟨?_, outcome.trans value⟩
    rw [table, value]
    show s.doRegion.regions = _
    rw [State.doRegion_regions, hsome]
    rfl
  refine ⟨t, ht, fun j hj => ?_, fun j hj => ⟨fun empty => ?_, fun nonempty hfits => ?_, fun nonempty misfit => ?_⟩, ?_⟩
  · rcases hcheck : regionCheck s.chassis.msize s.regions f with _ | r
    · rw [(refused hcheck).1]
    · simp [(done r hcheck).1, Vector.getElem_set_ne _ _ (Ne.symm hj)]
  · obtain ⟨written, isDone⟩ := done _ (regionCheck_of_empty empty)
    exact ⟨by simp [written, hj], isDone⟩
  · obtain ⟨c, hcode, hcheck⟩ := regionCheck_of_fits nonempty hfits
    obtain ⟨written, isDone⟩ := done _ hcheck
    simp [written, hj, hcode, isDone]
  · obtain ⟨unmoved, isRefused⟩ := refused (regionCheck_of_not_fits nonempty misfit)
    exact ⟨by rw [unmoved], isRefused⟩
  · obtain ⟨settings, session, map, walker, link, take, faults, chassis, freeze, out⟩ := rest
    exact ⟨settings, session, map, walker, link, take, faults, chassis, by rw [freeze], out⟩

/-! ### FEED -/

/-- FEED in IDLE with a session id and a tracked segment is done (R169, R172). -/
theorem State.judge_feed (idle : s.session.state = .idle) (id : feedSession (s.directive.word 1) ≠ 0) (tracked : trackedTotal s.regions ≠ 0) :
    s.judge DirKind.feed.code = .done := by
  rw [State.judge_code]
  have value : s.dirValue .feed = true := (s.dirValue_iff .feed).2 ⟨nofun, fun _ => ⟨id, tracked⟩⟩
  simp [State.dirAllowed, value, idle]

/-- No write is counted at the end of a command outside a pass (R113). -/
theorem State.settle_review_w_of_not_running (h : s.passRunning = false) : s.settle.review.w = s.review.w := by
  have admission (u : State) (w : WriteReq) (hu : u.passRunning = false) : (u.admitWrite w).review.w = u.review.w := by
    unfold State.admitWrite; split <;> simp [hu]
  have held : s.examineHeld.review.w = s.review.w := by
    unfold State.examineHeld State.examineWrite State.writeCandidate
    (repeat' split) <;> first | rfl | exact admission s _ h
  simp [State.settle, held]

/-- What FEED in IDLE writes: map, link, the feed's figures, fault records, review unit and session record start anew, and the STATE notice
is raised (R147). -/
theorem State.doFeed_eq : s.doFeed = { s with
    map := .start s.regions
    link := s.link.start
    feed := { s.feed with rewound := none, instepWaiting := false, peerFail := 0, peerState := none, rewinds := 0 }
    faults := .reset
    review := .reset
    session := { s.session with role := .feed, id := feedSession (s.directive.word 1), handoverPending := false, stalePending := false,
                                retiredStep := .stale, resumeKind := .fresh, hold := none, state := .bringup }
    notices := s.doFeed.notices
    signals := s.doFeed.signals } := by
  unfold State.doFeed State.setState
  dsimp only
  split
  · next h => rw [← h]; rfl
  · rfl

theorem State.doFeed_notice (h : s.session.state = .idle) : s.doFeed.notices.state.pending = true :=
  State.setState_notice _ _ (by simp [h])

/-- A command that ends in BRINGUP, no INSTEP waiting, leaves session record, feed, overlay and write count. -/
theorem State.settle_of_bringup (h : s.session.state = .bringup) (waiting : s.feed.instepWaiting = false) :
    s.settle.session = s.session ∧ s.settle.feed = s.feed ∧ s.settle.freeze = s.freeze ∧ s.settle.review.w = s.review.w :=
  ⟨State.settle_session s (.inr (by simp [h])), State.settle_feed s (by simp [h]) (by simp [h]) waiting,
    State.settle_freeze s (.inr (by simp [h])), State.settle_review_w_of_not_running s (by simp [State.passRunning, h])⟩

/-- Settles O32. -/
theorem feedStartsASession : Obligations.FeedStartsASession := by
  intro s live idle id tracked
  refine ⟨_, exec_command_expected s .feed live, ?_⟩
  rw [s.judge_feed idle id tracked, State.finishDirective_eq]
  have obeyed : (s.fresh.recordDirective s.directive.expected DirKind.feed.code .done).obey .feed .done
      = (s.fresh.recordDirective s.directive.expected DirKind.feed.code .done).doFeed := rfl
  have pending : ((s.fresh.recordDirective s.directive.expected DirKind.feed.code .done).doFeed.finishDirective .feed).notices.state.pending
      = true := State.doFeed_notice (s.fresh.recordDirective s.directive.expected DirKind.feed.code .done) idle
  rw [obeyed]
  generalize State.signals (State.finishDirective _ _) = g
  generalize State.notices (State.finishDirective _ _) = n at pending ⊢
  rw [State.doFeed_eq]
  generalize hu : (State.mk _ _ _ _ _ _ _ _ _ _ _ _ _ _ _ _ _ _ _) = u
  have state : u.session.state = .bringup := by rw [← hu]
  have waiting : u.feed.instepWaiting = false := by rw [← hu]
  obtain ⟨session, feed, freeze, w⟩ := State.settle_of_bringup u state waiting
  have lastAdmitted (h : ∀ w, s.path.maint ≠ .held w) : u.settle.review.lastAdmitted = none := by
    rw [State.settle_review_of_not_held u (by rw [← hu]; exact h), ← hu]
    rfl
  simp only [session, feed, freeze, w, State.settle_directive, State.settle_faults, State.settle_map, State.settle_link,
    State.settle_review_record, State.settle_review_dPrev, State.settle_review_passNumber, State.settle_review_t, State.settle_review_c,
    State.settle_review_throttle, State.settle_notices, State.settle_regions, State.settle_settings, State.settle_walker,
    State.settle_take, State.settle_chassis, State.settle_out]
  subst hu
  exact ⟨rfl, rfl, rfl, rfl, rfl, rfl, rfl, rfl, rfl, rfl, rfl, rfl, rfl, rfl, rfl, rfl, rfl, rfl, rfl, rfl, rfl, rfl, rfl, rfl, rfl,
    lastAdmitted, rfl, rfl, rfl, rfl, rfl, pending, rfl, rfl, rfl, rfl, rfl, rfl, rfl⟩

end Sys2Proof.Machine
end

section
/-! PROOFS. The ends of a feed session (O35). -/

namespace Sys2Proof.Machine

open Sys2Proof

variable {s u : State}

/-- A command whose meaning is a live event answers with its effect, settled. -/
theorem exec_of_effect {c : Instr} {f : State → State} (meaning : exec c s = .next (s.liveEvent f)) (live : s.live = true)
    (effect : f s.fresh = u) : exec c s = .next u.settle := by
  rw [meaning, State.liveEvent_of_live _ _ live, effect]

/-! ### Faults -/

/-- A fault recorded over the fault records of `s`, and kept to the end, is the fault that was added (R146). -/
theorem faultAdded_of_recordFault {t : State} {f : SessFault} (before : u.faults = s.faults) (faults : t.faults = (u.recordFault f).faults)
    (notice : t.notices.fault = (u.recordFault f).notices.fault) : faultAdded f s t := by
  unfold faultAdded
  rw [faults, notice]
  refine ⟨?_, ?_, ?_, ?_, ?_⟩ <;> simp only [State.recordFault, State.raise, State.requestReport, before]
  · cases s.faults.first <;> rfl
  · rfl

/-! ### What a feed session's end keeps -/

/-- `u` holds what the end of the feed session of `s` keeps or looks at, and nothing has been sent yet. -/
structure FeedKept (s u : State) : Prop where
  role : u.session.role = .feed
  id : u.session.id = s.session.id
  lockout : u.session.lockout = s.session.lockout
  drift : u.map.drift = s.map.drift
  overflow : u.map.overflow = s.map.overflow
  entries : (u.freeze.entries.map fun e => { e with flushing := true }) = s.freeze.entries.map fun e => { e with flushing := true }
  passNumber : u.review.passNumber = s.review.passNumber
  link : u.link.state = s.link.state
  out : u.out.link = []
  regions : u.regions = s.regions
  settings : u.settings = s.settings

namespace FeedKept

theorem fresh (h : s.inFeed = true) : FeedKept s s.fresh :=
  ⟨(s.inFeed_iff.1 h).1, rfl, rfl, rfl, rfl, rfl, rfl, rfl, rfl, rfl, rfl⟩

theorem recordDirective (h : FeedKept s u) (n code : Byte) (o : DirOutcome) : FeedKept s (u.recordDirective n code o) :=
  ⟨h.role, h.id, h.lockout, h.drift, h.overflow, h.entries, h.passNumber, h.link, h.out, h.regions, h.settings⟩

theorem recordFault (h : FeedKept s u) (f : SessFault) : FeedKept s (u.recordFault f) :=
  ⟨h.role, h.id, h.lockout, h.drift, h.overflow, h.entries, h.passNumber, h.link, h.out, h.regions, h.settings⟩

theorem heard (h : FeedKept s u) : FeedKept s u.heard := by
  unfold State.heard
  split
  · exact ⟨h.role, h.id, h.lockout, h.drift, h.overflow, h.entries, h.passNumber, h.link, h.out, h.regions, h.settings⟩
  · exact h

theorem advance (h : FeedKept s u) (n : Nat) : FeedKept s (u.advance n) := by
  have same : (u.advance n).session.id = u.session.id ∧ (u.advance n).session.lockout = u.session.lockout
      ∧ (u.advance n).link.state = u.link.state := by
    unfold State.advance
    (repeat' split) <;> exact ⟨rfl, rfl, rfl⟩
  obtain ⟨id, lockout, link⟩ := same
  exact ⟨by simp [h.role], id.trans h.id, lockout.trans h.lockout, by simp [h.drift], by simp [h.overflow], by simp [h.entries],
    by simp [h.passNumber], link.trans h.link, by simp [h.out], by simp [h.regions], by simp [h.settings]⟩

end FeedKept

/-! ### A feed session's end, block by block (R157) -/

theorem State.endFeed_session (close : Option CloseReason) (s : State) : (s.endFeed close).session =
    { s.session with state := .idle, hold := none, handoverPending := false, stalePending := false } := by
  simp [State.endFeed, State.setState_session]

theorem State.endFeed_map (close : Option CloseReason) (s : State) : (s.endFeed close).map = { s.map with cells := [] } := by
  simp [State.endFeed, State.clearMap]

theorem State.endFeed_freeze (close : Option CloseReason) (s : State) : (s.endFeed close).freeze =
    { entries := s.freeze.entries.map fun e => { e with flushing := true }, timer := none } := by
  simp [State.endFeed, State.beginFlush]

theorem State.endFeed_link (close : Option CloseReason) (s : State) :
    (s.endFeed close).link.state = .off ∧ (s.endFeed close).link.numbering = false ∧ (s.endFeed close).link.bringup = none := by
  simp [State.endFeed, State.closeLink, Link.enterOff]

theorem State.endFeed_emptied (close : Option CloseReason) (s : State) :
    (s.endFeed close).walker.buf0 = none ∧ (s.endFeed close).walker.buf1 = none
      ∧ (s.endFeed close).feed.queue = [] ∧ (s.endFeed close).feed.window = [] ∧ (s.endFeed close).feed.instepWaiting = false
      ∧ (s.endFeed close).feed.rewound = none := by
  simp [State.endFeed, State.closeLink, State.dropBuffers, State.emptyQueues]

theorem State.endFeed_throttle (close : Option CloseReason) (s : State) : (s.endFeed close).review.throttle = 0 := by
  simp [State.endFeed, State.setThrottle]

/-- A feed session's end raises no notice but STATE. -/
theorem State.endFeed_notice (close : Option CloseReason) (s : State) : (s.endFeed close).notices.fault = s.notices.fault := by
  have kept := fun u : State => u.setState_notices .idle .fault (by decide)
  refine (kept _).trans ?_
  simp [Notices.get, State.beginFlush]

/-- Where a feed session ends with this CLOSE, the command's end leaves it ended, whatever notice it raised behind (R157). -/
theorem FeedKept.ended (h : FeedKept s u) (close : Option CloseReason) (n : Notices) (g : Signals) :
    feedEnded close s (State.settle { u.endFeed close with notices := n, signals := g }) := by
  generalize hv : ({ u.endFeed close with notices := n, signals := g } : State) = v
  have session : v.session = (u.endFeed close).session := by rw [← hv]
  rw [State.endFeed_session] at session
  obtain ⟨buf0, buf1, queue, window, waiting, rewound⟩ := State.endFeed_emptied close u
  obtain ⟨off, numbering, bringup⟩ := State.endFeed_link close u
  have freeze := State.endFeed_freeze close u
  have map := State.endFeed_map close u
  have out := State.endFeed_out_link u close
  have throttle := State.endFeed_throttle close u
  have idle : v.session.state = .idle := by rw [session]
  have feed : v.settle.feed = v.feed := v.settle_feed (by simp [idle]) (by simp [idle]) (by rw [← hv]; exact waiting)
  have overlay : v.settle.freeze = v.freeze := v.settle_freeze (.inr (by simp [idle]))
  have record : v.settle.session = v.session := v.settle_session (.inr (by simp [idle]))
  simp only [feedEnded, feed, overlay, record, session, State.settle_map, State.settle_walker, State.settle_review_throttle,
    State.settle_review_passNumber, State.settle_link, State.settle_out, State.settle_regions, State.settle_settings]
  subst hv
  refine ⟨trivial, h.role, h.id, trivial, trivial, trivial, h.lockout, ?_, buf0, buf1, queue, window, waiting, rewound, ?_, throttle, ?_, off, numbering,
    bringup, ?_, ?_, ?_⟩
  · simp [map, h.drift, h.overflow]
  · simp [freeze, h.entries]
  · simp [h.passNumber]
  · rw [out, h.out, h.link, closeSent, List.nil_append]
  · simp [h.regions]
  · simp [h.settings]

/-- Where a feed session ends with this CLOSE and this fault, the command's end leaves it ended and the fault added. -/
theorem FeedKept.ended_with_fault (h : FeedKept s u) (faults : u.faults = s.faults) (close : Option CloseReason) (f : SessFault) :
    feedEnded close s ((u.recordFault f).endFeed close).settle ∧ faultAdded f s ((u.recordFault f).endFeed close).settle := by
  refine ⟨(h.recordFault f).ended close _ _, faultAdded_of_recordFault faults (by simp) ?_⟩
  rw [State.settle_notices, State.endFeed_notice]

/-- Where a feed session ends with this CLOSE and no fault, the fault records stay. -/
theorem FeedKept.ended_without_fault (h : FeedKept s u) (faults : u.faults = s.faults) (close : Option CloseReason) (n : Notices)
    (g : Signals) : feedEnded close s (State.settle { u.endFeed close with notices := n, signals := g })
      ∧ (State.settle { u.endFeed close with notices := n, signals := g }).faults = s.faults :=
  ⟨h.ended close n g, by simp [faults]⟩

theorem FeedKept.ended_plainly (h : FeedKept s u) (faults : u.faults = s.faults) (close : Option CloseReason) :
    feedEnded close s (u.endFeed close).settle ∧ (u.endFeed close).settle.faults = s.faults :=
  h.ended_without_fault faults close (u.endFeed close).notices (u.endFeed close).signals

/-! ### The seven ends -/

/-- Settles O35. -/
theorem feedSessionEnds : Obligations.FeedSessionEnds := by
  intro s live feed
  have kept := FeedKept.fresh feed
  have active : s.session.state ≠ .idle := (s.inFeed_iff.1 feed).2
  refine ⟨fun steady => ?_, ?_, fun r hr up => ?_, fun handover timer => ?_, fun suspended hold => ?_, fun bringup => ?_,
    fun lane slot link other => ?_⟩
  · have judged : s.judge DirKind.release.code = .done := by
      rw [State.judge_code]; simp [State.dirAllowed, State.dirValue, feed, steady]
    refine ⟨_, exec_command_expected s .release live, ?_⟩
    rw [judged, State.finishDirective_eq]
    exact (kept.recordDirective _ _ _).ended_without_fault rfl _ _ _
  · have judged : s.judge DirKind.abort.code = .done := by
      rw [State.judge_code]; simp [State.dirAllowed, State.dirValue, feed]
    refine ⟨_, exec_command_expected s .abort live, ?_⟩
    have obeyed (n code : Byte) : (s.fresh.recordDirective n code .done).obey .abort .done
        = (s.fresh.recordDirective n code .done).endFeed (some .aborted) := if_pos feed
    rw [judged, State.finishDirective_eq, obeyed]
    exact (kept.recordDirective _ _ _).ended_without_fault rfl _ _ _
  · have arrives : s.fresh.closeArrives r = State.closeAtFeed r s.fresh.heard := by
      have reason : takeReason r = true := by rcases hr with rfl | rfl | rfl | rfl <;> rfl
      simp [State.closeArrives, State.handled, up, feed, reason]
    have kept' := kept.heard
    refine ⟨_, exec_of_effect rfl live arrives, ?_⟩
    have faults : s.fresh.heard.faults = s.faults := by simp
    unfold State.closeAtFeed
    by_cases adopted : r = .adopted
    · rw [if_pos adopted]
      obtain ⟨ended, unmoved⟩ := kept'.ended_plainly faults none
      exact ⟨ended, fun _ => unmoved, fun h => absurd adopted h⟩
    · rw [if_neg adopted]
      obtain ⟨ended, added⟩ := kept'.ended_with_fault faults none .closedByPeer
      exact ⟨ended, fun h => absurd h adopted, fun _ => added⟩
  · obtain ⟨k, running⟩ := Option.ne_none_iff_exists'.1 timer
    have expired : s.fresh.handoverExpired
        = ((s.fresh.advance (s.settings.freezeTicks - k)).recordFault .freezeOverrun).endFeed (some .incomplete) := by
      simp [State.handoverExpired, feed, handover, running]
    exact ⟨_, exec_of_effect rfl live expired, (kept.advance _).ended_with_fault (by simp) _ _⟩
  · obtain ⟨k, running⟩ := Option.ne_none_iff_exists'.1 hold
    have expired : s.fresh.feedHoldExpired
        = ((s.fresh.advance (s.settings.holdTicks - k)).recordFault .linkLost).endFeed none := by
      simp [State.feedHoldExpired, feed, suspended, running]
    exact ⟨_, exec_of_effect rfl live expired, (kept.advance _).ended_with_fault (by simp) _ _⟩
  · obtain ⟨k, running⟩ := Option.ne_none_iff_exists'.1 bringup
    have later : ((s.fresh.advance (s.settings.bringupTicks - k)).recordFault .bringupTimeout).inFeed = true := by
      simpa [State.inFeed] using feed
    have expired : s.fresh.bringupExpired
        = ((s.fresh.advance (s.settings.bringupTicks - k)).recordFault .bringupTimeout).endFeed none := by
      simp [State.bringupExpired, running, State.endSession, later]
    exact ⟨_, exec_of_effect rfl live expired, (kept.advance _).ended_with_fault (by simp) _ _⟩
  · have clash : s.fresh.trainArrives lane .feed slot = (s.fresh.recordFault .roleClash).endFeed none := by
      have feed' : (s.fresh.recordFault .roleClash).inFeed = true := feed
      simp [State.trainArrives, link, other, feed, State.linkRole, s.inTake_of_inFeed feed, State.endSession, feed']
    exact ⟨_, exec_of_effect rfl live clash, kept.ended_with_fault rfl _ _⟩

end Sys2Proof.Machine
end

section
/-! PROOFS. A link loss at the feed (O45). -/

namespace Sys2Proof.Machine

open Sys2Proof

variable (s : State)

/-! ### The map after a link loss (R39) -/

/-- The state a segment has after a link loss, from what stood for it: a buffer in use, a withdrawn record, a withdrawn SEG frame, an overlay
entry (R35, R38, R39, R40). -/
def lostState (inBuf record seg entry : Bool) (x : SegState) : SegState :=
  let dropped := if inBuf then openToDirty x else x
  let sent := if record then sentToDirty dropped else if seg then inflightToDirty dropped else dropped
  if entry then flushToDirty sent else sent

/-- What stood for a segment makes it DIRTY. -/
def lossDirties (inBuf record seg entry : Bool) (x : SegState) : Bool :=
  (x == .inflight && (seg || record || entry)) || (x == .clean && (record || entry)) || (x == .opened && (inBuf || entry))

theorem lostState_eq (inBuf record seg entry : Bool) (x : SegState) :
    lostState inBuf record seg entry x = if lossDirties inBuf record seg entry x then .dirty else x := by
  revert inBuf record seg entry
  cases x <;> decide

/-- The segment is that of a buffer in use. -/
def Walker.holds (w : Walker) (n : Segment) : Bool := w.buf0.any (fun b => b.segment == n) || w.buf1.any fun b => b.segment == n

/-- The overlay holds an entry in the segment. -/
def Freeze.holds (f : Freeze) (n : Segment) : Bool := f.entries.any fun e => segmentOf e.addr == n

theorem State.reopen_get (b : Option Buffer) (n : Segment) :
    (s.reopen b).map.get n = if b.any (fun b => b.segment == n) then openToDirty (s.map.get n) else s.map.get n := by
  cases b with
  | none => rfl
  | some b =>
    rw [State.reopen, State.changeSeg_get _ _ _ _ rfl]
    by_cases h : n = b.segment
    · simp [h]
    · simp [h, Ne.symm h]

/-- The frames that a link loss withdraws: the window's and the queue's, oldest first (R39). -/
def State.frames (s : State) : List SeqFrame := s.feed.window.map Prod.snd ++ s.feed.queue

/-- Each segment's state after a link loss (R39). -/
theorem State.loseFrames_get (n : Segment) : s.loseFrames.map.get n =
    lostState (s.walker.holds n) (hasRecord s.frames n) (hasSeg s.frames n) (s.freeze.holds n) (s.map.get n) := by
  have reopened : OnlyCells s ((s.reopen s.walker.buf0).reopen s.walker.buf1) :=
    (OnlyCells.reopen s _).trans (.reopen _ _)
  generalize hu : (s.reopen s.walker.buf0).reopen s.walker.buf1 = u at reopened
  have opened : u.map.get n = if s.walker.holds n then openToDirty (s.map.get n) else s.map.get n := by
    rw [← hu, State.reopen_get, State.reopen_get, Walker.holds]
    cases Option.any (fun b => b.segment == n) s.walker.buf0 <;> cases Option.any (fun b => b.segment == n) s.walker.buf1 <;>
      cases s.map.get n <;> rfl
  have frames : u.frames = s.frames := by rw [reopened]; rfl
  have withdrawn := OnlyCells.withdrawAll u.dropBuffers.emptyQueues u.frames []
  have sent : (u.dropBuffers.emptyQueues.withdrawAll u.frames []).map.get n =
      if hasRecord s.frames n then sentToDirty (u.map.get n)
      else if hasSeg s.frames n then inflightToDirty (u.map.get n) else u.map.get n := by
    rw [State.withdrawAll_get, frames]
    simp [hasSeg]
  have entries : (u.dropBuffers.emptyQueues.withdrawAll u.frames []).freeze.entries = s.freeze.entries := by
    rw [withdrawn, reopened]; rfl
  have flushed (v : State) : v.flushContinuing.map.get n = if v.freeze.holds n then flushToDirty (v.map.get n) else v.map.get n :=
    State.foldl_changeSeg_get (fun e : OverlayEntry => segmentOf e.addr) flushToDirty rfl (by intro x; cases x <;> rfl) _ v n
  have parts : s.loseFrames = (u.dropBuffers.emptyQueues.withdrawAll u.frames []).flushContinuing := by rw [← hu]; rfl
  rw [parts, flushed, sent, opened, Freeze.holds, entries]
  rfl

/-! ### The session after a link loss (R152) -/

theorem State.suspendByState_of_not (h : lossSuspends s.session.state = false) : s.suspendByState = s := by
  simp [State.suspendByState, h]

theorem State.suspendByState_of_suspends (h : lossSuspends s.session.state = true) :
    s.suspendByState.freeze.timer = none ∧ s.suspendByState.session = { s.session with
      state := .suspended, handoverPending := s.session.handoverPending || s.session.state == .handover, stalePending := false,
      retiredStep := .stale, resumeKind := if s.session.state = .install then .fresh else .resume, hold := some 0 } := by
  simp only [State.suspendByState, h, if_true, State.suspend, State.setState_freeze, State.setState_session, true_and]
  congr 1
  by_cases handover : s.session.state = .handover <;> simp [handover]

theorem lossSuspends_iff (st : SessState) (h : feedState st = true) : lossSuspends st = true ↔ st ≠ .bringup ∧ st ≠ .suspended := by
  revert h
  cases st <;> decide

/-- A link loss at a feed raises no notice but STATE (R152). -/
theorem State.loseLinkFeed_notice (k : NoticeKind) (h : k ≠ .state) : s.loseLinkFeed.notices.get k = s.notices.get k := by
  rw [State.loseLinkFeed_eq]
  unfold State.suspendByState
  split
  · unfold State.suspend
    rw [State.setState_notices _ _ _ h]
    simp [State.lostLink]
  · simp [State.lostLink]

/-- A link loss at a feed block by block, but for session, freeze timer, notices and signals (R39, R68). -/
theorem State.loseLinkFeed_eq_blocks : s.loseLinkFeed = { s with
    map := s.loseFrames.map
    walker := { s.walker with buf0 := none, buf1 := none }
    freeze := { entries := s.freeze.entries.map fun e => { e with flushing := true }, timer := s.loseLinkFeed.freeze.timer }
    feed := { s.feed with queue := [], window := [], instepWaiting := false, rewound := none, sentTotal := 0, freedTotal := 0 }
    link := s.link.enterTraining
    take := s.take.inactive
    session := s.loseLinkFeed.session, notices := s.loseLinkFeed.notices, signals := s.loseLinkFeed.signals } := by
  have lost : s.lostLink = { s with
      map := s.loseFrames.map
      walker := { s.walker with buf0 := none, buf1 := none }
      freeze := { s.freeze with entries := s.freeze.entries.map fun e => { e with flushing := true } }
      feed := { s.feed with queue := [], window := [], instepWaiting := false, rewound := none, sentTotal := 0, freedTotal := 0 }
      link := s.link.enterTraining
      take := s.take.inactive
      signals := s.lostLink.signals } := by
    unfold State.lostLink State.retrain
    rw [State.loseFrames_eq]
  rw [State.loseLinkFeed_eq, State.suspendByState_eq, lost]

/-- The session after a link loss at a feed in one of its states (R152). -/
theorem State.loseLinkFeed_session (h : feedState s.session.state = true) :
    (s.session.state = .bringup ∨ s.session.state = .suspended → s.loseLinkFeed.session = s.session)
      ∧ (s.session.state ≠ .bringup → s.session.state ≠ .suspended →
          s.loseLinkFeed.freeze.timer = none ∧ s.loseLinkFeed.session = { s.session with
            state := .suspended, handoverPending := s.session.handoverPending || s.session.state == .handover, stalePending := false,
            retiredStep := .stale, resumeKind := if s.session.state = .install then .fresh else .resume, hold := some 0 }) := by
  have same : s.lostLink.session = s.session := s.loseFrames_session
  have suspends := lossSuspends_iff _ h
  rw [State.loseLinkFeed_eq]
  constructor
  · intro stays
    rw [State.suspendByState_of_not _ (by rw [same, ← Bool.not_eq_true, suspends]; tauto), same]
  · intro notBringup notSuspended
    have parts := State.suspendByState_of_suspends s.lostLink (by rw [same]; exact suspends.2 ⟨notBringup, notSuspended⟩)
    rwa [same] at parts

/-! ### The command -/

/-- `v` is `s` as a link loss finds it: time may have passed, nothing that the loss looks at has moved. -/
structure LossReady (s v : State) : Prop where
  map : v.map = s.map
  feed : v.feed = s.feed
  walker : v.walker = s.walker
  entries : v.freeze.entries = s.freeze.entries
  state : v.session.state = s.session.state
  handoverPending : v.session.handoverPending = s.session.handoverPending
  faults : v.faults = s.faults
  regions : v.regions = s.regions
  throttle : v.review.throttle = s.review.throttle

theorem LossReady.advance (n : Nat) : LossReady s (s.fresh.advance n) := by
  have pending : (s.fresh.advance n).session.handoverPending = s.session.handoverPending := by
    unfold State.advance
    (repeat' split) <;> rfl
  exact ⟨by simp, by simp, by simp, by simp, by simp, pending, by simp, by simp, by simp⟩

/-- Time that passes leaves an UP link UP. -/
theorem State.advance_link_state (n : Nat) : (s.advance n).link.state = s.link.state := by
  unfold State.advance
  (repeat' split) <;> rfl

/-- A silence timeout and a fall of the filtered PEER_PRESENT level make a feed with an UP link lose it (R67, R68, R145). -/
theorem exec_loss (c : Instr) (live : s.live = true) (feed : s.inFeed = true) (up : s.link.state = .up)
    (h : c = .silenceTimeout ∨ (c = .peerPresentFiltered ∧ s.chassis.peerRaw = false ∧ s.chassis.peerFiltered = true)) :
    ∃ v, exec c s = .next v.loseLinkFeed.settle ∧ LossReady s v
      ∧ (c = .peerPresentFiltered → v.chassis.peerFiltered = false ∧ v.notices.line.pending = true) := by
  have lost (v : State) (hv : v.inFeed = true) (hup : v.link.state = .up) : v.loseLink = v.loseLinkFeed := by
    simp [State.loseLink, hv, hup]
  have inFeed (n : Nat) : (s.fresh.advance n).inFeed = true := by simpa [State.inFeed] using feed
  have linkUp (n : Nat) : (s.fresh.advance n).link.state = .up := (State.advance_link_state _ n).trans up
  rcases h with rfl | ⟨rfl, raw, filtered⟩
  · refine ⟨_, exec_of_effect rfl live ((if_pos up).trans (lost _ (inFeed _) (linkUp _))), LossReady.advance s _, nofun⟩
  · have chassis (n : Nat) : (s.fresh.advance n).chassis.peerRaw = false := by
      unfold State.advance
      (repeat' split) <;> exact raw
    have ready (n : Nat) := LossReady.advance s n
    generalize hn : s.settings.filterTicks - s.chassis.peerHeld = n
    let v : State := { (s.fresh.advance n).raise .line with
      chassis := { (s.fresh.advance n).chassis with peerFiltered := (s.fresh.advance n).chassis.peerRaw, peerHeld := 0 } }
    have effect : s.fresh.peerHeldOut = v.loseLinkFeed := by
      have fell : s.fresh.peerHeldOut = (s.fresh.advance n).filterPeer := by
        simp [State.peerHeldOut, raw, filtered, hn]
      have falls : (s.fresh.advance n).filterPeer = v.loseLink := by simp [State.filterPeer, chassis, v]
      rw [fell, falls, lost v (inFeed n) (linkUp n)]
    refine ⟨v, exec_of_effect rfl live effect, ?_, fun _ => ⟨chassis n, rfl⟩⟩
    exact { ready n with }

/-- Settles O45. -/
theorem linkLossAtTheFeed : Obligations.LinkLossAtTheFeed := by
  intro c s live feed up legal command frames entry inBuf
  obtain ⟨v, run, ready, line⟩ := exec_loss s c live feed up command
  have blocks := v.loseLinkFeed_eq_blocks
  obtain ⟨stays, suspends⟩ := v.loseLinkFeed_session (by rw [ready.state]; exact legal)
  have notice := v.loseLinkFeed_notice .line (by decide)
  rw [ready.state] at stays suspends
  generalize hw : v.loseLinkFeed = w at *
  have ended : w.session.state = .bringup ∨ w.session.state = .suspended := by
    by_cases h : s.session.state = .bringup ∨ s.session.state = .suspended
    · rw [stays h, ready.state]; exact h
    · rw [not_or] at h
      rw [(suspends h.1 h.2).2]; exact .inr rfl
  have calm : w.session.state ≠ .steady ∧ w.session.state ≠ .handover ∧ w.session.state ≠ .freeze ∧ w.session.state ≠ .replay := by
    rcases ended with h | h <;> simp [h]
  obtain ⟨notSteady, notHandover, notFreeze, notReplay⟩ := calm
  have session := w.settle_session (.inr ⟨notSteady, notHandover⟩)
  have overlay := w.settle_freeze (.inr ⟨notFreeze, notReplay⟩)
  have queues := w.settle_feed notSteady notHandover (by rw [blocks])
  have cells (n : Segment) : w.map.get n =
      lostState (s.walker.holds n) (hasRecord frames n) (hasSeg frames n) (s.freeze.holds n) (s.map.get n) := by
    have lost := v.loseFrames_get n
    simp only [State.frames, Freeze.holds, ready.map, ready.feed, ready.walker, ready.entries] at lost
    rw [blocks]
    exact lost
  have dirties (n : Segment) : lossDirties (s.walker.holds n) (hasRecord frames n) (hasSeg frames n) (s.freeze.holds n) (s.map.get n) = true
      ↔ (s.map.get n = .inflight ∧ (hasSeg frames n = true ∨ hasRecord frames n = true ∨ entry n))
          ∨ (s.map.get n = .clean ∧ (hasRecord frames n = true ∨ entry n)) ∨ (s.map.get n = .opened ∧ (inBuf n ∨ entry n)) := by
    have inEntry : s.freeze.holds n = true ↔ entry n := by simp [Freeze.holds, entry]
    have inBuffer : s.walker.holds n = true ↔ inBuf n := by simp [Walker.holds, inBuf, Option.any_eq_true]
    simp [lossDirties, inEntry, inBuffer, or_assoc]
  have link : w.link = v.link.enterTraining := by rw [blocks]
  have emptied : w.feed.queue = [] ∧ w.feed.window = [] ∧ w.feed.rewound = none ∧ w.feed.sentTotal = 0 ∧ w.feed.freedTotal = 0
      ∧ w.feed.instepWaiting = false ∧ w.walker.buf0 = none ∧ w.walker.buf1 = none := by
    rw [blocks]; exact ⟨rfl, rfl, rfl, rfl, rfl, rfl, rfl, rfl⟩
  obtain ⟨queue, window, rewound, sent, freed, waiting, buf0, buf1⟩ := emptied
  refine ⟨w.settle, run, ?_⟩
  rw [session, overlay, queues, State.settle_link, State.settle_walker, State.settle_map, State.settle_faults, State.settle_regions,
    State.settle_review_throttle, State.settle_chassis, State.settle_notices, link]
  refine ⟨rfl, rfl, rfl, rfl, rfl, rfl, queue, window, rewound, sent, freed, waiting, buf0, buf1, ?_, fun n h => ?_, fun n h => ?_,
    fun bringup => ?_, fun other => ?_, fun notBringup notSuspended => ?_, ?_, ?_, ?_, ?_, fun hc => ?_⟩
  · rw [blocks]; exact congrArg (List.map fun e => { e with flushing := true }) ready.entries
  · rw [cells, lostState_eq, if_pos ((dirties n).2 h)]
  · rw [cells, lostState_eq, if_neg (mt (dirties n).1 h)]
  · rw [stays (.inl bringup), ready.state, bringup]
  · by_cases suspended : s.session.state = .suspended
    · rw [stays (.inr suspended), ready.state, suspended]
    · rw [(suspends other suspended).2]
  · obtain ⟨timer, record⟩ := suspends notBringup notSuspended
    rw [record]
    exact ⟨rfl, rfl, rfl, timer, rfl⟩
  · by_cases h : s.session.state = .bringup ∨ s.session.state = .suspended
    · rw [stays h, ready.handoverPending]
      rcases h with h | h <;> simp [h]
    · rw [not_or] at h
      rw [(suspends h.1 h.2).2]
      simp [ready.handoverPending]
  · rw [blocks]; exact ready.faults
  · rw [blocks]; exact ready.regions
  · rw [blocks]; exact ready.throttle
  · obtain ⟨filtered, pending⟩ := line hc
    have raised : w.notices.line = v.notices.line := notice
    rw [raised]
    exact ⟨by rw [blocks]; exact filtered, pending⟩

end Sys2Proof.Machine
end

section
/-! PROOFS. The answers to a feed: GREET_ECHO and READY (O49). -/

namespace Sys2Proof.Machine

open Sys2Proof

variable (s : State)

/-! ### Frames that only count or are only heard -/

/-- A valid frame on an UP link is heard (R66, R67). -/
theorem State.heard_of_up (up : s.link.state = .up) :
    s.heard = { s with link := { s.link with silence := 0, confirmed := true } } := if_pos up

/-- A command that moves only link and take, and of the take neither unit's work, ends with just that. -/
theorem State.settle_link_take (settled : s.settled) (link : Link) (take : Take) (apply : take.apply = s.take.apply)
    (fill : take.fill = s.take.fill) :
    State.settle { s.fresh with link := link, take := take } = { s with link := link, take := take, out := .none } := by
  have quiet := State.settled_update settled link take s.faults s.review s.directive s.notices .none apply fill
  refine (State.settle_of_settled _ quiet).trans ?_
  rw [← settled.1]

/-- A feed with an UP link receives what its role expects (R62, R63). -/
theorem State.feedReceives_of_feed (f : State → State) (feed : s.inFeed = true) (up : s.link.state = .up) :
    s.feedReceives f = f s := by
  simp [State.feedReceives, up, feed, s.inTake_of_inFeed feed]

/-- A take with an UP link receives what its role expects (R61, R63). -/
theorem State.takeReceives_of_take (f : State → State) (take : s.inTake = true) (up : s.link.state = .up) :
    s.takeReceives f = f s := by
  simp [State.takeReceives, up, take, s.inFeed_of_inTake take]

/-- A feed counts a discarded frame and no more (R63). -/
theorem State.discardFrame_of_feed (feed : s.inFeed = true) (up : s.link.state = .up) :
    s.discardFrame = { s with link := { s.link with discarded := min 65535 (s.link.discarded + 1) } } := by
  have other : s.countDiscard.inTake = false := s.inTake_of_inFeed feed
  unfold State.discardFrame
  rw [if_neg (by simp [up])]
  dsimp only
  rw [if_neg (by simp [other])]
  rfl

/-! ### GREET_ECHO and READY -/

/-- An echo of the feed's own session on an UP link is heard and, while GREETs are repeated, is the first (R69, R71). -/
theorem State.echoArrives_own (v : Verdict) (up : s.link.state = .up) :
    s.echoArrives s.session.id v = if s.link.greeting then s.heard.firstEcho v else s.heard := by
  have greeting : s.heard.link.greeting = s.link.greeting := by rw [s.heard_of_up up]
  simp [State.echoArrives, State.handled, up, greeting]

/-- RESUMED makes every UNSENT segment DIRTY and changes no other (R27). -/
theorem State.echoResumed_get (n : Segment) :
    s.echoResumed.map.get n = if s.map.get n = .unsent then .dirty else s.map.get n := by
  have cells : s.echoResumed.map = s.stopGreeting.startNumberingFeed.unsentToDirty.map := by
    simp [State.echoResumed, State.startPass]
  rw [cells]
  exact State.unsentToDirty_get _ n

/-- Settles O49. -/
theorem echoAndReadyAtTheFeed : Obligations.EchoAndReadyAtTheFeed := by
  intro s live feed up
  have heard := s.fresh.heard_of_up up
  have echo (v : Verdict) (r : Reason) {u : State} (effect : s.fresh.echoArrives s.session.id v = u) :
      exec (.greetEchoReceived s.session.id v r) s = .next u.settle :=
    exec_of_effect rfl live ((s.fresh.feedReceives_of_feed _ feed up).trans effect)
  have first (v : Verdict) (r : Reason) (greeting : s.link.greeting = true) {u : State} (effect : s.fresh.heard.firstEcho v = u) :
      exec (.greetEchoReceived s.session.id v r) s = .next u.settle :=
    echo v r (((s.fresh.echoArrives_own v up).trans (if_pos greeting)).trans effect)
  have ready {u : State} (effect : s.fresh.heard.readyAtFeed = u) : exec .readyReceived s = .next u.settle :=
    exec_of_effect rfl live ((s.fresh.feedReceives_of_feed _ feed up).trans ((if_pos up).trans effect))
  refine ⟨fun id v r other settled => ?_, fun r greeting fresh => ?_, fun r greeting suspended resume => ?_,
    fun r greeting waiting => ?_, fun v r greeting settled => ?_, fun install => ?_, fun other settled => ?_⟩
  · have discarded : s.fresh.echoArrives id v
        = { s.fresh with link := { s.link with discarded := min 65535 (s.link.discarded + 1) } } :=
      (if_pos other).trans (s.fresh.discardFrame_of_feed feed up)
    rw [exec_of_effect rfl live ((s.fresh.feedReceives_of_feed _ feed up).trans discarded)]
    exact congrArg _ (s.settle_link_take settled _ s.take rfl rfl)
  · have effect : s.fresh.heard.firstEcho .new = s.fresh.heard.echoNew := by
      rw [heard]
      rcases fresh with state | ⟨state, kind⟩
      · simp [State.firstEcho, state]
      · simp [State.firstEcho, state, kind]
    refine ⟨_, first .new r greeting effect, ?_⟩
    rw [heard]
    simp [State.echoNew, State.stopGreeting, State.setState_session]
  · have effect : s.fresh.heard.firstEcho .resumed = s.fresh.heard.echoResumed := by
      rw [heard]
      simp [State.firstEcho, suspended, resume]
    refine ⟨_, first .resumed r greeting effect, ?_⟩
    simp only [State.settle_map, State.echoResumed_get]
    simp [State.echoResumed, State.startPass, State.startNumberingFeed, State.stopGreeting, State.setState_session]
  · have effect : s.fresh.heard.firstEcho .refused = (s.fresh.heard.recordFault .refusedByPeer).endFeed none := by
      rw [heard]
      rcases waiting with state | state <;> simp [State.firstEcho, state]
    exact ⟨_, first .refused r greeting effect, (FeedKept.fresh feed).heard.ended_with_fault (by simp) _ _⟩
  · have effect : s.fresh.echoArrives s.session.id v = s.fresh.heard :=
      (s.fresh.echoArrives_own v up).trans (if_neg (by simp [greeting]))
    rw [echo v r effect, heard]
    exact congrArg _ (s.settle_link_take settled _ s.take rfl rfl)
  · have effect : s.fresh.heard.readyAtFeed = (s.fresh.heard.startNumberingFeed.setState .sweep).startPass 1 := by
      rw [heard]
      exact if_pos install
    refine ⟨_, ready effect, ?_⟩
    rw [heard]
    simp [State.startPass, State.startNumberingFeed]
  · have effect : s.fresh.heard.readyAtFeed = s.fresh.heard := by
      rw [heard]
      exact if_neg other
    rw [ready effect, heard]
    exact congrArg _ (s.settle_link_take settled _ s.take rfl rfl)

end Sys2Proof.Machine
end

section
/-! PROOFS. ACK at the feed (O52). -/

namespace Sys2Proof.Machine

open Sys2Proof

variable (s : State)

/-! ### A link loss and a session end: what they leave of the feed's figures -/

/-- No link loss leaves a feed in STEADY or HANDOVER (R152). -/
theorem State.loseLinkFeed_calm : s.loseLinkFeed.session.state ≠ .steady ∧ s.loseLinkFeed.session.state ≠ .handover := by
  rw [State.loseLinkFeed_eq]
  cases h : lossSuspends s.lostLink.session.state with
  | false =>
    rw [State.suspendByState_of_not _ h]
    constructor <;> intro state <;> simp [state, lossSuspends] at h
  | true => rw [(State.suspendByState_of_suspends _ h).2]; exact ⟨nofun, nofun⟩

/-- A feed whose link is UP loses it (R68). -/
theorem State.loseLink_of_feed (feed : s.inFeed = true) (up : s.link.state = .up) : s.loseLink = s.loseLinkFeed := by
  simp [State.loseLink, feed, up]

/-- The link and the feed at the end of a command in which a feed has lost its link (R39, R68). -/
theorem State.settle_loseLinkFeed :
    s.loseLinkFeed.settle.link = s.link.enterTraining
      ∧ s.loseLinkFeed.settle.feed
        = { s.feed with queue := [], window := [], instepWaiting := false, rewound := none, sentTotal := 0, freedTotal := 0 } := by
  obtain ⟨notSteady, notHandover⟩ := s.loseLinkFeed_calm
  have blocks := s.loseLinkFeed_eq_blocks
  rw [State.settle_feed _ notSteady notHandover (by rw [blocks]), State.settle_link, blocks]
  exact ⟨rfl, rfl⟩

/-- A session's end leaves the peer figures (R157). -/
theorem State.endFeed_figures (close : Option CloseReason) :
    (s.endFeed close).feed.peerFail = s.feed.peerFail ∧ (s.endFeed close).feed.peerState = s.feed.peerState := by
  simp [State.endFeed, State.closeLink, State.emptyQueues, State.clearMap, State.dropBuffers, State.beginFlush]

/-! ### Retirement and the figures -/

/-- What the retirement of the window's oldest frames moves: the map's states, the window, the retired step (R37, R80). -/
theorem State.retire_eq (n : Nat) : s.retire n = { s with
    map := { s.map with cells := (s.retire n).map.cells }
    feed := { s.feed with window := s.feed.window.drop n }
    session := { s.session with retiredStep := (s.retire n).session.retiredStep }
    signals := (s.retire n).signals } := by
  have moved := OnlyRetired.retireAll ((s.feed.window.take n).map Prod.snd)
    ((s.feed.window.drop n).map Prod.snd ++ s.feed.queue) { s with feed := { s.feed with window := s.feed.window.drop n } }
  unfold OnlyRetired at moved
  exact moved

/-- Each segment's state after a retirement (R37). -/
theorem State.retire_get (n : Nat) (k : Segment) : (s.retire n).map.get k =
    if s.map.get k = .inflight ∧ hasSeg ((s.feed.window.take n).map Prod.snd) k = true
        ∧ hasSeg ((s.feed.window.drop n).map Prod.snd ++ s.feed.queue) k = false then .clean else s.map.get k := by
  unfold State.retire
  rw [State.retireAll_get]
  cases hasSeg ((s.feed.window.take n).map Prod.snd) k <;>
    cases hasSeg ((s.feed.window.drop n).map Prod.snd ++ s.feed.queue) k <;> cases s.map.get k <;> rfl

/-- What an ACK's figures move: the freed total, the peer figures, and with a changed fail total the FAULT notice (R80). -/
theorem State.keepFigures_eq (freed : BitVec 8) (fails : BitVec 16) (st : SessState) : s.keepFigures freed fails st = { s with
    feed := { s.feed with freedTotal := freed, peerFail := fails.toNat, peerState := some st }
    notices := (s.keepFigures freed fails st).notices
    signals := (s.keepFigures freed fails st).signals } := by
  unfold State.keepFigures
  dsimp only
  split <;> rfl

theorem State.keepFigures_notice (freed : BitVec 8) (fails : BitVec 16) (st : SessState) (h : s.feed.peerFail ≠ fails.toNat) :
    (s.keepFigures freed fails st).notices.fault.pending = true := by
  simp [State.keepFigures, h, State.raise, Notices.set, raised]

/-- What an ACK's retirement and figures move (R37, R80). -/
theorem State.acked_eq (n : Nat) (freed : BitVec 8) (fails : BitVec 16) (st : SessState) : (s.retire n).keepFigures freed fails st = { s with
    map := { s.map with cells := (s.retire n).map.cells }
    feed := { s.feed with window := s.feed.window.drop n, freedTotal := freed, peerFail := fails.toNat, peerState := some st }
    session := { s.session with retiredStep := (s.retire n).session.retiredStep }
    notices := ((s.retire n).keepFigures freed fails st).notices
    signals := ((s.retire n).keepFigures freed fails st).signals } :=
  ((s.retire n).keepFigures_eq freed fails st).trans (congrArg (fun u : State => { u with
    feed := { u.feed with freedTotal := freed, peerFail := fails.toNat, peerState := some st }
    notices := ((s.retire n).keepFigures freed fails st).notices
    signals := ((s.retire n).keepFigures freed fails st).signals }) (s.retire_eq n))

/-- An ACK's retirement and figures leave what the session's end looks at. -/
theorem FeedKept.acked {s u : State} (h : FeedKept s u) (n : Nat) (freed : BitVec 8) (fails : BitVec 16) (st : SessState) :
    FeedKept s ((u.retire n).keepFigures freed fails st) := by
  rw [State.acked_eq]
  exact ⟨h.role, h.id, h.lockout, h.drift, h.overflow, h.entries, h.passNumber, h.link, h.out, h.regions, h.settings⟩

/-! ### The ACK -/

/-- What an ACK does at a feed, by the case of its ack sequence (R80). -/
theorem State.ackAtFeed_of_lost (k : Option Seq) (freed : BitVec 8) (fails : BitVec 16) (st : SessState)
    (numbering : s.link.numbering = true) (case : s.feed.ackCase k = .lost) : s.ackAtFeed k freed fails st = s.loseLink := by
  rw [State.ackAtFeed, if_pos numbering, case]

theorem State.ackAtFeed_of_taken (k : Option Seq) (freed : BitVec 8) (fails : BitVec 16) (st : SessState) (n : Nat)
    (numbering : s.link.numbering = true) (case : s.feed.ackCase k = .retires n ∨ (s.feed.ackCase k = .nothing ∧ n = 0)) :
    s.ackAtFeed k freed fails st = s.takeAck n freed fails st := by
  rw [State.ackAtFeed, if_pos numbering]
  rcases case with case | ⟨case, rfl⟩ <;> rw [case]

/-- An ACK at a feed whose link is UP is heard and judged (R80). -/
theorem exec_ack (k : Option Seq) (freed : BitVec 8) (fails : BitVec 16) (st : SessState) (live : s.live = true) (feed : s.inFeed = true)
    (up : s.link.state = .up) {u : State} (effect : s.fresh.heard.ackAtFeed k freed fails st = u) :
    exec (.ackReceived k freed fails st) s = .next u.settle :=
  exec_of_effect rfl live ((s.fresh.feedReceives_of_feed _ feed up).trans ((if_pos up).trans effect))

/-- An ACK that ends a handover, overdraws the credits or does neither (R80; log 24). -/
theorem State.takeAck_cases (n : Nat) (freed : BitVec 8) (fails : BitVec 16) (st : SessState) :
    s.takeAck n freed fails st =
      if SeqFrame.handover ∈ (s.feed.window.take n).map Prod.snd then ((s.retire n).keepFigures freed fails st).endFeed (some .complete)
      else if 128 ≤ (s.feed.sentTotal - freed).toNat then ((s.retire n).keepFigures freed fails st).loseLink
      else (s.retire n).keepFigures freed fails st := by
  have done : ((s.feed.window.take n).any fun e => e.2 == .handover) = true ↔ SeqFrame.handover ∈ (s.feed.window.take n).map Prod.snd := by
    simp only [List.any_eq_true, List.mem_map, beq_iff_eq]
  have credits : ((s.retire n).keepFigures freed fails st).feed.credits = (s.feed.sentTotal - freed).toNat := by
    rw [State.acked_eq]; rfl
  simp only [State.takeAck, done, credits]

/-- Settles O52. -/
theorem ackRetiresFrames : Obligations.AckRetiresFrames := by
  intro k freed fails st s live feed up numbering oldest inWindow c
  refine ⟨fun j hk outside shown => ?_, fun n sequence => ?_⟩
  · have lost : s.feed.ackCase k = .lost := by
      simp only [hk, Feed.ackCase]
      exact (if_neg outside).trans (if_pos shown)
    have heard := s.fresh.heard_of_up up
    have trains : s.fresh.heard.loseLink = s.fresh.heard.loseLinkFeed :=
      State.loseLink_of_feed _ (by simpa [State.inFeed] using feed) (by rw [heard]; exact up)
    have effect := s.fresh.heard.ackAtFeed_of_lost k freed fails st (by rw [heard]; exact numbering) (by rw [heard]; exact lost)
    refine ⟨_, exec_ack s k freed fails st live feed up (effect.trans trains), ?_⟩
    obtain ⟨link, feed'⟩ := s.fresh.heard.settle_loseLinkFeed
    rw [link, feed']
    simp [Link.enterTraining]
  · intro gone left
    have run : exec c s = .next (s.fresh.heard.takeAck n freed fails st).settle := by
      have heard := s.fresh.heard_of_up up
      refine exec_ack s k freed fails st live feed up
        (s.fresh.heard.ackAtFeed_of_taken k freed fails st n (by rw [heard]; exact numbering) ?_)
      have same : s.fresh.heard.feed = s.feed := by simp
      rw [same]
      rcases sequence with ⟨j, rfl, inside, rfl⟩ | ⟨rfl | ⟨j, rfl, outside, older⟩, rfl⟩
      · exact .inl (if_pos inside)
      · exact .inr ⟨rfl, rfl⟩
      · exact .inr ⟨(if_neg outside).trans (if_neg (Nat.not_lt.2 older)), rfl⟩
    have cases := s.fresh.heard.takeAck_cases n freed fails st
    have sameFeed : s.fresh.heard.feed = s.feed := by simp
    have cells (m : Segment) := s.fresh.heard.retire_get n m
    have notice := (s.fresh.heard.retire n).keepFigures_notice freed fails st
    have kept := (FeedKept.fresh feed).heard.acked n freed fails st
    have acked := s.fresh.heard.acked_eq n freed fails st
    have window : (s.fresh.heard.retire n).feed.peerFail = s.feed.peerFail := by rw [State.retire_eq, sameFeed]
    have heard := s.fresh.heard_of_up up
    rw [sameFeed] at cases cells
    rw [window] at notice
    generalize hu : (s.fresh.heard.retire n).keepFigures freed fails st = u at *
    have peer : u.feed.peerFail = fails.toNat ∧ u.feed.peerState = some st := by rw [acked]; exact ⟨rfl, rfl⟩
    obtain ⟨peerFail, peerState⟩ := peer
    have feedFails : u.faults = s.faults := by rw [acked]; simp
    refine ⟨_, run, ?_⟩
    rw [cases]
    by_cases handover : SeqFrame.handover ∈ gone
    · rw [if_pos handover]
      obtain ⟨ended, faults⟩ := kept.ended_plainly feedFails (some .complete)
      obtain ⟨endFail, endState⟩ := u.endFeed_figures (some .complete)
      refine ⟨by simp [endFail, peerFail], by simp [endState, peerState], fun changed => ?_, fun _ => ⟨ended, faults⟩,
        fun h => absurd handover h, fun h => absurd handover h⟩
      rw [State.settle_notices, State.endFeed_notice]
      exact notice changed
    · rw [if_neg handover]
      have inFeed : u.inFeed = true := by
        rw [acked]; simpa [State.inFeed] using feed
      have linkUp : u.link.state = .up := kept.link.trans up
      by_cases overdrawn : 128 ≤ (s.feed.sentTotal - freed).toNat
      · rw [if_pos overdrawn, State.loseLink_of_feed u inFeed linkUp]
        obtain ⟨link, lostFeed⟩ := u.settle_loseLinkFeed
        have lineNotice := u.loseLinkFeed_notice .fault (by decide)
        rw [link, lostFeed, State.settle_notices]
        refine ⟨peerFail, peerState, fun changed => ?_, fun h => absurd h handover, fun _ _ => rfl,
          fun _ within => absurd overdrawn (Nat.not_le.2 within)⟩
        have same : u.loseLinkFeed.notices.fault = u.notices.fault := lineNotice
        rw [same]
        exact notice changed
      · rw [if_neg overdrawn]
        refine ⟨by simp [peerFail], by simp [peerState], fun changed => by simpa using notice changed, fun h => absurd h handover,
          fun _ h => absurd h overdrawn, fun _ _ => ?_⟩
        have map (m : Segment) : u.map.get m = (s.fresh.heard.retire n).map.get m := by rw [acked]; rfl
        have figures : u.feed.window = s.feed.window.drop n ∧ u.feed.freedTotal = freed ∧ u.feed.nextNumber = s.feed.nextNumber
            ∧ u.session.state = s.session.state ∧ u.link.silence = 0 ∧ u.link.confirmed = true ∧ u.walker = s.walker := by
          rw [acked, heard]; exact ⟨rfl, rfl, rfl, rfl, rfl, rfl, rfl⟩
        obtain ⟨hwindow, hfreed, hnext, hstate, hsilence, hconfirmed, hwalker⟩ := figures
        refine ⟨by simp [hwindow], by simp [hfreed], by simp [hnext], fun m => ?_, by simp [hstate], by simp [linkUp], by simp [hsilence],
          by simp [hconfirmed], by simp [hwalker], by simp [feedFails], by simp [kept.regions]⟩
        rw [State.settle_map, map, cells]
        simp only [State.heard_map, State.fresh_map]
        rfl

end Sys2Proof.Machine
end

section
/-! PROOFS. REWIND at the feed and REWOUND at the take (O53). -/

namespace Sys2Proof.Machine

open Sys2Proof

variable (s : State)

/-! ### The withdrawal of a rewind (R38, R86, R151) -/

/-- Behind a withdrawal only the queue and stale-pending move (R151). -/
theorem State.afterWithdrawal_eq (frames : List SeqFrame) : s.afterWithdrawal frames = { s with
    feed := { s.feed with queue := (s.afterWithdrawal frames).feed.queue }
    session := { s.session with stalePending := (s.afterWithdrawal frames).session.stalePending } } := by
  unfold State.afterWithdrawal State.offerStale
  (repeat' split) <;> rfl

/-- What a rewind to number `e`, place `d` of the window, moves (R38, R86). -/
theorem State.withdrawFrom_eq (d : Nat) (e : Seq) : s.withdrawFrom d e = { s with
    map := { s.map with cells := (s.withdrawFrom d e).map.cells }
    feed := { s.feed with
      queue := (s.withdrawFrom d e).feed.queue, window := s.feed.window.take d, nextNumber := e,
      sentTotal := s.feed.sentTotal - BitVec.ofNat 8 (s.feed.window.length - d), rewound := some e,
      rewinds := min 65535 (s.feed.rewinds + 1) }
    session := { s.session with stalePending := (s.withdrawFrom d e).session.stalePending }
    signals := (s.withdrawFrom d e).signals } := by
  have withdrawn := OnlyCells.withdrawAll { s with feed :=
      { s.feed with window := s.feed.window.take d, nextNumber := e,
                    sentTotal := s.feed.sentTotal - BitVec.ofNat 8 ((s.feed.window.drop d).map Prod.snd).length } }
    ((s.feed.window.drop d).map Prod.snd) ((s.feed.window.take d).map Prod.snd ++ s.feed.queue)
  unfold State.withdrawFrom
  dsimp only
  rw [State.afterWithdrawal_eq, State.pendRewound, withdrawn]
  simp [satAdd, Config.top16]

/-- Each segment's state after a rewind (R38). -/
theorem State.withdrawFrom_get (d : Nat) (e : Seq) (n : Segment) : (s.withdrawFrom d e).map.get n =
    if (s.map.get n = .inflight ∧ ((hasSeg ((s.feed.window.drop d).map Prod.snd) n = true
          ∧ hasSeg ((s.feed.window.take d).map Prod.snd ++ s.feed.queue) n = false) ∨ hasRecord ((s.feed.window.drop d).map Prod.snd) n = true))
        ∨ (s.map.get n = .clean ∧ hasRecord ((s.feed.window.drop d).map Prod.snd) n = true) then .dirty else s.map.get n := by
  have cells (u : State) (frames : List SeqFrame) : ((u.pendRewound e).afterWithdrawal frames).map = u.map := by
    rw [State.afterWithdrawal_eq]; rfl
  unfold State.withdrawFrom
  dsimp only
  rw [cells, State.withdrawAll_get]
  cases hasSeg ((s.feed.window.drop d).map Prod.snd) n <;> cases hasRecord ((s.feed.window.drop d).map Prod.snd) n <;>
    cases hasSeg ((s.feed.window.take d).map Prod.snd ++ s.feed.queue) n <;> cases s.map.get n <;> rfl

/-! ### A take that loses its link -/

/-- A take whose link is lost trains anew, its receive numbering inactive (R68). -/
theorem State.loseLink_of_take (take : s.inTake = true) (up : s.link.state = .up) :
    s.loseLink.link.state = .training ∧ s.loseLink.link.numbering = false ∧ s.loseLink.take.rx = .inactive := by
  have lost : s.loseLink = s.loseLinkTake := by simp [State.loseLink, up, take, s.inFeed_of_inTake take]
  rw [lost]
  unfold State.loseLinkTake
  dsimp only
  (repeat' split) <;> simp [State.enterHeld, State.dropWork, State.retrain, Link.enterTraining, Take.inactive]

/-! ### The frames -/

/-- Settles O53. -/
theorem rewindAndRewound : Obligations.RewindAndRewound := by
  intro e s live up oldest d gone left
  have heard := s.fresh.heard_of_up up
  have sameFeed : s.fresh.heard.feed = s.feed := by simp
  have rewind (feed : s.inFeed = true) {u : State} (effect : s.fresh.heard.rewindAtFeed e = u) :
      exec (.rewindReceived e) s = .next u.settle :=
    exec_of_effect rfl live ((s.fresh.feedReceives_of_feed _ feed up).trans ((if_pos up).trans effect))
  have rewound (take : s.inTake = true) {u : State} (effect : s.fresh.heard.rewoundAtTake e = u) :
      exec (.rewoundReceived e) s = .next u.settle :=
    exec_of_effect rfl live ((s.fresh.takeReceives_of_take _ take up).trans ((if_pos up).trans effect))
  refine ⟨fun feed numbering => ⟨fun inside => ?_, fun outside next => ?_, fun outside other => ?_⟩,
    fun take numbering => ⟨fun expected discard settled => ?_, fun expected inOrder settled => ?_, fun unexpected => ?_⟩,
    fun c command inactive settled => ?_⟩
  · have effect : s.fresh.heard.rewindAtFeed e = s.fresh.heard.withdrawFrom d e := by
      rw [heard]
      exact (if_pos numbering).trans (if_pos inside)
    have cells := s.fresh.heard.withdrawFrom_get d e
    have moved := s.fresh.heard.withdrawFrom_eq d e
    rw [sameFeed] at cells moved
    refine ⟨_, rewind feed effect, ?_⟩
    generalize s.fresh.heard.withdrawFrom d e = u at cells moved ⊢
    have kept : u.feed.window = s.feed.window.take d ∧ u.feed.nextNumber = e
        ∧ u.feed.sentTotal = s.feed.sentTotal - BitVec.ofNat 8 (s.feed.window.length - d) ∧ u.feed.rewound = some e
        ∧ u.feed.rewinds = min 65535 (s.feed.rewinds + 1) ∧ u.session.state = s.session.state ∧ u.link.state = .up
        ∧ u.link.silence = 0 ∧ u.walker = s.walker ∧ u.faults = s.faults := by
      rw [moved, heard]
      exact ⟨rfl, rfl, rfl, rfl, rfl, rfl, up, rfl, rfl, rfl⟩
    obtain ⟨window, nextNumber, sentTotal, pending, rewinds, state, link, silence, walker, faults⟩ := kept
    simp only [State.heard_map, State.fresh_map] at cells
    refine ⟨by simp [window], by simp [nextNumber], by simp [sentTotal], by simp [pending], by simp [rewinds], fun n => ?_,
      by simp [state], by simp [link], by simp [silence], by simp [walker], by simp [faults]⟩
    rw [State.settle_map, cells]
  · have effect : s.fresh.heard.rewindAtFeed e = s.fresh.heard.pendRewound e := by
      rw [heard]
      exact (if_pos numbering).trans ((if_neg outside).trans (if_pos next))
    refine ⟨_, rewind feed effect, ?_⟩
    rw [heard]
    simp [State.pendRewound, satAdd, Config.top16, up]
  · have effect : s.fresh.heard.rewindAtFeed e = (s.fresh.heard.recordFault .protocol).endFeed (some .faulted) := by
      rw [heard]
      exact (if_pos numbering).trans ((if_neg outside).trans (if_neg other))
    exact ⟨_, rewind feed effect, (FeedKept.fresh feed).heard.ended_with_fault (by simp) _ _⟩
  · have effect : s.fresh.heard.rewoundAtTake e = { s.fresh with
        take := { s.take with rx := .inOrder }, link := { s.link with silence := 0, confirmed := true, rewindDue := false } } := by
      rw [heard]
      exact (if_pos numbering).trans ((if_pos expected).trans (if_pos discard))
    rw [rewound take effect]
    exact congrArg _ (s.settle_link_take settled _ _ rfl rfl)
  · have effect : s.fresh.heard.rewoundAtTake e = s.fresh.heard := by
      rw [heard]
      exact (if_pos numbering).trans ((if_pos expected).trans (if_neg inOrder))
    rw [rewound take effect, heard]
    exact congrArg _ (s.settle_link_take settled _ s.take rfl rfl)
  · have effect : s.fresh.heard.rewoundAtTake e = s.fresh.heard.loseLink := by
      rw [heard]
      exact (if_pos numbering).trans (if_neg unexpected)
    refine ⟨_, rewound take effect, ?_⟩
    rw [State.settle_link, State.settle_take]
    exact State.loseLink_of_take _ (by simpa [State.inTake] using take) (by rw [heard]; exact up)
  · rcases command with ⟨rfl, feed⟩ | ⟨rfl, take⟩
    · have effect : s.fresh.heard.rewindAtFeed e = s.fresh.heard := by
        rw [heard]
        exact if_neg (by simp [inactive])
      rw [rewind feed effect, heard]
      exact congrArg _ (s.settle_link_take settled _ s.take rfl rfl)
    · have effect : s.fresh.heard.rewoundAtTake e = s.fresh.heard := by
        rw [heard]
        exact if_neg (by simp [inactive])
      rw [rewound take effect, heard]
      exact congrArg _ (s.settle_link_take settled _ s.take rfl rfl)

end Sys2Proof.Machine
end

section
/-! SUPPORT. A LAYOUT against the limits of R23 and against the table (R72), the fills (R104 to R106), discarded frames at a take (R63, R83), and
the end of a take session (R162). -/

namespace Sys2Proof.Machine

open Sys2Proof

variable (s : State)

/-! ### LAYOUT's check (R23) -/

/-- A LAYOUT fits: each non-empty entry ends below the control area, names a class and shares no segment with another (R23). -/
def layoutFits (msize : BitVec 2) (es : Vector LayoutEntry 16) : Prop :=
  ∀ i : Fin 16, es[i].length ≠ 0 →
    es[i].base.toNat + es[i].length.toNat - 1 ≤ segmentsOf msize - 17 ∧ es[i].cls.toNat ≤ 3
      ∧ ∀ j : Fin 16, j ≠ i → es[j].length ≠ 0 →
          es[j].base.toNat + es[j].length.toNat ≤ es[i].base.toNat ∨ es[i].base.toNat + es[i].length.toNat ≤ es[j].base.toNat

theorem toNat_eq_zero_iff {w : Nat} (b : BitVec w) : b.toNat = 0 ↔ b = 0 := by simp [← BitVec.toNat_inj]

/-- Entry `i` of a LAYOUT shares no segment with another entry. -/
theorem layoutOverlaps_eq_false_iff (es : Vector LayoutEntry 16) (i : Fin 16) (h : es[i].length ≠ 0) :
    (es.toList.zipIdx.any fun o =>
        o.2 ≠ i.val && runsOverlap es[i].base.toNat es[i].length.toNat o.1.base.toNat o.1.length.toNat) = false ↔
      ∀ j : Fin 16, j ≠ i → es[j].length ≠ 0 →
        es[j].base.toNat + es[j].length.toNat ≤ es[i].base.toNat ∨ es[i].base.toNat + es[i].length.toNat ≤ es[j].base.toNat := by
  rw [← Bool.not_eq_true, any_zipIdx_toList, not_exists]
  refine forall_congr' fun j => ?_
  have index : j.val ≠ i.val ↔ j ≠ i := not_congr Fin.val_inj
  simp only [Bool.and_eq_true, decide_eq_true_eq, not_and, Bool.not_eq_true, runsOverlap_eq_false_iff, toNat_eq_zero_iff, h, false_or,
    index]
  exact imp_congr_right fun _ => or_iff_not_imp_left

theorem layoutMisfits_eq_false_iff (msize : BitVec 2) (es : Vector LayoutEntry 16) :
    layoutMisfits msize es = false ↔ layoutFits msize es := by
  rw [← Bool.not_eq_true, layoutMisfits, any_zipIdx_toList, not_exists]
  refine forall_congr' fun i => ?_
  rw [Bool.and_eq_true, not_and, decide_eq_true_iff]
  refine imp_congr_right fun nonempty => ?_
  have cls : (classOfCode es[i].cls).isNone = false ↔ es[i].cls.toNat ≤ 3 := by
    rw [← Bool.not_eq_true, Option.isNone_iff_eq_none, classOfCode_eq_none_iff, Nat.not_lt]
  have past : reachesPast msize es[i].base.toNat es[i].length.toNat = false
      ↔ es[i].base.toNat + es[i].length.toNat - 1 ≤ segmentsOf msize - 17 := by simp [reachesPast]
  rw [Bool.not_eq_true, Bool.or_eq_false_iff, Bool.or_eq_false_iff, past, cls, layoutOverlaps_eq_false_iff es i nonempty, and_assoc]
  exact and_congr_right fun _ => and_comm

/-! ### The table a LAYOUT installs (R23) -/

theorem layoutTable_of_empty (es : Vector LayoutEntry 16) (i : Fin 16) (h : es[i].length = 0) : (layoutTable es)[i] = Region.empty := by
  have entry : layoutEntryRegion es[i] = some Region.empty := by simp only [layoutEntryRegion, h]; rfl
  have at_i : (layoutTable es)[i] = (layoutEntryRegion es[i]).getD Region.empty := by simp [layoutTable]
  rw [at_i, entry]
  rfl

/-- No memory has more than 2^18 segments (R1). -/
theorem segmentsOf_le (msize : BitVec 2) : segmentsOf msize ≤ 2 ^ 18 := by
  have small : msize.toNat ≤ 3 := by omega
  calc segmentsOf msize = 32768 * 2 ^ msize.toNat := rfl
    _ ≤ 32768 * 2 ^ 3 := Nat.mul_le_mul_left _ (Nat.pow_le_pow_right (by decide) small)
    _ = 2 ^ 18 := by decide

theorem layoutTable_of_fits {msize : BitVec 2} {es : Vector LayoutEntry 16} (fits : layoutFits msize es) (i : Fin 16)
    (h : es[i].length ≠ 0) :
    (layoutTable es)[i].base = es[i].base ∧ (layoutTable es)[i].length.toNat = es[i].length.toNat
      ∧ codeOfClass (layoutTable es)[i].cls = es[i].cls ∧ (layoutTable es)[i].order = es[i].order
      ∧ (layoutTable es)[i].fill = es[i].fill := by
  obtain ⟨hend, hcls, -⟩ := fits i h
  obtain ⟨c, hc⟩ : ∃ c, classOfCode es[i].cls = some c := by
    refine Option.ne_none_iff_exists'.1 fun hnone => ?_
    exact absurd ((classOfCode_eq_none_iff _).1 hnone) (by omega)
  have entry : (layoutTable es)[i] =
      { base := es[i].base, length := es[i].length.setWidth 18, cls := c, order := es[i].order, fill := es[i].fill } := by
    have at_i : (layoutTable es)[i] = (layoutEntryRegion es[i]).getD Region.empty := by simp [layoutTable]
    rw [at_i, layoutEntryRegion, if_neg h, hc]
    rfl
  have short : es[i].length.toNat < 2 ^ 18 := by
    have limit := segmentsOf_le msize
    omega
  rw [entry]
  exact ⟨rfl, by simpa using Nat.mod_eq_of_lt short, codeOfClass_of_classOfCode hc, rfl, rfl⟩

/-! ### A LAYOUT identical to the table (R72) -/

theorem layoutIdentical_iff (es : Vector LayoutEntry 16) (rs : Vector Region 16) : layoutIdentical es rs = true ↔
    ∀ i : Fin 16, es[i].base = rs[i].base ∧ es[i].length.toNat = rs[i].length.toNat ∧ es[i].cls = codeOfClass rs[i].cls
      ∧ es[i].order = rs[i].order ∧ es[i].fill = rs[i].fill := by
  have agrees (e : LayoutEntry) (r : Region) : layoutEntryAgrees e r = true ↔
      e.base = r.base ∧ e.length.toNat = r.length.toNat ∧ e.cls = codeOfClass r.cls ∧ e.order = r.order ∧ e.fill = r.fill := by
    simp [layoutEntryAgrees, and_assoc]
  simp only [layoutIdentical, List.all_eq_true, ← agrees]
  constructor
  · intro h i
    refine h (es[i], rs[i]) (List.mem_iff_getElem.2 ⟨i.val, by simp, ?_⟩)
    simp
  · intro h p hp
    obtain ⟨i, hi, rfl⟩ := List.getElem_of_mem hp
    have bound : i < 16 := by simpa using hi
    simpa using h ⟨i, bound⟩

end Sys2Proof.Machine
end

section
/-! PROOFS. LAYOUT at the take (O50), with the fills, the end of a take session and the frames a take discards. -/

namespace Sys2Proof.Machine

open Sys2Proof

variable (s : State)

/-! ### The fills (R104, R105, R106) -/

/-- The work of the fill unit on the segment at a place of the fill order. -/
def FillWork.begun (s : State) (place : Nat) (n : Segment) : FillWork :=
  { place := place, segment := n,
    job := .start s.walker.nextUse s.settings.retry (segmentItems n fun _ => fillWordOf s.regions n) }

theorem State.fillFrom_of_some {place : Nat} {n : Segment} (h : (fillOrder s.regions)[place]? = some n) :
    s.fillFrom place = { s.takeUse with take := { s.take with fill := some (.begun s place n) } } := by
  unfold State.fillFrom
  rw [h]
  rfl

theorem State.fillFrom_of_none {place : Nat} (h : (fillOrder s.regions)[place]? = none) : s.fillFrom place = s.fillsFinished := by
  unfold State.fillFrom
  rw [h]

/-- What is left as the fills are finished: READY due, numbering started, RECEIVING (R73, R89, R106). -/
theorem State.fillsFinished_eq : s.fillsFinished = { s with
    take := { s.take with fill := none, rx := .inOrder, expected := 0, freed := 0, ackSeq := none, buffer := [] }
    link := { s.link with readyDue := s.link.readyDue + 1, numbering := true }
    session := { s.session with state := .receiving }
    notices := s.fillsFinished.notices
    signals := s.fillsFinished.signals } := by
  unfold State.fillsFinished State.setState
  dsimp only
  split
  · next h =>
    have state : s.session.state = .receiving := h
    rw [← state]
    rfl
  · rfl

/-- The fills enter no segment in DIRTY. -/
theorem State.fillFrom_signals_dirtied (place : Nat) : (s.fillFrom place).signals.dirtied = s.signals.dirtied := by
  unfold State.fillFrom
  split
  · simp [State.fillsFinished, State.startNumberingTake]
  · rfl

/-! ### The end of a take session (R162) -/

/-- No request of the apply or fill unit waits where neither has work. -/
theorem State.offer_of_no_work (apply : s.take.apply = none) (fill : s.take.fill = none) :
    s.offer .apply = none ∧ s.offer .fill = none := by
  simp [State.offer, State.applyOffer, State.fillOffer, apply, fill]

/-- A take session that has been heard on an UP link and ends with a fault and a CLOSE has ended so at the command's end (R75, R162). -/
theorem takeEnded_of_heard (take : s.inTake = true) (f : SessFault) (close : Option CloseReason) :
    takeEnded close s ((s.fresh.heard.recordFault f).endTake close).settle
      ∧ faultAdded f s ((s.fresh.heard.recordFault f).endTake close).settle := by
  have role : s.session.role = .take := (s.inTake_iff.1 take).1
  have out := State.endTake_out_link (s.fresh.heard.recordFault f) close
  have session : ((s.fresh.heard.recordFault f).endTake close).session =
      { s.session with state := .idle, hold := none, greeted := none, layoutInstalled := false } := by
    simp [State.endTake, State.setState_session]
  have take' : ((s.fresh.heard.recordFault f).endTake close).take =
      { s.take with apply := none, fill := none, buffer := [], rx := .inactive, expected := 0, awaitingLayout := false } := by
    simp [State.endTake, State.closeLink, State.dropWork, Take.inactive]
  have link : ((s.fresh.heard.recordFault f).endTake close).link.state = .off
      ∧ ((s.fresh.heard.recordFault f).endTake close).link.numbering = false
      ∧ ((s.fresh.heard.recordFault f).endTake close).link.bringup = none := by
    simp [State.endTake, State.closeLink, Link.enterOff]
  have notice : ((s.fresh.heard.recordFault f).endTake close).notices.fault = (s.fresh.heard.recordFault f).notices.fault := by
    have kept := fun u : State => u.setState_notices .idle .fault (by decide)
    refine (kept _).trans ?_
    simp [Notices.get, State.dropWork]
  generalize hu : (s.fresh.heard.recordFault f).endTake close = u at *
  have regions : u.regions = s.regions := by rw [← hu]; simp
  have settings : u.settings = s.settings := by rw [← hu]; simp
  have freeze : u.freeze = s.freeze := by rw [← hu]; simp
  have faults : u.faults = (s.fresh.heard.recordFault f).faults := by rw [← hu]; simp
  obtain ⟨off, numbering, bringup⟩ := link
  have idle : u.session.state = .idle := by rw [session]
  have record := u.settle_session (.inr (by simp [idle]))
  have overlay := u.settle_freeze (.inr (by simp [idle]))
  obtain ⟨noApply, noFill⟩ := u.settle.offer_of_no_work (by simp [take']) (by simp [take'])
  refine ⟨?_, faultAdded_of_recordFault (u := s.fresh.heard) (by simp) (by rw [State.settle_faults, faults]) (by rw [State.settle_notices, notice])⟩
  simp only [takeEnded, record, overlay, noApply, noFill, State.settle_take, State.settle_link, State.settle_out, State.settle_regions,
    State.settle_settings, session, take', role, off, numbering, bringup, out, regions, settings, freeze]
  simp [closeSent, Out.none]

/-! ### Frames that a take discards (R63, R83) -/

/-- Outside an IN_ORDER take with numbering active a discarded frame is only counted (R63, R83). -/
theorem State.discardFrame_counted (up : s.link.state = .up) (quiet : s.inTake = false ∨ s.link.numbering = false ∨ s.take.rx ≠ .inOrder) :
    s.discardFrame = { s with link := { s.link with discarded := min 65535 (s.link.discarded + 1) } } := by
  have test : (s.countDiscard.inTake && s.countDiscard.link.numbering && s.countDiscard.take.rx == .inOrder) = false := by
    have unmoved : s.countDiscard.inTake = s.inTake ∧ s.countDiscard.link.numbering = s.link.numbering ∧ s.countDiscard.take = s.take :=
      ⟨rfl, rfl, rfl⟩
    obtain ⟨take, numbering, rx⟩ := unmoved
    rw [take, numbering, rx]
    rcases quiet with h | h | h <;> simp [h]
  unfold State.discardFrame
  rw [if_neg (by simp [up])]
  dsimp only
  rw [test]
  rfl

/-- A discarded frame takes an IN_ORDER take to DISCARD, where REWIND is due (R82, R83). -/
theorem State.discardFrame_inOrder (up : s.link.state = .up) (take : s.inTake = true) (numbering : s.link.numbering = true)
    (inOrder : s.take.rx = .inOrder) : s.discardFrame = { s with
      take := { s.take with rx := .discard, rewinds := min 65535 (s.take.rewinds + 1) }
      link := { s.link with discarded := min 65535 (s.link.discarded + 1), rewindDue := true, rewindTimer := 0 } } := by
  have test : (s.countDiscard.inTake && s.countDiscard.link.numbering && s.countDiscard.take.rx == .inOrder) = true := by
    have unmoved : s.countDiscard.inTake = s.inTake ∧ s.countDiscard.link.numbering = s.link.numbering ∧ s.countDiscard.take = s.take :=
      ⟨rfl, rfl, rfl⟩
    obtain ⟨take', numbering', rx⟩ := unmoved
    rw [take', numbering', rx]
    simp [take, numbering, inOrder]
  unfold State.discardFrame
  rw [if_neg (by simp [up])]
  dsimp only
  rw [test]
  rfl

/-! ### LAYOUT -/

/-- A LAYOUT is identical to the installed one where a layout is installed and all entries agree (R72). -/
theorem State.sameLayout_iff (es : Vector LayoutEntry 16) : s.sameLayout es = true ↔ s.session.layoutInstalled = true
    ∧ ∀ i : Fin 16, es[i].base = s.regions[i].base ∧ es[i].length.toNat = s.regions[i].length.toNat
      ∧ es[i].cls = codeOfClass s.regions[i].cls ∧ es[i].order = s.regions[i].order ∧ es[i].fill = s.regions[i].fill := by
  rw [State.sameLayout, Bool.and_eq_true, layoutIdentical_iff]

/-- A LAYOUT that a take awaits is judged by the overlay, then by its fit (R23, R142). -/
theorem State.layoutArrives_awaited (es : Vector LayoutEntry 16) (up : s.link.state = .up) (state : s.session.state = .bringup)
    (awaiting : s.take.awaitingLayout = true) : s.layoutArrives es = s.awaitedLayout es := by
  unfold State.layoutArrives
  rw [if_neg (by simp [up]), if_pos ⟨state, awaiting⟩]

/-- A LAYOUT that is neither awaited, the overlay empty, nor identical in INSTALL, RECEIVING or SYNCED is discarded (R72, R142). -/
theorem State.layoutArrives_discards (es : Vector LayoutEntry 16) (up : s.link.state = .up)
    (h : (s.session.state = .bringup ∧ s.take.awaitingLayout = true ∧ s.freeze.entries ≠ [])
      ∨ ((s.session.state = .install ∨ s.session.state = .receiving ∨ s.session.state = .synced) ∧ s.sameLayout es = false)
      ∨ (s.session.state = .bringup ∧ s.take.awaitingLayout = false)
      ∨ s.session.state = .final ∨ s.session.state = .held ∨ s.session.state = .detached) :
    s.layoutArrives es = s.discardFrame := by
  unfold State.layoutArrives
  rw [if_neg (by simp [up])]
  rcases h with ⟨state, awaiting, overlay⟩ | ⟨state | state | state, differs⟩ | ⟨state, awaiting⟩ | state | state | state
  · rw [if_pos ⟨state, awaiting⟩, State.awaitedLayout, if_pos overlay]
  all_goals simp_all

/-- A LAYOUT that is installed: the table, the awaiting flag, the session in INSTALL; then the fill unit begins (R23, R104, R159). -/
theorem State.installLayout_eq (es : Vector LayoutEntry 16) (up : s.link.state = .up) :
    ∃ w : State, s.fresh.heard.installLayout es = w.fillFrom 0 ∧ w.regions = layoutTable es
      ∧ w.session = { s.session with layoutInstalled := true, state := .install } ∧ w.settings = s.settings
      ∧ w.link = { s.link with silence := 0, confirmed := true } ∧ w.take = { s.take with awaitingLayout := false }
      ∧ w.freeze = s.freeze ∧ w.faults = s.faults := by
  refine ⟨_, rfl, ?_⟩
  rw [s.fresh.heard_of_up up]
  simp [State.setState_session]

/-- Settles O50. -/
theorem layoutAtTheTake : Obligations.LayoutAtTheTake := by
  intro es s live take up fits identical awaited heard
  have isHeard := s.fresh.heard_of_up up
  have arrives {u : State} (effect : s.fresh.layoutArrives es = u) : exec (.layoutReceived es) s = .next u.settle :=
    exec_of_effect rfl live ((s.fresh.takeReceives_of_take _ take up).trans effect)
  have hidentical : s.sameLayout es = true ↔ identical := s.sameLayout_iff es
  have hfits : layoutMisfits s.chassis.msize es = false ↔ fits := layoutMisfits_eq_false_iff _ es
  refine ⟨fun wanted empty hfit => ?_, fun wanted empty misfit => ?_, fun install same settled => ?_, fun state same settled => ?_,
    fun other settled => ?_⟩
  · obtain ⟨state, awaiting⟩ := wanted
    have effect : s.fresh.layoutArrives es = s.fresh.heard.installLayout es := by
      refine (s.fresh.layoutArrives_awaited es up state awaiting).trans ?_
      exact (if_neg (not_not.2 empty)).trans (if_neg (by rw [Bool.not_eq_true]; exact hfits.2 hfit))
    refine ⟨_, arrives effect, ?_⟩
    obtain ⟨w, installed, regions, session, hsettings, link, htake, freeze, faults⟩ := s.installLayout_eq es up
    rw [installed]
    have emptied (i : Fin 16) (h : es[i].length = 0) : w.regions[i] = Region.empty := by rw [regions]; exact layoutTable_of_empty es i h
    have written (i : Fin 16) (h : es[i].length ≠ 0) : w.regions[i].base = es[i].base ∧ w.regions[i].length.toNat = es[i].length.toNat
        ∧ codeOfClass w.regions[i].cls = es[i].cls ∧ w.regions[i].order = es[i].order ∧ w.regions[i].fill = es[i].fill := by
      rw [regions]; exact layoutTable_of_fits hfit i h
    have role : w.session.role = .take := by rw [session]; exact (s.inTake_iff.1 take).1
    rcases order : fillOrder w.regions with _ | ⟨n, rest⟩
    · have blocks := w.fillsFinished_eq
      rw [w.fillFrom_of_none (place := 0) (by rw [order]; rfl)]
      generalize w.fillsFinished = x at blocks ⊢
      have overlay := x.settle_freeze (.inl (by rw [blocks]; simp [State.inFeed, role]))
      rw [overlay]
      have table : x.settle.regions = w.regions := by rw [State.settle_regions, blocks]
      rw [table, order]
      refine ⟨?_, ?_, emptied, written, fun _ => ?_, fun n rest h => absurd h (by simp), ?_⟩
      · rw [State.settle_session_layoutInstalled, blocks, session]
      · rw [State.settle_take, blocks, htake]
      · rw [State.settle_session_state, State.settle_link, State.settle_take, blocks, link]
        exact ⟨rfl, rfl, rfl, rfl, rfl, rfl, rfl⟩
      · rw [State.settle_link, State.settle_session_id, State.settle_faults, blocks, link, session, faults, freeze]
        exact ⟨rfl, rfl, rfl, rfl, rfl⟩
    · rw [w.fillFrom_of_some (place := 0) (n := n) (by rw [order]; rfl)]
      generalize hx : ({ w.takeUse with take := { w.take with fill := some (.begun w 0 n) } } : State) = x
      have overlay := x.settle_freeze (.inl (by rw [← hx]; simp [State.inFeed, role]))
      rw [overlay]
      have table : x.settle.regions = w.regions := by rw [State.settle_regions, ← hx]; rfl
      rw [table, order]
      refine ⟨?_, ?_, emptied, written, fun h => absurd h (by simp), fun m more h => ?_, ?_⟩
      · rw [State.settle_session_layoutInstalled, ← hx]
        simp [session]
      · rw [State.settle_take, ← hx]
        simp [htake]
      · obtain ⟨rfl, -⟩ := List.cons.inj h
        rw [State.settle_session_state, State.settle_take, ← hx]
        exact ⟨by simp [session], _, rfl, rfl, rfl, by rw [← hsettings]; rfl, rfl, rfl⟩
      · rw [State.settle_link, State.settle_session_id, State.settle_faults, ← hx]
        simp [link, session, faults, freeze]
  · have effect : s.fresh.layoutArrives es = (s.fresh.heard.recordFault .layoutMisfit).endTake (some .misfit) := by
      have judged : layoutMisfits s.chassis.msize es = true := by
        rw [← Bool.not_eq_false, hfits]; exact misfit
      refine (s.fresh.layoutArrives_awaited es up wanted.1 wanted.2).trans ?_
      exact (if_neg (not_not.2 empty)).trans (if_pos judged)
    exact ⟨_, arrives effect, takeEnded_of_heard s take _ _⟩
  · have effect : s.fresh.layoutArrives es = s.fresh.heard := by
      unfold State.layoutArrives
      rw [if_neg (by simp [up]), if_neg (by simp [install])]
      exact if_pos ⟨install, hidentical.2 same⟩
    rw [arrives effect, isHeard]
    exact congrArg _ (s.settle_link_take settled _ s.take rfl rfl)
  · have effect : s.fresh.layoutArrives es = { s.fresh with link := { heard with readyDue := s.link.readyDue + 1 } } := by
      unfold State.layoutArrives
      rw [if_neg (by simp [up]), if_neg (by rcases state with h | h <;> simp [h]), if_neg (by rcases state with h | h <;> simp [h]),
        if_pos ⟨state, hidentical.2 same⟩]
      dsimp only
      rw [isHeard]
      rfl
    rw [arrives effect]
    exact congrArg _ (s.settle_link_take settled _ s.take rfl rfl)
  · have effect : s.fresh.layoutArrives es = s.fresh.discardFrame := by
      refine s.fresh.layoutArrives_discards es up ?_
      rcases other with ⟨⟨state, awaiting⟩, overlay⟩ | ⟨state, differs⟩ | rest
      · exact .inl ⟨state, awaiting, overlay⟩
      · refine .inr (.inl ⟨state, ?_⟩)
        rw [← Bool.not_eq_true]
        exact mt hidentical.1 differs
      · exact .inr (.inr rest)
    refine ⟨fun quiet => ?_, fun numbering inOrder => ?_⟩
    · rw [arrives (effect.trans (s.fresh.discardFrame_counted up (.inr quiet)))]
      exact congrArg _ (s.settle_link_take settled _ s.take rfl rfl)
    · rw [arrives (effect.trans (s.fresh.discardFrame_inOrder up take numbering inOrder))]
      exact congrArg _ (s.settle_link_take settled _ _ rfl rfl)

end Sys2Proof.Machine
end

section
/-! SUPPORT. The apply unit: failed verifies (R96, R109), the records of a MIR frame (R97, R98), the head frame's beginning and completion (R91,
R92). -/

namespace Sys2Proof.Machine

open Sys2Proof

variable (s : State)

/-! ### Failed verifies -/

/-- A fault list entry moves only the list and the overflow count (R109). -/
theorem Faults.enter_eq (fs : Faults) (n : Segment) (c : Cause) :
    fs.enter n c = { fs with list := (fs.enter n c).list, overflow := (fs.enter n c).overflow } := by
  unfold Faults.enter
  (repeat' split) <;> rfl

/-- The segment entered is listed with its cause (R109). -/
theorem Faults.mem_enter (fs : Faults) (n : Segment) (c : Cause) : (n, c) ∈ (fs.enter n c).list := by
  unfold Faults.enter
  split
  · next h =>
    obtain ⟨e, mem, key⟩ := List.any_eq_true.1 h
    have key : e.1 = n := by simpa using key
    exact List.mem_map.2 ⟨e, mem, if_pos key⟩
  · split <;> simp

/-- The list after an entry depends on the list before alone (R109). -/
theorem Faults.enter_list_congr {fs gs : Faults} (h : fs.list = gs.list) (n : Segment) (c : Cause) :
    (fs.enter n c).list = (gs.enter n c).list := by
  simp only [Faults.enter, h]
  (repeat' split) <;> rfl

/-- What a failed verify moves: the fault records, the fail total, the FAULT notice (R96, R109). -/
theorem State.verifyFailed_eq (n : Segment) (c : Cause) : s.verifyFailed n c = { s with
    take := { s.take with failTotal := min 65535 (s.take.failTotal + 1) }
    faults := { s.faults.enter n c with
      summary := s.faults.summary ||| 0x080#12, first := some (s.faults.first.getD .verifyFail) }
    notices := (s.verifyFailed n c).notices
    signals := (s.verifyFailed n c).signals } := by
  have first : s.faults.first.or (some .verifyFail) = some (s.faults.first.getD .verifyFail) := by
    cases s.faults.first <;> rfl
  simp only [State.verifyFailed, State.recordFault, State.enterFault, State.raise, State.requestReport]
  rw [Faults.enter_eq, first]
  rfl

theorem State.verifyFailed_notice (n : Segment) (c : Cause) : (s.verifyFailed n c).notices.fault.pending = true := rfl

/-- A failed verify kept to the end of the command is the one that was added. -/
theorem verifyFailAdded_of_verifyFailed {s u t : State} {n : Segment} {c : Cause} (before : u.faults = s.faults)
    (total : u.take.failTotal = s.take.failTotal) (faults : t.faults = (u.verifyFailed n c).faults)
    (fails : t.take.failTotal = (u.verifyFailed n c).take.failTotal)
    (notice : t.notices.fault = (u.verifyFailed n c).notices.fault) : verifyFailAdded n c s t := by
  have pending := u.verifyFailed_notice n c
  rw [State.verifyFailed_eq, before] at faults
  rw [State.verifyFailed_eq, total] at fails
  simp only [verifyFailAdded, faults, fails, notice, pending]
  exact ⟨trivial, trivial, Faults.mem_enter _ _ _, trivial, trivial, trivial, trivial⟩

/-! ### Many records that fail at once -/

/-- Each record's segment has failed its verify, in the records' order (R98, R100). -/
def State.failRecords (rs : List MirrorRecord) (s : State) : State :=
  rs.foldl (fun s r => s.verifyFailed (segmentOf r.addr) .verify) s

theorem State.failRecords_cons (r : MirrorRecord) (rs : List MirrorRecord) :
    s.failRecords (r :: rs) = (s.verifyFailed (segmentOf r.addr) .verify).failRecords rs := List.foldl_cons ..

/-- What the failed records move (R98). -/
theorem State.failRecords_eq (rs : List MirrorRecord) : s.failRecords rs = { s with
    take := { s.take with failTotal := (s.failRecords rs).take.failTotal }
    faults := (s.failRecords rs).faults
    notices := (s.failRecords rs).notices
    signals := (s.failRecords rs).signals } := by
  induction rs generalizing s with
  | nil => rfl
  | cons r rs ih =>
    rw [State.failRecords_cons, ih, State.verifyFailed_eq]

theorem State.failRecords_list (rs : List MirrorRecord) (fs : Faults) (h : s.faults.list = fs.list) :
    (s.failRecords rs).faults.list = (rs.foldl (fun fs r => fs.enter (segmentOf r.addr) .verify) fs).list := by
  induction rs generalizing s fs with
  | nil => exact h
  | cons r rs ih =>
    rw [State.failRecords_cons, List.foldl_cons, ih _ (fs.enter (segmentOf r.addr) .verify)]
    rw [State.verifyFailed_eq]
    exact Faults.enter_list_congr h _ _

theorem State.failRecords_failTotal (rs : List MirrorRecord) :
    (s.failRecords rs).take.failTotal = if rs = [] then s.take.failTotal else min 65535 (s.take.failTotal + rs.length) := by
  induction rs generalizing s with
  | nil => rfl
  | cons r rs ih =>
    have total : (s.verifyFailed (segmentOf r.addr) .verify).take.failTotal = min 65535 (s.take.failTotal + 1) := by
      rw [State.verifyFailed_eq]
    rw [State.failRecords_cons, ih, total, if_neg (List.cons_ne_nil _ _), List.length_cons]
    split
    · next h => simp [h]
    · omega

theorem State.failRecords_summary (rs : List MirrorRecord) (h : rs ≠ []) :
    (s.failRecords rs).faults.summary = s.faults.summary ||| 0x080#12 := by
  induction rs generalizing s with
  | nil => exact absurd rfl h
  | cons r rs ih =>
    have first : (s.verifyFailed (segmentOf r.addr) .verify).faults.summary = s.faults.summary ||| 0x080#12 := by
      rw [State.verifyFailed_eq]
    rw [State.failRecords_cons]
    by_cases more : rs = []
    · rw [more]; exact first
    · rw [ih _ more, first, BitVec.or_assoc, BitVec.or_self]

/-! ### The records of a MIR frame (R97, R98) -/

/-- The class of a segment at a take whose session lasts (R20). -/
theorem State.installedClass_of_take (take : s.inTake = true) (n : Segment) :
    s.installedClass n = if s.session.layoutInstalled then classOfSegment s.regions n else .localOnly := by
  have blocking : s.blocking = s.session.layoutInstalled := by
    have h : (s.session.role == .take && s.session.state != .idle) = true := take
    rw [State.blocking, h, Bool.true_and]
  rw [State.installedClass, blocking]

/-- The record needs memory but lies outside the installed MIRROR segments (R98). -/
def State.recordOutside (s : State) (r : MirrorRecord) : Bool :=
  decide (r.mask ≠ 0 ∧ s.installedClass (segmentOf r.addr) ≠ .mirror)

/-- The work of the apply unit on a record of a MIR frame, `rest` being the records behind it (R97). -/
def ApplyWork.ofRecord (use limit : Nat) (r : MirrorRecord) (rest : List MirrorRecord) : ApplyWork :=
  { kind := .mir, segment := segmentOf r.addr,
    job := .start use limit [{ addr := r.addr, data := r.data, mask := r.mask }], rest := rest, limit := limit }

theorem State.verifyFailed_installedClass (n k : Segment) (c : Cause) : (s.verifyFailed n c).installedClass k = s.installedClass k := by
  simp [State.installedClass, State.blocking]

/-- Records that need no memory, or fail at once, leave nothing of themselves but the failures; the apply unit works on the records behind
them (R98). -/
theorem State.beginRecords_append (limit : Nat) (before rest : List MirrorRecord)
    (h : ∀ x ∈ before, x.mask = 0 ∨ s.recordOutside x = true) :
    s.beginRecords limit (before ++ rest) = (s.failRecords (before.filter s.recordOutside)).beginRecords limit rest := by
  induction before generalizing s with
  | nil => rfl
  | cons r before ih =>
    have later := List.forall_mem_of_forall_mem_cons h
    rw [List.cons_append, State.beginRecords]
    by_cases mask : r.mask = 0
    · have inside : s.recordOutside r = false := by simp [State.recordOutside, mask]
      rw [if_pos mask, ih s later, List.filter_cons_of_neg (by simp [inside])]
    · have outside : s.recordOutside r = true := (h r List.mem_cons_self).resolve_left mask
      have class' : s.installedClass (segmentOf r.addr) ≠ .mirror := by
        have both := of_decide_eq_true outside
        exact both.2
      have same : (s.verifyFailed (segmentOf r.addr) .verify).recordOutside = s.recordOutside := by
        funext x
        simp only [State.recordOutside, State.verifyFailed_installedClass]
      rw [if_neg mask, if_neg class', ih _ (by rw [same]; exact later), same, List.filter_cons_of_pos outside,
        State.failRecords_cons]

/-- With no record that needs memory left there is no work (R97). -/
theorem State.beginRecords_nil (limit : Nat) : s.beginRecords limit [] = { s with take := { s.take with apply := none } } := rfl

/-- Work begins on a record that needs memory in an installed MIRROR segment (R97). -/
theorem State.beginRecords_cons (limit : Nat) (r : MirrorRecord) (rest : List MirrorRecord) (mask : r.mask ≠ 0)
    (mirror : s.installedClass (segmentOf r.addr) = .mirror) : s.beginRecords limit (r :: rest) =
      { s.takeUse with take := { s.take with apply := some (.ofRecord s.walker.nextUse limit r rest) } } := by
  rw [State.beginRecords, if_neg mask, if_pos mirror]
  rfl

/-! ### What the beginning of work leaves -/

/-- Between `s` and `t` only the apply unit's work, the fail total, fault records, notices, signals and the use number have moved. -/
def OnlyWork (s t : State) : Prop :=
  t = { s with take := { s.take with apply := t.take.apply, failTotal := t.take.failTotal }
               faults := t.faults, notices := t.notices, signals := t.signals, walker := t.walker }

theorem OnlyWork.refl (s : State) : OnlyWork s s := rfl

theorem OnlyWork.trans {s t u : State} (h : OnlyWork s t) (h' : OnlyWork t u) : OnlyWork s u := by
  unfold OnlyWork at *
  rw [h']
  rw [h]

theorem OnlyWork.verifyFailed (n : Segment) (c : Cause) : OnlyWork s (s.verifyFailed n c) := by
  unfold OnlyWork
  rw [State.verifyFailed_eq]

theorem OnlyWork.clearFault (n : Segment) : OnlyWork s (s.clearFault n) := by
  unfold State.clearFault
  split <;> rfl

theorem OnlyWork.beginRecords (limit : Nat) (rs : List MirrorRecord) : OnlyWork s (s.beginRecords limit rs) := by
  induction rs generalizing s with
  | nil => rfl
  | cons r rs ih =>
    rw [State.beginRecords]
    split
    · exact ih s
    · split
      · rfl
      · exact (OnlyWork.verifyFailed s _ _).trans (ih _)

theorem OnlyWork.beginSeg (n : Segment) (ws : Vector Word 64) : OnlyWork s (s.beginSeg n ws) := by
  unfold State.beginSeg
  split
  · rfl
  · exact .verifyFailed s _ _

/-! ### The head frame (R91, R92) -/

theorem State.beginApply_of_empty (n : Nat) (buffer : s.take.buffer = []) : s.beginApply n = s := by
  cases n with
  | zero => rfl
  | succ n =>
    rw [State.beginApply]
    split
    · rfl
    · rw [buffer]

/-- The last frame of the buffer completes (R92). -/
theorem State.completeHead_single {q : Seq} {f : SeqFrame} (buffer : s.take.buffer = [(q, f)]) : s.completeHead = { s with
    take := { s.take with buffer := [], ackSeq := some q, freed := s.take.freed + 1, apply := none }
    link := { s.link with ackDue := true } } := by
  rw [State.completeHead, buffer]

/-- The only frame of the buffer begins in RECEIVING or SYNCED: its work stands, or it completes (R91, R92). -/
theorem State.applyOn_applying {q : Seq} {f : SeqFrame} (buffer : s.take.buffer = [(q, f)]) (idle : s.take.apply = none)
    (applying : s.applying = true) (same : (s.beginFrame f).take.buffer = [(q, f)]) :
    s.applyOn = if (s.beginFrame f).take.apply.isSome then s.beginFrame f else (s.beginFrame f).completeHead := by
  have bound : s.applyOn = s.beginApply 2 := by rw [State.applyOn, buffer]; rfl
  rw [bound, State.beginApply, if_neg (by simp [idle]), buffer]
  dsimp only
  rw [if_pos applying]
  split
  · rfl
  · exact State.beginApply_of_empty _ _ (by rw [State.completeHead_single _ same])

/-- The only frame of the buffer completes in FINAL with no memory access (R100). -/
theorem State.applyOn_final {q : Seq} {f : SeqFrame} (buffer : s.take.buffer = [(q, f)]) (idle : s.take.apply = none)
    (take : s.inTake = true) (final : s.session.state = .final) (same : (s.failInFinal f).take.buffer = [(q, f)]) :
    s.applyOn = (s.failInFinal f).completeHead := by
  have bound : s.applyOn = s.beginApply 2 := by rw [State.applyOn, buffer]; rfl
  have notApplying : s.applying = false := by simp [State.applying, final]
  rw [bound, State.beginApply, if_neg (by simp [idle]), buffer]
  dsimp only
  rw [notApplying, if_neg (by simp), if_pos (by simp [take, final])]
  exact State.beginApply_of_empty _ _ (by rw [State.completeHead_single _ same])

end Sys2Proof.Machine
end

section
/-! PROOFS. Sequenced frames and discarded runs of bytes (O51). -/

namespace Sys2Proof.Machine

open Sys2Proof

variable (s : State)

/-! ### Acceptance (R82) -/

/-- The take as the accepted frame stands in its buffer, before the apply unit goes on (R82, R90). -/
def State.accepted (q : Seq) (f : SeqFrame) (s : State) : State :=
  { s.fresh with
    link := { s.link with silence := 0, confirmed := true }
    take := { s.take with buffer := s.take.buffer ++ [(q, f)], expected := q + 1 } }

theorem seqFrameOk_of_wf {f : SeqFrame} (h : f.wf = true) : seqFrameOk f = true := by
  cases f <;> exact h

/-- An IN_ORDER take accepts a well-formed frame with the expected number while a slot is free (R82). -/
theorem exec_sequenced_accepted {q : Seq} {f : SeqFrame} (live : s.live = true) (take : s.inTake = true) (up : s.link.state = .up)
    (numbering : s.link.numbering = true) (inOrder : s.take.rx = .inOrder) (expected : q = s.take.expected) (wf : f.wf = true)
    (room : s.take.buffer.length < 8) : exec (.sequencedFrameReceived q f) s = .next (s.accepted q f).applyOn.settle := by
  have accepts : s.fresh.acceptsSeq q = true := by
    simp [State.acceptsSeq, up, numbering, inOrder, expected, room, Config.receiveSlots]
  have effect : s.fresh.seqArrives q f = (s.accepted q f).applyOn := by
    rw [State.seqArrives, seqFrameOk_of_wf wf, accepts, Bool.true_and, if_pos rfl, State.acceptSeq, s.fresh.heard_of_up up]
    subst expected
    rfl
  exact exec_of_effect rfl live ((s.fresh.takeReceives_of_take _ take up).trans effect)

/-! ### What an accepted frame's beginning leaves (R91) -/

theorem State.failRecords_installedClass (rs : List MirrorRecord) (n : Segment) :
    (s.failRecords rs).installedClass n = s.installedClass n := by
  rw [State.failRecords_eq]
  rfl

/-- The apply unit's work on a SEG frame (R93, R94). -/
def ApplyWork.ofSegment (use limit : Nat) (n : Segment) (ws : Vector Word 64) : ApplyWork :=
  { kind := .seg, segment := n, job := .start use limit (segmentItems n fun i => (ws.toList[i]?).getD 0), rest := [], limit := limit }

theorem State.beginSeg_of_tracked (n : Segment) (ws : Vector Word 64) (h : (s.installedClass n).tracked = true) : s.beginSeg n ws =
    { s.takeUse with take := { s.take with apply := some (.ofSegment s.walker.nextUse s.settings.retry n ws) } } := by
  rw [State.beginSeg, if_pos h]
  rfl

theorem State.beginSeg_of_untracked (n : Segment) (ws : Vector Word 64) (h : (s.installedClass n).tracked = false) :
    s.beginSeg n ws = s.verifyFailed n .verify := by
  rw [State.beginSeg, h]
  rfl

/-- The beginning of a SEG or MIR frame moves only the apply unit's work and the failures (R93, R97). -/
theorem OnlyWork.beginFrame {f : SeqFrame} (h : (∃ n ws, f = .seg n ws) ∨ ∃ rs, f = .mir rs) : OnlyWork s (s.beginFrame f) := by
  rcases h with ⟨n, ws, rfl⟩ | ⟨rs, rfl⟩
  · exact .beginSeg s _ _
  · exact .beginRecords s _ _

/-- A SEG or MIR frame alone in the buffer: its work stands, or it completes; what moved besides are the failures (R91, R92). -/
theorem State.applyOn_moved {q : Seq} {f : SeqFrame} (buffer : s.take.buffer = [(q, f)]) (idle : s.take.apply = none)
    (applying : s.applying = true) (h : (∃ n ws, f = .seg n ws) ∨ ∃ rs, f = .mir rs) :
    s.applyOn.out = s.out ∧ s.applyOn.session = s.session ∧ s.applyOn.take.expected = s.take.expected
      ∧ s.applyOn.take.rx = s.take.rx ∧ s.applyOn.regions = s.regions := by
  have only := OnlyWork.beginFrame s h
  have same : (s.beginFrame f).take.buffer = [(q, f)] := by rw [only]; exact buffer
  rw [State.applyOn_applying s buffer idle applying same]
  split
  · rw [only]; exact ⟨rfl, rfl, rfl, rfl, rfl⟩
  · rw [State.completeHead_single _ same, only]; exact ⟨rfl, rfl, rfl, rfl, rfl⟩

/-- A SEG or MIR frame alone in the buffer that leaves the apply unit with work stays in its slot (R91). -/
theorem State.applyOn_of_work {q : Seq} {f : SeqFrame} (buffer : s.take.buffer = [(q, f)]) (idle : s.take.apply = none)
    (applying : s.applying = true) (h : (∃ n ws, f = .seg n ws) ∨ ∃ rs, f = .mir rs) (work : (s.beginFrame f).take.apply.isSome = true) :
    s.applyOn = s.beginFrame f := by
  have only := OnlyWork.beginFrame s h
  rw [State.applyOn_applying s buffer idle applying (by rw [only]; exact buffer), if_pos work]

/-- One that leaves it without work completes (R92). -/
theorem State.applyOn_of_no_work {q : Seq} {f : SeqFrame} (buffer : s.take.buffer = [(q, f)]) (idle : s.take.apply = none)
    (applying : s.applying = true) (h : (∃ n ws, f = .seg n ws) ∨ ∃ rs, f = .mir rs) (noWork : (s.beginFrame f).take.apply = none) :
    s.applyOn = { s.beginFrame f with
      take := { (s.beginFrame f).take with buffer := [], ackSeq := some q, freed := s.take.freed + 1, apply := none }
      link := { s.link with ackDue := true } } := by
  have only := OnlyWork.beginFrame s h
  have same : (s.beginFrame f).take.buffer = [(q, f)] := by rw [only]; exact buffer
  have freed : (s.beginFrame f).take.freed = s.take.freed := by rw [only]
  have link : (s.beginFrame f).link = s.link := by rw [only]
  rw [State.applyOn_applying s buffer idle applying same, noWork, if_neg (by simp), State.completeHead_single _ same, freed, link]

/-- A SEG frame of a tracked segment, alone in the buffer: its 64 words are to be written and read back (R93, R94). -/
theorem State.applyOn_seg_tracked {q : Seq} {n : BitVec 18} {ws : Vector Word 64} (buffer : s.take.buffer = [(q, .seg n ws)])
    (idle : s.take.apply = none) (applying : s.applying = true) (tracked : (s.installedClass n.toNat).tracked = true) : s.applyOn =
      { s.takeUse with take := { s.take with apply := some (.ofSegment s.walker.nextUse s.settings.retry n.toNat ws) } } := by
  have begun : s.beginFrame (.seg n ws) = _ := s.beginSeg_of_tracked n.toNat ws tracked
  rw [s.applyOn_of_work buffer idle applying (.inl ⟨n, ws, rfl⟩) (by rw [begun]; rfl), begun]

/-- A SEG frame of any other segment, alone in the buffer, completes as a failed verify (R20, R93). -/
theorem State.applyOn_seg_untracked {q : Seq} {n : BitVec 18} {ws : Vector Word 64} (buffer : s.take.buffer = [(q, .seg n ws)])
    (idle : s.take.apply = none) (applying : s.applying = true) (untracked : (s.installedClass n.toNat).tracked = false) : s.applyOn =
      { s.verifyFailed n.toNat .verify with
        take := { (s.verifyFailed n.toNat .verify).take with buffer := [], ackSeq := some q, freed := s.take.freed + 1, apply := none }
        link := { s.link with ackDue := true } } := by
  have begun : s.beginFrame (.seg n ws) = _ := s.beginSeg_of_untracked n.toNat ws untracked
  rw [s.applyOn_of_no_work buffer idle applying (.inl ⟨n, ws, rfl⟩) (by rw [begun]; simpa using idle), begun]

/-- A MIR frame with no record that can be written, alone in the buffer, completes, its records outside MIRROR failed (R98). -/
theorem State.applyOn_mir_done {q : Seq} {rs : List MirrorRecord} (buffer : s.take.buffer = [(q, .mir rs)])
    (idle : s.take.apply = none) (applying : s.applying = true) (failing : ∀ x ∈ rs, x.mask = 0 ∨ s.recordOutside x = true) : s.applyOn =
      { s.failRecords (rs.filter s.recordOutside) with
        take := { (s.failRecords (rs.filter s.recordOutside)).take with
          buffer := [], ackSeq := some q, freed := s.take.freed + 1, apply := none }
        link := { s.link with ackDue := true } } := by
  have begun : s.beginFrame (.mir rs) = { s.failRecords (rs.filter s.recordOutside) with
      take := { (s.failRecords (rs.filter s.recordOutside)).take with apply := none } } := by
    have appended := s.beginRecords_append s.settings.retry rs [] failing
    rw [List.append_nil] at appended
    exact appended
  rw [s.applyOn_of_no_work buffer idle applying (.inr ⟨rs, rfl⟩) (by rw [begun]), begun]

/-- A MIR frame alone in the buffer is worked on at its first record that can be written, those before it outside MIRROR failed (R97, R98). -/
theorem State.applyOn_mir_works {q : Seq} {before after : List MirrorRecord} {r : MirrorRecord}
    (buffer : s.take.buffer = [(q, .mir (before ++ r :: after))]) (idle : s.take.apply = none) (applying : s.applying = true)
    (failing : ∀ x ∈ before, x.mask = 0 ∨ s.recordOutside x = true) (mask : r.mask ≠ 0)
    (mirror : s.installedClass (segmentOf r.addr) = .mirror) : ∃ use, s.applyOn =
      { (s.failRecords (before.filter s.recordOutside)).takeUse with
        take := { s.take with failTotal := (s.failRecords (before.filter s.recordOutside)).take.failTotal
                              apply := some (.ofRecord use s.settings.retry r after) }
        link := s.link } := by
  have kept := s.failRecords_eq (before.filter s.recordOutside)
  have link : (s.failRecords (before.filter s.recordOutside)).link = s.link := by rw [kept]
  have take : (s.failRecords (before.filter s.recordOutside)).take
      = { s.take with failTotal := (s.failRecords (before.filter s.recordOutside)).take.failTotal } := congrArg State.take kept
  have begun : s.beginFrame (.mir (before ++ r :: after)) = _ :=
    (s.beginRecords_append s.settings.retry before (r :: after) failing).trans
      (State.beginRecords_cons _ _ r after mask (by rw [State.failRecords_installedClass]; exact mirror))
  refine ⟨(s.failRecords (before.filter s.recordOutside)).walker.nextUse, ?_⟩
  rw [s.applyOn_of_work buffer idle applying (.inr ⟨_, rfl⟩) (by rw [begun]; rfl), begun]
  generalize s.failRecords (before.filter s.recordOutside) = u at link take ⊢
  rw [← link]
  conv_lhs => rw [take]
  rfl

/-! ### The other frames -/

/-- A sequenced frame that is not accepted is discarded (R63, R83). -/
theorem State.seqArrives_discards (q : Seq) (f : SeqFrame)
    (h : s.link.numbering = false ∨ s.take.rx ≠ .inOrder ∨ q ≠ s.take.expected ∨ 8 ≤ s.take.buffer.length) :
    s.seqArrives q f = s.discardFrame := by
  have refused : s.acceptsSeq q = false := by
    rw [← Bool.not_eq_true]
    intro accepts
    simp only [State.acceptsSeq, Bool.and_eq_true, beq_iff_eq] at accepts
    obtain ⟨⟨⟨⟨-, numbering⟩, inOrder⟩, expected⟩, room⟩ := accepts
    rcases h with h | h | h | h
    · simp [numbering] at h
    · exact h inOrder
    · exact h expected
    · exact absurd (of_decide_eq_true room) (Nat.not_lt.2 h)
  rw [State.seqArrives, refused, Bool.and_false]
  rfl

/-- The frames and runs of bytes that are discarded at a part whose link is UP (R63, R83). -/
theorem exec_discarded {q : Seq} {f : SeqFrame} {bytes : List Byte} {c : Instr} (live : s.live = true) (up : s.link.state = .up)
    (session : s.inFeed = true ∨ s.inTake = true)
    (h : (c = .sequencedFrameReceived q f
          ∧ (s.inFeed = true ∨ s.link.numbering = false ∨ s.take.rx ≠ .inOrder ∨ q ≠ s.take.expected ∨ 8 ≤ s.take.buffer.length))
        ∨ (c = .frameDiscarded bytes ∧ checkedBody bytes = none)) : exec c s = .next s.fresh.discardFrame.settle := by
  rcases h with ⟨rfl, why⟩ | ⟨rfl, bad⟩
  · refine exec_of_effect rfl live ?_
    rcases session with feed | take
    · simp [State.takeReceives, up, feed]
    · refine (s.fresh.takeReceives_of_take _ take up).trans (s.fresh.seqArrives_discards q f (why.resolve_left ?_))
      simp [s.inFeed_of_inTake take]
  · have unread : readFrame 0 bytes = none := by rw [readFrame, bad]; rfl
    have discards : s.fresh.discards bytes = true := by rw [State.discards, unread]
    exact exec_of_effect rfl live (if_pos discards)

/-! ### The statement -/

theorem State.applying_of_state (take : s.inTake = true) (state : s.session.state = .receiving ∨ s.session.state = .synced) :
    s.applying = true := by
  rcases state with h | h <;> simp [State.applying, take, h]

/-- The class that a segment has while a take's session lasts, as its layout says (R20). -/
theorem State.accepted_recordOutside (q : Seq) (f : SeqFrame) (take : s.inTake = true) :
    (s.accepted q f).recordOutside = fun r : MirrorRecord => decide (r.mask ≠ 0
      ∧ (if s.session.layoutInstalled then classOfSegment s.regions (segmentOf r.addr) else .localOnly) ≠ .mirror) := by
  funext r
  rw [State.recordOutside, State.installedClass_of_take (s.accepted q f) take]
  rfl

/-- An apply under way leaves the frames behind it waiting (R91). -/
theorem State.applyOn_of_busy (h : s.take.apply ≠ none) : s.applyOn = s := by
  rw [State.applyOn, State.beginApply, if_pos (Option.isSome_iff_ne_none.2 h)]

/-- A state frame changes the session state, and raises STEP unless it is HANDOVER (R99). -/
theorem State.beginFrame_of_step {f : SeqFrame} (h : f = .instep ∨ f = .stale ∨ f = .handover) :
    (s.beginFrame f).session.state = (if f = .instep then .synced else if f = .stale then .receiving else .final)
      ∧ (s.beginFrame f).take = s.take ∧ (s.beginFrame f).link = s.link ∧ (s.beginFrame f).regions = s.regions
      ∧ (s.beginFrame f).faults = s.faults ∧ (s.beginFrame f).out = s.out
      ∧ (f ≠ .handover → (s.beginFrame f).notices.step.pending = true) := by
  rcases h with rfl | rfl | rfl <;> simp [State.beginFrame, State.raise, State.requestReport, Notices.set, raised]

/-- A MIR frame that arrives holds a record (R61). -/
theorem records_ne_nil {rs : List MirrorRecord} (wf : (SeqFrame.mir rs).wf = true) : rs ≠ [] := by
  rintro rfl
  exact absurd wf (by decide)

/-- What fails in FINAL moves only the failures (R100). -/
theorem State.failInFinal_moved (f : SeqFrame) : s.failInFinal f = { s with
    take := { s.take with failTotal := (s.failInFinal f).take.failTotal }
    faults := (s.failInFinal f).faults
    notices := (s.failInFinal f).notices
    signals := (s.failInFinal f).signals } := by
  cases f with
  | seg n ws => rw [State.failInFinal, State.verifyFailed_eq]
  | mir rs => exact s.failRecords_eq rs
  | _ => rfl

/-- Settles O51. -/
theorem sequencedFramesAreTakenInOrder : Obligations.SequencedFramesAreTakenInOrder := by
  intro q f bytes s live up settled
  refine ⟨fun take numbering inOrder expected wf => ⟨fun room busy => ?_, fun empty idle state step => ?_, fun empty idle state => ?_,
    fun empty idle final => ?_⟩, fun c command => ⟨fun h => ?_, fun h => ?_⟩⟩
  · have run := exec_sequenced_accepted s live take up numbering inOrder expected wf room
    rw [run, State.applyOn_of_busy (s.accepted q f) busy]
    exact congrArg _ (s.settle_link_take settled _ _ rfl rfl)
  · have run := exec_sequenced_accepted s live take up numbering inOrder expected wf (by simp [empty])
    have buffer : (s.accepted q f).take.buffer = [(q, f)] := by simp [State.accepted, empty]
    have applying : (s.accepted q f).applying = true := s.applying_of_state take state
    obtain ⟨hstate, htake, hlink, hregions, hfaults, hout, hnotice⟩ := (s.accepted q f).beginFrame_of_step step
    refine ⟨_, run, ?_⟩
    have same : ((s.accepted q f).beginFrame f).take.buffer = [(q, f)] := by rw [htake]; exact buffer
    rw [State.applyOn_applying _ buffer idle applying same, htake, if_neg (by simp [State.accepted, idle]),
      State.completeHead_single _ same, htake]
    generalize (s.accepted q f).beginFrame f = b at *
    refine ⟨by simpa using hstate, ?_, by simp, fun h => by simpa using hnotice h, by simp [hregions, State.accepted],
      by simp [hfaults, State.accepted], by simp [hout, State.accepted]⟩
    rw [State.settle_take]
    simp [State.accepted, empty, idle]
  · intro cls waits done failed outside n ws before after r kind
    have run := exec_sequenced_accepted s live take up numbering inOrder expected wf (by simp [empty])
    have buffer : (s.accepted q f).take.buffer = [(q, f)] := by simp [State.accepted, empty]
    have applying : (s.accepted q f).applying = true := s.applying_of_state take state
    have hcls (k : Segment) : (s.accepted q f).installedClass k = cls k := State.installedClass_of_take (s.accepted q f) take k
    have houtside : (s.accepted q f).recordOutside = outside := s.accepted_recordOutside q f take
    have shape : (∃ n ws, f = .seg n ws) ∨ ∃ rs, f = .mir rs := by
      rcases kind with rfl | rfl | rfl
      · exact .inl ⟨n, ws, rfl⟩
      · exact .inr ⟨before, rfl⟩
      · exact .inr ⟨before ++ r :: after, rfl⟩
    obtain ⟨hout, hsession, hexpected, hrx, hregions⟩ := (s.accepted q f).applyOn_moved buffer idle applying shape
    have fails (t : State) (faults : t.faults = ((s.accepted q f).failRecords (before.filter outside)).faults)
        (total : t.take.failTotal = ((s.accepted q f).failRecords (before.filter outside)).take.failTotal) :
        failed t (before.filter outside) := by
      refine ⟨?_, ?_, fun some => ?_⟩
      · rw [faults]; exact State.failRecords_list _ _ s.faults rfl
      · rw [total]; exact State.failRecords_failTotal _ _
      · rw [faults]; exact State.failRecords_summary _ _ some
    have calm : (s.accepted q f).applyOn.session.state ≠ .steady ∧ (s.accepted q f).applyOn.session.state ≠ .handover := by
      rw [hsession]
      rcases state with h | h <;> simp [State.accepted, h]
    refine ⟨_, run, by rw [State.settle_out, hout]; rfl, ?_, by rw [State.settle_take, hexpected]; rfl,
      by rw [State.settle_take, hrx]; exact inOrder, by rw [State.settle_regions, hregions]; rfl, fun hf tracked => ?_, fun hf untracked => ?_, fun hf failing => ?_,
      fun hf failing mask mirror => ?_⟩
    · rw [State.settle_session _ (.inr calm), hsession]
      rfl
    · subst hf
      have class' : ((s.accepted q (.seg n ws)).installedClass n.toNat).tracked = true := by
        rw [hcls]; rcases tracked with h | h <;> rw [h] <;> rfl
      rw [State.applyOn_seg_tracked _ buffer idle applying class', State.settle_faults]
      simp only [waits, State.settle_take, State.settle_link]
      exact ⟨rfl, _, ⟨buffer, rfl, rfl, rfl, rfl, rfl, rfl, rfl, rfl, rfl, rfl⟩, rfl, rfl, rfl, rfl⟩
    · subst hf
      have class' : ((s.accepted q (.seg n ws)).installedClass n.toNat).tracked = false := by
        rw [hcls]; rcases untracked with h | h <;> rw [h] <;> rfl
      rw [State.applyOn_seg_untracked _ buffer idle applying class']
      refine ⟨by simp [done, State.accepted], verifyFailAdded_of_verifyFailed (u := s.accepted q (.seg n ws)) rfl rfl ?_ ?_ ?_⟩
      · rw [State.settle_faults]
      · rw [State.settle_take]
      · rw [State.settle_notices]
    · subst hf
      rw [State.applyOn_mir_done _ buffer idle applying (by rw [houtside]; exact failing), houtside]
      refine ⟨by simp [done, State.accepted], fails _ ?_ ?_⟩
      · rw [State.settle_faults]
      · rw [State.settle_take]
    · subst hf
      obtain ⟨use, works⟩ := State.applyOn_mir_works _ buffer idle applying (by rw [houtside]; exact failing) mask ((hcls _).trans mirror)
      rw [works, houtside]
      refine ⟨fails _ ?_ ?_, ?_⟩
      · rw [State.settle_faults]; rfl
      · rw [State.settle_take]
      · simp only [waits, State.settle_take, State.settle_link]
        exact ⟨_, ⟨buffer, rfl, rfl, rfl, rfl, rfl, rfl, rfl, rfl, rfl, rfl⟩, rfl, rfl, rfl, rfl⟩
  · have run := exec_sequenced_accepted s live take up numbering inOrder expected wf (by simp [empty])
    have buffer : (s.accepted q f).take.buffer = [(q, f)] := by simp [State.accepted, empty]
    have moved := (s.accepted q f).failInFinal_moved f
    have same : ((s.accepted q f).failInFinal f).take.buffer = [(q, f)] := by rw [moved]; exact buffer
    refine ⟨_, run, ?_⟩
    rw [State.applyOn_final (s.accepted q f) buffer idle take final same, State.completeHead_single _ same]
    generalize hx : (s.accepted q f).failInFinal f = x at moved ⊢
    have session : x.session = s.session := by rw [moved]; rfl
    rw [State.settle_session _ (.inr (by simp [session, final]))]
    simp only [State.settle_out, State.settle_take, State.settle_link]
    refine ⟨by rw [moved]; rfl, session, trivial, trivial, by rw [moved]; rfl, trivial, by rw [moved]; rfl, trivial, fun n ws hf => ?_,
      fun rs hf => ⟨?_, ?_, ?_⟩, fun hf => ?_⟩
    · subst hf hx
      exact verifyFailAdded_of_verifyFailed (u := s.accepted q (.seg n ws)) rfl rfl (by rw [State.settle_faults]; rfl)
        (by rw [State.settle_take]; rfl) (by rw [State.settle_notices]; rfl)
    · subst hf hx
      refine (State.failRecords_failTotal (s.accepted q (.mir rs)) rs).trans (if_neg (records_ne_nil wf))
    · subst hf hx
      rw [State.settle_faults]
      exact State.failRecords_list (s.accepted q (.mir rs)) rs s.faults rfl
    · subst hf hx
      rw [State.settle_faults]
      exact State.failRecords_summary (s.accepted q (.mir rs)) rs (records_ne_nil wf)
    · rw [State.settle_faults, ← hx]
      rcases hf with rfl | rfl | rfl <;> exact ⟨rfl, rfl⟩
  · obtain ⟨take, numbering, inOrder⟩ := h
    rw [exec_discarded s live up (.inr take) command, s.fresh.discardFrame_inOrder up take numbering inOrder]
    exact congrArg _ (s.settle_link_take settled _ _ rfl rfl)
  · have session : s.inFeed = true ∨ s.inTake = true := h.imp_right And.left
    have quiet : s.inTake = false ∨ s.link.numbering = false ∨ s.take.rx ≠ .inOrder :=
      h.imp s.inTake_of_inFeed And.right
    rw [exec_discarded s live up session command, s.fresh.discardFrame_counted up quiet]
    exact congrArg _ (s.settle_link_take settled _ s.take rfl rfl)

end Sys2Proof.Machine
end

section
/-! PROOFS. The last verify response of a round of the apply or the fill unit (O55). -/

namespace Sys2Proof.Machine

open Sys2Proof

variable (s : State)

/-! ### The end of a round (R94, R95, R96) -/

/-- The words of a round that read back wrong once its last verify read `i` is answered (R94). -/
def VerifyJob.badAfter (j : VerifyJob) (i : VerifyItem) (status : Status) (data : Word) : List VerifyItem :=
  j.bad ++ (if status = .fault ∨ keepBytes i.mask data ≠ keepBytes i.mask i.data then [i] else [])

/-- The last response of a round ends it (R94). -/
theorem VerifyJob.next_respond_last (j : VerifyJob) {i : VerifyItem} (status : Status) (data : Word) (writes : j.writes = [])
    (reads : j.reads = []) (awaiting : j.awaiting = [i]) : (j.respond status data).next =
      if j.badAfter i status data = [] then .verified
      else if j.round < j.limit then .running { j with
        round := j.round + 1, writes := j.badAfter i status data, reads := j.badAfter i status data, awaiting := [], bad := [] }
      else .exhausted := by
  have bad : (if mismatch i status data then j.bad ++ [i] else j.bad) = j.badAfter i status data := by
    have test : mismatch i status data = true ↔ status = .fault ∨ keepBytes i.mask data ≠ keepBytes i.mask i.data := by
      simp [mismatch]
    unfold VerifyJob.badAfter
    by_cases h : mismatch i status data = true
    · rw [if_pos h, if_pos (test.1 h)]
    · rw [if_neg h, if_neg (mt test.2 h), List.append_nil]
  have answered : j.respond status data = { j with awaiting := [], bad := j.badAfter i status data } := by
    unfold VerifyJob.respond
    rw [awaiting]
    dsimp only
    rw [bad]
  rw [answered, VerifyJob.next, writes, reads]
  simp only [List.isEmpty_nil, Bool.and_self, if_true, List.isEmpty_iff]

/-! ### The response (R12) -/

/-- The part as its oldest read is answered, the entry off the read return list (R12). -/
def State.answered (rest : List ReturnEntry) (s : State) : State := { s.fresh with path := { s.path with returns := rest } }

/-- A response for the apply unit goes to it (R12). -/
theorem exec_readResponse_apply {use : Nat} {addr : Addr} {rest : List ReturnEntry} (status : Status) (data : Word) (live : s.live = true)
    (returns : s.path.returns = { requester := .apply use, addr := addr } :: rest) :
    exec (.readResponse status data) s = .next ((s.answered rest).applyResponse use status data).settle := by
  have power : s.chassis.power = true := by
    have both : (s.chassis.power && s.chassis.resetN) = true := live
    exact (Bool.and_eq_true _ _ ▸ both).1
  have answer : s.fresh.readAnswer status data = (s.answered rest).applyResponse use status data := by
    have list : s.fresh.path.returns = { requester := .apply use, addr := addr } :: rest := returns
    rw [State.readAnswer, list]
    rfl
  have effect : exec (.readResponse status data) s = .next (s.fresh.readAnswer status data).settle :=
    congrArg (fun u : State => Host.Outcome.next u.settle) (if_pos power)
  rw [effect, answer]

/-- A response for the fill unit goes to it (R12). -/
theorem exec_readResponse_fill {use : Nat} {addr : Addr} {rest : List ReturnEntry} (status : Status) (data : Word) (live : s.live = true)
    (returns : s.path.returns = { requester := .fill use, addr := addr } :: rest) :
    exec (.readResponse status data) s = .next ((s.answered rest).fillResponse use status data).settle := by
  have power : s.chassis.power = true := by
    have both : (s.chassis.power && s.chassis.resetN) = true := live
    exact (Bool.and_eq_true _ _ ▸ both).1
  have answer : s.fresh.readAnswer status data = (s.answered rest).fillResponse use status data := by
    have list : s.fresh.path.returns = { requester := .fill use, addr := addr } :: rest := returns
    rw [State.readAnswer, list]
    rfl
  have effect : exec (.readResponse status data) s = .next (s.fresh.readAnswer status data).settle :=
    congrArg (fun u : State => Host.Outcome.next u.settle) (if_pos power)
  rw [effect, answer]

/-! ### The apply unit's round ends -/

/-- The last response of a round of the apply under way: the record or frame ends, or a rewrite round begins (R95, R96). -/
theorem State.applyResponse_last {a : ApplyWork} {i : VerifyItem} (status : Status) (data : Word) (apply : s.take.apply = some a)
    (applying : s.applying = true) (writes : a.job.writes = []) (reads : a.job.reads = []) (awaiting : a.job.awaiting = [i]) :
    s.applyResponse a.job.use status data =
      if a.job.badAfter i status data = [] then s.endApply a true
      else if a.job.round < a.job.limit then { s with take := { s.take with apply := some { a with job := { a.job with
        round := a.job.round + 1, writes := a.job.badAfter i status data, reads := a.job.badAfter i status data, awaiting := [],
        bad := [] } } } }
      else s.endApply a false := by
  unfold State.applyResponse
  rw [apply]
  dsimp only
  rw [applying, beq_self_eq_true, Bool.and_self, if_pos rfl, a.job.next_respond_last status data writes reads awaiting]
  by_cases good : a.job.badAfter i status data = []
  · rw [if_pos good, if_pos good]
  · rw [if_neg good, if_neg good]
    by_cases more : a.job.round < a.job.limit
    · rw [if_pos more, if_pos more]
    · rw [if_neg more, if_neg more]

/-- What an outcome moves: the fault records and the fail total (R96, R98). -/
theorem OnlyWork.applyOutcome (a : ApplyWork) (ok : Bool) : OnlyWork s (s.applyOutcome a ok) := by
  unfold State.applyOutcome
  split
  · split
    · exact .clearFault s _
    · rfl
  · exact .verifyFailed s _ _

/-- Behind the last frame of the buffer the apply unit has nothing to go on with (R91, R92). -/
theorem State.endApply_single {q : Seq} {f : SeqFrame} (a : ApplyWork) (ok : Bool) (buffer : s.take.buffer = [(q, f)]) :
    s.endApply a ok =
      if ((s.applyOutcome a ok).beginRecords a.limit a.rest).take.apply.isSome
      then (s.applyOutcome a ok).beginRecords a.limit a.rest
      else ((s.applyOutcome a ok).beginRecords a.limit a.rest).completeHead := by
  have only : OnlyWork s ((s.applyOutcome a ok).beginRecords a.limit a.rest) :=
    (OnlyWork.applyOutcome s a ok).trans (.beginRecords _ _ _)
  have same : ((s.applyOutcome a ok).beginRecords a.limit a.rest).take.buffer = [(q, f)] := by rw [only]; exact buffer
  unfold State.endApply
  dsimp only
  split
  · rfl
  · rw [State.applyOn]
    exact State.beginApply_of_empty _ _ (by rw [State.completeHead_single _ same])

/-- With no record left that needs memory the frame completes (R92). -/
theorem State.endApply_done {q : Seq} {f : SeqFrame} (a : ApplyWork) (ok : Bool) (buffer : s.take.buffer = [(q, f)])
    (noWork : (s.applyOutcome a ok).beginRecords a.limit a.rest = { s.applyOutcome a ok with
      take := { (s.applyOutcome a ok).take with apply := none } }) : s.endApply a ok = { s.applyOutcome a ok with
        take := { (s.applyOutcome a ok).take with buffer := [], ackSeq := some q, freed := s.take.freed + 1, apply := none }
        link := { s.link with ackDue := true } } := by
  have only := OnlyWork.applyOutcome s a ok
  have same : (s.applyOutcome a ok).take.buffer = [(q, f)] := by rw [only]; exact buffer
  have freed : (s.applyOutcome a ok).take.freed = s.take.freed := by rw [only]
  have link : (s.applyOutcome a ok).link = s.link := by rw [only]
  have single : ((s.applyOutcome a ok).beginRecords a.limit a.rest).take.buffer = [(q, f)] := by rw [noWork]; exact same
  rw [s.endApply_single a ok buffer, if_neg (by rw [noWork]; simp), State.completeHead_single _ single, noWork]
  rw [← freed, ← link]

/-- What the end of a round leaves, whatever it leads to (R92, R96, R98). -/
theorem State.endApply_moved {q : Seq} {f : SeqFrame} (a : ApplyWork) (ok : Bool) (buffer : s.take.buffer = [(q, f)]) :
    (s.endApply a ok).path = s.path ∧ (s.endApply a ok).session = s.session ∧ (s.endApply a ok).regions = s.regions
      ∧ (s.endApply a ok).link.state = s.link.state ∧ (s.endApply a ok).take.expected = s.take.expected
      ∧ (s.endApply a ok).take.rx = s.take.rx := by
  have only : OnlyWork s ((s.applyOutcome a ok).beginRecords a.limit a.rest) :=
    (OnlyWork.applyOutcome s a ok).trans (.beginRecords _ _ _)
  have same : ((s.applyOutcome a ok).beginRecords a.limit a.rest).take.buffer = [(q, f)] := by rw [only]; exact buffer
  rw [s.endApply_single a ok buffer]
  split
  · rw [only]; exact ⟨rfl, rfl, rfl, rfl, rfl, rfl⟩
  · rw [State.completeHead_single _ same, only]; exact ⟨rfl, rfl, rfl, rfl, rfl, rfl⟩

/-- A segment that verifies leaves the fault list (R110). -/
theorem State.clearFault_faults (n : Segment) :
    (s.clearFault n).faults = { s.faults with list := s.faults.list.filter fun e => e.1 ≠ n } := by
  unfold State.clearFault
  split
  · rfl
  · next absent =>
    have all : (s.faults.list.filter fun e => e.1 ≠ n) = s.faults.list := by
      refine List.filter_eq_self.2 fun e mem => decide_eq_true fun key => absent ?_
      exact List.any_eq_true.2 ⟨e, mem, by simpa using key⟩
    rw [all]

theorem OnlyWork.installedClass {s t : State} (h : OnlyWork s t) (n : Segment) : t.installedClass n = s.installedClass n := by
  rw [h]
  rfl

/-- Records of which none fails at once leave the failures as they were (R98). -/
theorem State.beginRecords_faults (limit : Nat) (rs : List MirrorRecord)
    (none_fails : ∀ r ∈ rs, r.mask = 0 ∨ s.installedClass (segmentOf r.addr) = .mirror) :
    (s.beginRecords limit rs).faults = s.faults ∧ (s.beginRecords limit rs).take.failTotal = s.take.failTotal
      ∧ (s.beginRecords limit rs).notices = s.notices := by
  induction rs with
  | nil => exact ⟨rfl, rfl, rfl⟩
  | cons r rs ih =>
    rw [State.beginRecords]
    by_cases mask : r.mask = 0
    · rw [if_pos mask]
      exact ih (List.forall_mem_of_forall_mem_cons none_fails)
    · rw [if_neg mask, if_pos ((none_fails r List.mem_cons_self).resolve_left mask)]
      exact ⟨rfl, rfl, rfl⟩

/-- The failures after an outcome, no record behind it failing at once, are those of the outcome (R96, R98). -/
theorem State.endApply_faults {q : Seq} {f : SeqFrame} (a : ApplyWork) (ok : Bool) (buffer : s.take.buffer = [(q, f)])
    (none_fails : ∀ r ∈ a.rest, r.mask = 0 ∨ s.installedClass (segmentOf r.addr) = .mirror) :
    (s.endApply a ok).faults = (s.applyOutcome a ok).faults
      ∧ (s.endApply a ok).take.failTotal = (s.applyOutcome a ok).take.failTotal
      ∧ (s.endApply a ok).notices = (s.applyOutcome a ok).notices := by
  have outcome := OnlyWork.applyOutcome s a ok
  have only : OnlyWork s ((s.applyOutcome a ok).beginRecords a.limit a.rest) := outcome.trans (.beginRecords _ _ _)
  have same : ((s.applyOutcome a ok).beginRecords a.limit a.rest).take.buffer = [(q, f)] := by rw [only]; exact buffer
  have begun := (s.applyOutcome a ok).beginRecords_faults a.limit a.rest fun r mem => by
    rw [outcome.installedClass]
    exact none_fails r mem
  rw [s.endApply_single a ok buffer]
  split
  · exact begun
  · rw [State.completeHead_single _ same]
    exact begun

/-- Records with empty masks need no memory and leave nothing (R97). -/
theorem State.beginRecords_skip (limit : Nat) (before rest : List MirrorRecord) (h : ∀ x ∈ before, x.mask = 0) :
    s.beginRecords limit (before ++ rest) = s.beginRecords limit rest := by
  have none_outside : before.filter s.recordOutside = [] := by
    refine List.filter_eq_nil_iff.2 fun x mem => ?_
    simp [State.recordOutside, h x mem]
  rw [s.beginRecords_append limit before rest fun x mem => .inl (h x mem), none_outside]
  rfl

/-- A frame whose records behind the outcome have empty masks completes (R92, R97). -/
theorem State.endApply_skips {q : Seq} {f : SeqFrame} (a : ApplyWork) (ok : Bool) (buffer : s.take.buffer = [(q, f)])
    (skipped : ∀ r ∈ a.rest, r.mask = 0) : s.endApply a ok = { s.applyOutcome a ok with
        take := { (s.applyOutcome a ok).take with buffer := [], ackSeq := some q, freed := s.take.freed + 1, apply := none }
        link := { s.link with ackDue := true } } := by
  refine s.endApply_done a ok buffer ?_
  have skip := (s.applyOutcome a ok).beginRecords_skip a.limit a.rest [] skipped
  rwa [List.append_nil] at skip

/-- The next record that needs memory begins behind the outcome (R97, R98). -/
theorem State.endApply_goes_on {q : Seq} {f : SeqFrame} (a : ApplyWork) (ok : Bool) (buffer : s.take.buffer = [(q, f)])
    {before after : List MirrorRecord} {r : MirrorRecord} (records : a.rest = before ++ r :: after) (skipped : ∀ x ∈ before, x.mask = 0)
    (mask : r.mask ≠ 0) (mirror : s.installedClass (segmentOf r.addr) = .mirror) : ∃ use, s.endApply a ok =
      { (s.applyOutcome a ok).takeUse with
        take := { (s.applyOutcome a ok).take with apply := some (.ofRecord use a.limit r after) } } := by
  have outcome := OnlyWork.applyOutcome s a ok
  have begun := ((s.applyOutcome a ok).beginRecords_skip a.limit before (r :: after) skipped).trans
    (State.beginRecords_cons _ a.limit r after mask (by rw [outcome.installedClass]; exact mirror))
  rw [← records] at begun
  exact ⟨_, by rw [s.endApply_single a ok buffer, if_pos (by rw [begun]; rfl), begun]⟩

/-! ### The outcome (R96, R98) -/

theorem State.applyOutcome_seg {a : ApplyWork} (kind : a.kind = .seg) : s.applyOutcome a true = s.clearFault a.segment := by
  rw [State.applyOutcome, if_pos rfl, kind]
  rfl

theorem State.applyOutcome_mir {a : ApplyWork} (kind : a.kind = .mir) : s.applyOutcome a true = s := by
  rw [State.applyOutcome, if_pos rfl, kind]

theorem State.applyOutcome_failed (a : ApplyWork) : s.applyOutcome a false = s.verifyFailed a.segment .verify := rfl

/-! ### The fill unit's round ends (R105) -/

/-- The last response of a round of the fill segment under way: the segment ends, or a rewrite round begins (R105). -/
theorem State.fillResponse_last {w : FillWork} {i : VerifyItem} (status : Status) (data : Word) (fill : s.take.fill = some w)
    (filling : s.filling = true) (writes : w.job.writes = []) (reads : w.job.reads = []) (awaiting : w.job.awaiting = [i]) :
    s.fillResponse w.job.use status data =
      if w.job.badAfter i status data = [] then s.endFill w true
      else if w.job.round < w.job.limit then { s with take := { s.take with fill := some { w with job := { w.job with
        round := w.job.round + 1, writes := w.job.badAfter i status data, reads := w.job.badAfter i status data, awaiting := [],
        bad := [] } } } }
      else s.endFill w false := by
  unfold State.fillResponse
  rw [fill]
  dsimp only
  rw [filling, beq_self_eq_true, Bool.and_self, if_pos rfl, w.job.next_respond_last status data writes reads awaiting]
  by_cases good : w.job.badAfter i status data = []
  · rw [if_pos good, if_pos good]
  · rw [if_neg good, if_neg good]
    by_cases more : w.job.round < w.job.limit
    · rw [if_pos more, if_pos more]
    · rw [if_neg more, if_neg more]

/-- The outcome of a fill segment (R105). -/
def State.fillOutcome (w : FillWork) (ok : Bool) (s : State) : State :=
  if ok then s.clearFault w.segment else s.verifyFailed w.segment .fill

theorem State.endFill_eq (w : FillWork) (ok : Bool) : s.endFill w ok = (s.fillOutcome w ok).fillFrom (w.place + 1) := rfl

theorem OnlyWork.fillOutcome (w : FillWork) (ok : Bool) : OnlyWork s (s.fillOutcome w ok) := by
  unfold State.fillOutcome
  split
  · exact .clearFault s _
  · exact .verifyFailed s _ _

/-- What the fill unit's going on leaves (R105, R106). -/
theorem State.fillFrom_moved (place : Nat) : (s.fillFrom place).path = s.path ∧ (s.fillFrom place).regions = s.regions
    ∧ (s.fillFrom place).link.state = s.link.state ∧ (s.fillFrom place).out = s.out ∧ (s.fillFrom place).faults = s.faults
    ∧ (s.fillFrom place).take.failTotal = s.take.failTotal ∧ (s.fillFrom place).notices.fault = s.notices.fault := by
  rcases h : (fillOrder s.regions)[place]? with _ | n
  · have notice : s.fillsFinished.notices.fault = s.notices.fault :=
      State.setState_notices _ .receiving .fault (by decide)
    rw [s.fillFrom_of_none h]
    refine ⟨?_, ?_, ?_, ?_, ?_, ?_, notice⟩ <;> rw [State.fillsFinished_eq]
  · rw [s.fillFrom_of_some h]
    exact ⟨rfl, rfl, rfl, rfl, rfl, rfl, rfl⟩

/-- Settles O55. -/
theorem segApplyEndsByItsLastRound : Obligations.SegApplyEndsByItsLastRound := by
  refine ⟨?_, ?_⟩
  · intro s a i q f addr rest status data live take state returns apply writes reads awaiting buffer bad done
    have applying : (s.answered rest).applying = true := State.applying_of_state (s.answered rest) take state
    have buffer' : (s.answered rest).take.buffer = [(q, f)] := buffer
    have last := (s.answered rest).applyResponse_last status data apply applying writes reads awaiting
    have good (h : bad = []) : (s.answered rest).applyResponse a.job.use status data = (s.answered rest).endApply a true :=
      last.trans (if_pos h)
    have again (h : bad ≠ []) (more : a.job.round < a.job.limit) : (s.answered rest).applyResponse a.job.use status data =
        { s.answered rest with take := { s.take with apply := some { a with job :=
          { a.job with round := a.job.round + 1, writes := bad, reads := bad, awaiting := [], bad := [] } } } } :=
      last.trans ((if_neg h).trans (if_pos more))
    have exhausted (h : bad ≠ []) (limit : a.job.limit ≤ a.job.round) :
        (s.answered rest).applyResponse a.job.use status data = (s.answered rest).endApply a false :=
      last.trans ((if_neg h).trans (if_neg (Nat.not_lt.2 limit)))
    have ends (h : bad = [] ∨ a.job.limit ≤ a.job.round) :
        ∃ ok, (s.answered rest).applyResponse a.job.use status data = (s.answered rest).endApply a ok := by
      by_cases match' : bad = []
      · exact ⟨true, good match'⟩
      · exact ⟨false, exhausted match' (h.resolve_left match')⟩
    have moved : ((s.answered rest).applyResponse a.job.use status data).path.returns = rest
        ∧ ((s.answered rest).applyResponse a.job.use status data).session = s.session
        ∧ ((s.answered rest).applyResponse a.job.use status data).regions = s.regions
        ∧ ((s.answered rest).applyResponse a.job.use status data).link.state = s.link.state
        ∧ ((s.answered rest).applyResponse a.job.use status data).take.expected = s.take.expected
        ∧ ((s.answered rest).applyResponse a.job.use status data).take.rx = s.take.rx := by
      by_cases h : bad ≠ [] ∧ a.job.round < a.job.limit
      · rw [again h.1 h.2]
        exact ⟨rfl, rfl, rfl, rfl, rfl, rfl⟩
      · obtain ⟨ok, ended⟩ := ends (by
          by_cases match' : bad = []
          · exact .inl match'
          · exact .inr (Nat.not_lt.1 fun more => h ⟨match', more⟩))
        obtain ⟨path, session, regions, link, expected, rx⟩ := (s.answered rest).endApply_moved a ok buffer'
        rw [ended, path]
        exact ⟨rfl, session, regions, link, expected, rx⟩
    obtain ⟨hpath, hsession, hregions, hlink, hexpected, hrx⟩ := moved
    refine ⟨_, exec_readResponse_apply s status data live returns, by rw [State.settle_path_returns, hpath],
      by rw [State.settle_session_state, hsession], by rw [State.settle_regions, hregions], by rw [State.settle_link, hlink],
      by rw [State.settle_take, hexpected], by rw [State.settle_take, hrx], fun mismatched more => ?_, fun kind alone => ⟨fun h => ?_,
      fun h limit => ?_⟩, fun kind none_fails => ⟨fun h => ?_, fun h limit => ?_⟩, fun kind finished => ⟨fun skipped => ?_,
      fun before r after records skipped mask mirror => ?_⟩⟩
    · rw [again mismatched more]
      simp [State.answered]
    · rw [good h, State.endApply_skips _ a true buffer' (by simp [alone]), State.applyOutcome_seg _ kind]
      simp [State.clearFault_faults, State.answered, done]
    · rw [exhausted h limit, State.endApply_skips _ a false buffer' (by simp [alone]), State.applyOutcome_failed]
      have take' := congrArg State.take ((s.answered rest).verifyFailed_eq a.segment .verify)
      refine ⟨by rw [State.settle_take, take']; rfl, by rw [State.settle_link],
        verifyFailAdded_of_verifyFailed (u := s.answered rest) rfl rfl ?_ ?_ ?_⟩
      · rw [State.settle_faults]
      · rw [State.settle_take]
      · rw [State.settle_notices]
    · obtain ⟨faults, total, -⟩ := (s.answered rest).endApply_faults a true buffer' none_fails
      rw [good h, State.settle_faults, State.settle_take, faults, total, State.applyOutcome_mir _ kind]
      exact ⟨rfl, rfl⟩
    · obtain ⟨faults, total, notices⟩ := (s.answered rest).endApply_faults a false buffer' none_fails
      rw [exhausted h limit]
      exact verifyFailAdded_of_verifyFailed (u := s.answered rest) rfl rfl (by rw [State.settle_faults, faults]; rfl)
        (by rw [State.settle_take, total]; rfl) (by rw [State.settle_notices, notices]; rfl)
    · obtain ⟨ok, ended⟩ := ends finished
      have take' := congrArg State.take (OnlyWork.applyOutcome (s.answered rest) a ok)
      rw [ended, State.endApply_skips _ a ok buffer' skipped, State.settle_link, State.settle_take, take']
      exact ⟨rfl, rfl⟩
    · obtain ⟨ok, ended⟩ := ends finished
      obtain ⟨use, works⟩ := (s.answered rest).endApply_goes_on a ok buffer' records skipped mask mirror
      have only := OnlyWork.applyOutcome (s.answered rest) a ok
      rw [ended, works, State.settle_take, State.settle_link]
      generalize (s.answered rest).applyOutcome a ok = y at only
      rw [only]
      exact ⟨rfl, rfl, rfl, rfl, _, rfl, rfl, rfl, rfl, rfl, rfl, rfl, rfl, rfl, rfl, rfl⟩
  · intro s w i addr rest status data live take install returns fill writes reads awaiting bad
    have filling : (s.answered rest).filling = true := by
      have inTake : (s.answered rest).inTake = true := take
      have state : (s.answered rest).session.state = .install := install
      simp [State.filling, inTake, state]
    have last := (s.answered rest).fillResponse_last status data fill filling writes reads awaiting
    have good (h : bad = []) : (s.answered rest).fillResponse w.job.use status data = (s.answered rest).endFill w true :=
      last.trans (if_pos h)
    have again (h : bad ≠ []) (more : w.job.round < w.job.limit) : (s.answered rest).fillResponse w.job.use status data =
        { s.answered rest with take := { s.take with fill := some { w with job :=
          { w.job with round := w.job.round + 1, writes := bad, reads := bad, awaiting := [], bad := [] } } } } :=
      last.trans ((if_neg h).trans (if_pos more))
    have exhausted (h : bad ≠ []) (limit : w.job.limit ≤ w.job.round) :
        (s.answered rest).fillResponse w.job.use status data = (s.answered rest).endFill w false :=
      last.trans ((if_neg h).trans (if_neg (Nat.not_lt.2 limit)))
    have ends (h : bad = [] ∨ w.job.limit ≤ w.job.round) :
        ∃ ok, (s.answered rest).fillResponse w.job.use status data = (s.answered rest).endFill w ok := by
      by_cases match' : bad = []
      · exact ⟨true, good match'⟩
      · exact ⟨false, exhausted match' (h.resolve_left match')⟩
    have moved : ((s.answered rest).fillResponse w.job.use status data).path.returns = rest
        ∧ ((s.answered rest).fillResponse w.job.use status data).regions = s.regions
        ∧ ((s.answered rest).fillResponse w.job.use status data).link.state = s.link.state
        ∧ ((s.answered rest).fillResponse w.job.use status data).out = .none := by
      by_cases h : bad ≠ [] ∧ w.job.round < w.job.limit
      · rw [again h.1 h.2]
        exact ⟨rfl, rfl, rfl, rfl⟩
      · obtain ⟨ok, ended⟩ := ends (by
          by_cases match' : bad = []
          · exact .inl match'
          · exact .inr (Nat.not_lt.1 fun more => h ⟨match', more⟩))
        obtain ⟨path, regions, link, out, -⟩ := ((s.answered rest).fillOutcome w ok).fillFrom_moved (w.place + 1)
        rw [ended, State.endFill_eq, path, regions, link, out, OnlyWork.fillOutcome (s.answered rest) w ok]
        exact ⟨rfl, rfl, rfl, rfl⟩
    obtain ⟨hpath, hregions, hlink, hout⟩ := moved
    refine ⟨_, exec_readResponse_fill s status data live returns, by rw [State.settle_path_returns, hpath],
      by rw [State.settle_regions, hregions], by rw [State.settle_link, hlink], by rw [State.settle_out, hout],
      fun mismatched more => ?_, fun h => ?_, fun h limit => ?_, fun finished => ⟨fun n next => ?_, fun none_left => ?_⟩⟩
    · rw [again mismatched more, State.settle_session _ (.inr (by simp [State.answered, install]))]
      simp [State.answered]
    · obtain ⟨-, -, -, -, faults, total, -⟩ := ((s.answered rest).fillOutcome w true).fillFrom_moved (w.place + 1)
      rw [good h, State.endFill_eq, State.settle_faults, State.settle_take, faults, total]
      exact ⟨(s.answered rest).clearFault_faults w.segment, by simp [State.fillOutcome, State.answered]⟩
    · obtain ⟨-, -, -, -, faults, total, notice⟩ := ((s.answered rest).fillOutcome w false).fillFrom_moved (w.place + 1)
      rw [exhausted h limit, State.endFill_eq]
      exact verifyFailAdded_of_verifyFailed (u := s.answered rest) rfl rfl (by rw [State.settle_faults, faults]; rfl)
        (by rw [State.settle_take, total]; rfl) (by rw [State.settle_notices, notice]; rfl)
    · obtain ⟨ok, ended⟩ := ends finished
      have only := OnlyWork.fillOutcome (s.answered rest) w ok
      rw [ended, State.endFill_eq]
      generalize (s.answered rest).fillOutcome w ok = y at only
      have session : y.session = s.session := by rw [only]; rfl
      have order : (fillOrder y.regions)[w.place + 1]? = some n := by rw [only]; exact next
      rw [y.fillFrom_of_some order, State.settle_session _ (.inr (by simp [session, install])), State.settle_link, State.settle_take]
      refine ⟨session, by rw [only]; rfl, _, rfl, rfl, rfl, ?_, rfl, ?_, rfl, rfl, rfl⟩
      · rw [only]; rfl
      · rw [only]; rfl
    · obtain ⟨ok, ended⟩ := ends finished
      have only := OnlyWork.fillOutcome (s.answered rest) w ok
      rw [ended, State.endFill_eq]
      generalize (s.answered rest).fillOutcome w ok = y at only
      have order : (fillOrder y.regions)[w.place + 1]? = none := by rw [only]; exact none_left
      have readyDue : y.link.readyDue = s.link.readyDue := by rw [only]; rfl
      rw [y.fillFrom_of_none order, State.settle_session_state, State.settle_link, State.settle_take, State.fillsFinished_eq]
      exact ⟨rfl, rfl, by rw [← readyDue], rfl, rfl, rfl, rfl, rfl, rfl⟩

end Sys2Proof.Machine
end

section
/-! PROOFS. A staging word under the writes granted after its read (O24). -/

namespace Sys2Proof.Machine

open Sys2Proof

/-! ### Masks of bytes -/

/-- The bits covered so far, with those of byte `i` where the mask has it: one step of `maskBits`. -/
def coverByte (m : Mask) (acc : Word) (i : Nat) : Word := if m.getLsbD i then acc ||| ((0xFF : Word) <<< (8 * i)) else acc

theorem maskBits_eq_foldl (m : Mask) : maskBits m = (List.range 8).foldl (coverByte m) 0 := rfl

/-- Joined masks cover in a byte what either covers. -/
theorem coverByte_or (a b : Mask) (x y : Word) (i : Nat) :
    coverByte (a ||| b) (x ||| y) i = coverByte a x i ||| coverByte b y i := by
  rw [coverByte, coverByte, coverByte, BitVec.getLsbD_or]
  cases a.getLsbD i <;> cases b.getLsbD i <;> simp only [Bool.or_false, Bool.or_true, Bool.false_eq_true, if_true, if_false] <;> ac_rfl

/-- Joined masks cover the bits that either covers. -/
theorem maskBits_or (a b : Mask) : maskBits (a ||| b) = maskBits a ||| maskBits b := by
  have upTo (l : List Nat) (x y : Word) :
      l.foldl (coverByte (a ||| b)) (x ||| y) = l.foldl (coverByte a) x ||| l.foldl (coverByte b) y := by
    induction l generalizing x y with
    | nil => rfl
    | cons i l ih => rw [List.foldl_cons, List.foldl_cons, List.foldl_cons, coverByte_or, ih]
  exact upTo (List.range 8) 0 0

/-- Nothing is merged under the empty mask. -/
theorem mergeBytes_zero (new old : Word) : mergeBytes 0 new old = old := by
  have covered : maskBits 0#8 = 0#64 := by decide
  simp only [mergeBytes, BitVec.ofNat_eq_ofNat, covered, BitVec.and_zero, BitVec.not_zero, BitVec.and_allOnes, BitVec.zero_or]

/-- A write merged into bytes that stand over a word is merged over both (R51, R52). -/
theorem mergeBytes_or (m p : Mask) (w d old : Word) :
    mergeBytes (p ||| m) (mergeBytes m w d) old = mergeBytes m w (mergeBytes p d old) := by
  ext j hj
  simp only [mergeBytes, maskBits_or, BitVec.getElem_or, BitVec.getElem_and, BitVec.getElem_not]
  cases (maskBits m)[j] <;> cases (maskBits p)[j] <;> simp

/-! ### A staging word -/

/-- A write at a word whose response has come goes into its data (R51). -/
theorem StageWord.patchWrite_arrived (w : WriteReq) {x : StageWord} (h : x.arrived = true) :
    x.patchWrite w = { x with data := mergeBytes w.mask w.data x.data } := if_pos h

/-- A write at a word that waits for its response goes into its data and its patch mask (R51). -/
theorem StageWord.patchWrite_awaited (w : WriteReq) {x : StageWord} (granted : x.granted = true) (awaited : x.arrived = false) :
    x.patchWrite w = { x with data := mergeBytes w.mask w.data x.data, patch := x.patch ||| w.mask } := by
  simp [StageWord.patchWrite, granted, awaited]

/-- Behind the response every write is merged into the word as it comes (R51). -/
theorem StageWord.foldl_patchWrite_arrived (ws : List WriteReq) (x : StageWord) (arrived : x.arrived = true) :
    (ws.foldl (fun y w => y.patchWrite w) x).data = ws.foldl (fun d w => mergeBytes w.mask w.data d) x.data := by
  induction ws generalizing x with
  | nil => rfl
  | cons w ws ih =>
    rw [List.foldl_cons, StageWord.patchWrite_arrived w arrived]
    exact ih _ arrived

/-- The response to a read puts its data under the writes that came before it (R52). -/
theorem StageWord.respond_foldl_patchWrite (ws : List WriteReq) (x : StageWord) (granted : x.granted = true) (awaited : x.arrived = false)
    (data : Word) : ((ws.foldl (fun y w => y.patchWrite w) x).respond .ok data).data
      = ws.foldl (fun d w => mergeBytes w.mask w.data d) (mergeBytes x.patch x.data data) := by
  induction ws generalizing x with
  | nil => rfl
  | cons w ws ih =>
    rw [List.foldl_cons, StageWord.patchWrite_awaited w granted awaited, List.foldl_cons, ← mergeBytes_or]
    exact ih _ granted awaited

/-- Settles O24: the writes before the response wait in data and patch mask, those after it are merged as they come. -/
theorem stagedWordHoldsLaterWrites : Obligations.StagedWordHoldsLaterWrites := by
  intro x before after data granted awaited _ patch
  rw [StageWord.foldl_patchWrite_arrived after _ rfl, StageWord.respond_foldl_patchWrite before x granted awaited, patch,
    mergeBytes_zero, List.foldl_append]

end Sys2Proof.Machine
end

section
/-! SUPPORT. The walker at its cursor, a buffer taken and a SEG frame queued (R35, R45, R48, R53, R54), and the end of a command with no
signal standing. -/

namespace Sys2Proof.Machine

open Sys2Proof

variable (s : State)

/-! ### The map -/

/-- A change that takes no segment to DIRTY moves the map alone (R25). -/
theorem State.changeSeg_of_not_dirtied (n : Segment) (f : SegState → SegState) (h : f (s.map.get n) ≠ .dirty) :
    s.changeSeg n f = { s with map := s.map.update n f } := by
  simp [State.changeSeg, State.toldDirty, beq_eq_false_iff_ne.2 h]

/-- A change that neither enters nor leaves a state keeps its count (R25). -/
theorem SegMap.count_update (m : SegMap) (n : Segment) (f : SegState → SegState) (st : SegState) (h : ∀ x, f x = st ↔ x = st) :
    (m.update n f).count st = m.count st := by
  simp only [SegMap.count, SegMap.update, List.countP_map]
  refine List.countP_congr fun e _ => ?_
  by_cases here : e.1 = n <;> simp [here, h]

/-- A listed segment is counted in its state (R25). -/
theorem SegMap.count_ne_zero {m : SegMap} {n : Segment} {st : SegState} (tracked : st ≠ .notTracked) (h : m.get n = st) :
    m.count st ≠ 0 := by
  unfold SegMap.get at h
  cases found : m.cells.find? fun e => e.1 == n with
  | none => rw [found] at h; exact absurd h.symm tracked
  | some e =>
    rw [found] at h
    have counted : 0 < m.count st := List.countP_pos_iff.2 ⟨e, List.mem_of_find?_eq_some found, by simpa using h⟩
    exact counted.ne'

theorem toOpen_ne_dirty (st : SegState) : toOpen st ≠ .dirty := by cases st <;> simp [toOpen]

theorem openToInflight_dirty (st : SegState) : openToInflight st = .dirty ↔ st = .dirty := by cases st <;> simp [openToInflight]

/-- A segment to be copied is DIRTY or UNSENT, and a buffer taken for it makes it OPEN (R35, R43). -/
theorem State.toOpen_of_toCopy {s : State} {st : SegState} (h : s.toCopy st = true) : toOpen st = .opened := by
  cases st <;> simp_all [State.toCopy, toOpen]

/-! ### A buffer is taken -/

/-- A buffer taken moves walker and map alone (R35, R48). -/
theorem State.takeBuffer_eq (n : Segment) (i : Nat) : s.takeBuffer n i = { s with
    walker := { s.walker.put (Buffer.start n s.walker.nextUse) with
      cursor := nextPlace s.walkMode (walkOrder s.regions).length i, nextUse := s.walker.nextUse + 1 }
    map := s.map.update n toOpen } :=
  State.changeSeg_of_not_dirtied _ n toOpen (toOpen_ne_dirty _)

/-- The segment is OPEN once a buffer is taken for it, and every other one stays (R35). -/
theorem State.takeBuffer_get {s : State} {n : Segment} (copied : s.toCopy (s.map.get n) = true) (i : Nat) (k : Segment) :
    (s.takeBuffer n i).map.get k = if k = n then .opened else s.map.get k := by
  rw [State.takeBuffer_eq, SegMap.get_update _ _ _ _ rfl]
  split
  · next here => rw [here, State.toOpen_of_toCopy copied]
  · rfl

/-- Buffer 0 is taken where it is FREE (R48). -/
theorem State.takeBuffer_first (n : Segment) (i : Nat) (free : s.walker.buf0 = none) :
    (s.takeBuffer n i).walker.buf0 = some (Buffer.start n s.walker.nextUse) ∧ (s.takeBuffer n i).walker.buf1 = s.walker.buf1 := by
  simp [State.takeBuffer_eq, Walker.put, free]

/-- Buffer 1 is taken where buffer 0 is in use (R48). -/
theorem State.takeBuffer_second (n : Segment) (i : Nat) (used : s.walker.buf0 ≠ none) :
    (s.takeBuffer n i).walker.buf1 = some (Buffer.start n s.walker.nextUse) ∧ (s.takeBuffer n i).walker.buf0 = s.walker.buf0 := by
  simp [State.takeBuffer_eq, Walker.put, used]

/-! ### At the cursor -/

/-- A segment can be taken exactly where it is to be copied, holds no FLUSHING entry and a buffer is FREE (R45, R141). -/
theorem State.canTake_iff (n : Segment) : s.canTake n = true ↔
    s.toCopy (s.map.get n) = true ∧ s.freeze.flushingIn n = false ∧ s.walker.hasFree = true := by
  simp [State.canTake, and_assoc]

section AtCursor

variable {s : State} {i : Nat} {n : Segment} (walking : s.walking = true) (cursor : s.walker.cursor = some i)
  (place : (walkOrder s.regions)[i]? = some n)

include walking cursor place

/-- The walker takes a buffer for the segment at its cursor where it can (R45). -/
theorem State.walkStep_takes (take : s.canTake n = true) : s.walkStep = s.takeBuffer n i := by
  have here : s.placeSegment i = some n := place
  simp [State.walkStep, walking, cursor, here, take, ((s.canTake_iff n).1 take).1]

/-- The walker waits at a segment that is to be copied and cannot be taken (R45, R141). -/
theorem State.walkStep_waits (copied : s.toCopy (s.map.get n) = true) (wait : s.canTake n = false) : s.walkStep = s := by
  have here : s.placeSegment i = some n := place
  simp [State.walkStep, walking, cursor, here, copied, wait]

/-- The walker passes by a segment that is not to be copied (R45, R46). -/
theorem State.walkStep_passes (pass : s.toCopy (s.map.get n) = false) :
    s.walkStep = { s with walker := { s.walker with cursor := nextPlace s.walkMode (walkOrder s.regions).length i } } := by
  have here : s.placeSegment i = some n := place
  simp [State.walkStep, walking, cursor, here, pass]

/-- The walker takes a buffer that has become FREE for the segment its cursor waits at (R45, R54). -/
theorem State.takeIfWaiting_takes (take : s.canTake n = true) : s.takeIfWaiting = s.takeBuffer n i := by
  have here : s.placeSegment i = some n := place
  simp [State.takeIfWaiting, walking, cursor, here, take]

end AtCursor

/-- Of the state a step of the walker moves walker and map alone. -/
theorem State.walkStep_eq : s.walkStep = { s with walker := s.walkStep.walker, map := s.walkStep.map } := by
  unfold State.walkStep
  repeat' split
  any_goals rfl
  rw [State.takeBuffer_eq]

/-- A buffer that has become FREE stays so where the cursor waits at no segment to be copied (R45). -/
theorem State.takeIfWaiting_of_none {s : State}
    (h : ∀ i n, s.walker.cursor = some i → (walkOrder s.regions)[i]? = some n → s.toCopy (s.map.get n) = false) :
    s.takeIfWaiting = s := by
  unfold State.takeIfWaiting
  split
  · split
    · rfl
    · next i cursor =>
      split
      · rfl
      · next n place => simp [State.canTake, h i n cursor place]
  · rfl

/-- A buffer that has become FREE is left, or the walker takes it for a segment to be copied (R45). -/
theorem State.takeIfWaiting_cases :
    s.takeIfWaiting = s ∨ ∃ n i, s.toCopy (s.map.get n) = true ∧ s.takeIfWaiting = s.takeBuffer n i := by
  unfold State.takeIfWaiting
  repeat' split
  any_goals exact .inl rfl
  next i _ _ n _ take => exact .inr ⟨n, i, ((s.canTake_iff n).1 take).1, rfl⟩

/-- Of the state the walker moves walker and map alone as a buffer becomes FREE. -/
theorem State.takeIfWaiting_eq : s.takeIfWaiting = { s with walker := s.takeIfWaiting.walker, map := s.takeIfWaiting.map } := by
  obtain same | ⟨n, i, -, taken⟩ := s.takeIfWaiting_cases
  · rw [same]
  · rw [taken, State.takeBuffer_eq]

/-! ### A SEG frame is queued -/

/-- The WAITING buffer that was taken before every other WAITING one offers its frame first (R53; log 21). -/
theorem Walker.firstWaiting_of_least {w : Walker} {second : Bool} {b : Buffer} (here : w.buf second = some b) (waiting : b.waiting = true)
    (least : ∀ c, w.buf (!second) = some c → c.waiting = true → b.use < c.use) : w.firstWaiting = some second := by
  have waits : isWaiting (w.buf second) = true := by simp [isWaiting, here, waiting]
  have later : isWaiting (w.buf (!second)) = true → b.use < ((w.buf (!second)).map Buffer.use).getD 0 := by
    cases other : w.buf (!second) with
    | none => simp [isWaiting]
    | some c => simpa [isWaiting] using least c other
  cases second with
  | false =>
    have first : w.buf0 = some b := here
    have offers : isWaiting w.buf0 = true := waits
    have order : isWaiting w.buf1 = true → b.use < (w.buf1.map Buffer.use).getD 0 := later
    cases other : isWaiting w.buf1 with
    | false => simp only [Walker.firstWaiting, offers, other]
    | true =>
      simp only [Walker.firstWaiting, offers, other]
      simpa [first] using (order other).le
  | true =>
    have last : w.buf1 = some b := here
    have offers : isWaiting w.buf1 = true := waits
    have order : isWaiting w.buf0 = true → b.use < (w.buf0.map Buffer.use).getD 0 := later
    cases other : isWaiting w.buf0 with
    | false => simp only [Walker.firstWaiting, offers, other]
    | true =>
      simp only [Walker.firstWaiting, offers, other]
      simpa [last] using order other

/-- The state with a buffer's frame at the queue's end, its segment INFLIGHT and the buffer FREE (R54). -/
def State.frameQueued (second : Bool) (b : Buffer) (s : State) : State :=
  { s.enqueue b.frame with map := s.map.update b.segment openToInflight, walker := s.walker.setBuf second none }

/-- The send queue takes the first WAITING buffer's frame, and the walker may take the buffer anew (R54; log 20). -/
theorem State.queueSeg_eq {s : State} {second : Bool} {b : Buffer} (feed : s.inFeed = true) (here : s.walker.buf second = some b)
    (first : s.walker.firstWaiting = some second) (room : s.feed.queue.length < Config.queuePlaces) (stale : s.session.stalePending = false)
    (instep : s.feed.instepWaiting = false) (opened : s.map.get b.segment = .opened) :
    s.queueSeg = (s.frameQueued second b).takeIfWaiting := by
  have moved : (s.enqueue b.frame).changeSeg b.segment openToInflight
      = { s.enqueue b.frame with map := s.map.update b.segment openToInflight } :=
    State.changeSeg_of_not_dirtied _ _ _ (by simp [opened, openToInflight])
  simp [State.queueSeg, feed, Feed.hasPlace, room, stale, instep, first, here, moved, State.frameQueued]

/-- The segment is INFLIGHT once its frame is queued, and every other one stays (R54). -/
theorem State.frameQueued_get {s : State} (second : Bool) {b : Buffer} (opened : s.map.get b.segment = .opened) (k : Segment) :
    (s.frameQueued second b).map.get k = if k = b.segment then .inflight else s.map.get k := by
  refine (SegMap.get_update _ _ _ _ rfl).trans ?_
  split
  · next here => rw [here, opened]; rfl
  · rfl

/-- The walker works after a frame is queued where it worked before (R43, R46). -/
theorem State.frameQueued_walking (second : Bool) (b : Buffer) : (s.frameQueued second b).walking = s.walking := by
  have dirty : (s.frameQueued second b).dirtyCount = s.dirtyCount := s.map.count_update _ _ _ openToInflight_dirty
  have mode : (s.frameQueued second b).walkMode = s.walkMode := rfl
  simp only [State.walking, dirty, mode]

/-- A queued frame leaves the same segments to be copied (R43, R54). -/
theorem State.frameQueued_toCopy {s : State} (second : Bool) {b : Buffer} (opened : s.map.get b.segment = .opened) (n : Segment) :
    (s.frameQueued second b).toCopy ((s.frameQueued second b).map.get n) = s.toCopy (s.map.get n) := by
  rw [State.frameQueued_get second opened]
  split
  · next here => rw [here, opened]; rfl
  · rfl

/-- The buffer whose frame is queued is FREE (R54). -/
theorem Walker.setBuf_hasFree (w : Walker) (second : Bool) : (w.setBuf second none).hasFree = true := by
  cases second <;> simp [Walker.setBuf, Walker.hasFree]

theorem Walker.setBuf_cursor (w : Walker) (second : Bool) (b : Option Buffer) : (w.setBuf second b).cursor = w.cursor := by
  cases second <;> rfl

/-- A freed buffer stays FREE where the cursor waits at no segment to be copied (R45, R54). -/
theorem State.frameQueued_stays {s : State} (second : Bool) {b : Buffer} (opened : s.map.get b.segment = .opened)
    (h : ∀ i n, s.walker.cursor = some i → (walkOrder s.regions)[i]? = some n → s.toCopy (s.map.get n) = false) :
    (s.frameQueued second b).takeIfWaiting = s.frameQueued second b :=
  State.takeIfWaiting_of_none fun i n cursor place =>
    (State.frameQueued_toCopy second opened n).trans (h i n ((s.walker.setBuf_cursor second none).symm.trans cursor) place)

section Waits

variable {s : State} (second : Bool) {b : Buffer} {i : Nat} {n : Segment} (opened : s.map.get b.segment = .opened)

include opened

/-- The segment of the queued frame is INFLIGHT, also where the walker takes the freed buffer (R54; log 20). -/
theorem State.frameQueued_takeIfWaiting_get : (s.frameQueued second b).takeIfWaiting.map.get b.segment = .inflight := by
  obtain same | ⟨n, i, copied, taken⟩ := (s.frameQueued second b).takeIfWaiting_cases
  · rw [same, State.frameQueued_get second opened, if_pos rfl]
  · have other : b.segment ≠ n := by
      rintro rfl
      rw [State.frameQueued_toCopy second opened, opened] at copied
      exact Bool.false_ne_true copied
    rw [taken, State.takeBuffer_get copied, if_neg other, State.frameQueued_get second opened, if_pos rfl]

/-- The walker takes the freed buffer for a segment its cursor waits at (R45, R54; log 20). -/
theorem State.frameQueued_takes (walking : s.walking = true) (cursor : s.walker.cursor = some i)
    (place : (walkOrder s.regions)[i]? = some n) (copied : s.toCopy (s.map.get n) = true) (flushing : s.freeze.flushingIn n = false) :
    (s.frameQueued second b).takeIfWaiting = (s.frameQueued second b).takeBuffer n i :=
  State.takeIfWaiting_takes ((s.frameQueued_walking second b).trans walking) ((s.walker.setBuf_cursor second none).trans cursor) place
    ((State.canTake_iff _ n).2 ⟨(State.frameQueued_toCopy second opened n).trans copied, flushing, s.walker.setBuf_hasFree second⟩)

/-- Each segment's state once a frame is queued and a buffer taken anew (R35, R54). -/
theorem State.frameQueued_takeBuffer_get (copied : s.toCopy (s.map.get n) = true) (k : Segment) :
    ((s.frameQueued second b).takeBuffer n i).map.get k
      = if k = n then .opened else if k = b.segment then .inflight else s.map.get k := by
  rw [State.takeBuffer_get ((State.frameQueued_toCopy second opened n).trans copied), State.frameQueued_get second opened]

end Waits

/-- Of the buffers FREE behind a queued frame, buffer 0 is taken where it is one of them (R48). -/
theorem State.frameQueued_takeBuffer_first (second : Bool) (b : Buffer) (n : Segment) (i : Nat)
    (free : second = false ∨ s.walker.buf0 = none) :
    ((s.frameQueued second b).takeBuffer n i).walker.buf0 = some (Buffer.start n s.walker.nextUse)
      ∧ ((s.frameQueued second b).takeBuffer n i).walker.buf1 = if second then none else s.walker.buf1 := by
  have freed : (s.frameQueued second b).walker.buf0 = none := by
    cases second with
    | false => rfl
    | true => exact free.resolve_left (by decide)
  obtain ⟨taken, kept⟩ := (s.frameQueued second b).takeBuffer_first n i freed
  rw [taken, kept]
  cases second <;> exact ⟨rfl, rfl⟩

/-- Behind buffer 1's frame buffer 1 is taken where buffer 0 is in use (R48). -/
theorem State.frameQueued_takeBuffer_second (b : Buffer) (n : Segment) (i : Nat) (used : s.walker.buf0 ≠ none) :
    ((s.frameQueued true b).takeBuffer n i).walker.buf0 = s.walker.buf0
      ∧ ((s.frameQueued true b).takeBuffer n i).walker.buf1 = some (Buffer.start n s.walker.nextUse) :=
  ((s.frameQueued true b).takeBuffer_second n i used).symm

/-! ### The end of a command with no signal standing -/

/-- The overlay is as it was at the end of a command that reported no hold's end (R7). -/
theorem State.settle_freeze_of_quiet (h : s.signals.reexamine = false) : s.settle.freeze = s.freeze := by
  have held : s.examineHeld = s := by simp [State.examineHeld, h]
  simp [State.settle, held]

/-- The queue is as it was at the end of a command that reports nothing and leaves a segment OPEN (R149). -/
theorem State.settle_queue_of_opened (quiet : s.signals = .none) (opened : s.openCount ≠ 0) : s.settle.feed.queue = s.feed.queue := by
  have held : s.examineHeld = s := by simp [State.examineHeld, quiet, Signals.none]
  have stale : s.staleStage = s := by simp [State.staleStage, quiet, Signals.none]
  have test : s.instepTest = false := by simp [State.instepTest, opened]
  have instep : s.instepStage.feed.queue = s.feed.queue := by
    unfold State.instepStage State.tryInstep
    split <;> simp [test]
  simp [State.settle, held, stale, instep]

end Sys2Proof.Machine
end

section
/-! PROOFS. WALKER_STEP at the segment under the cursor (O25), and SEG_FRAME_QUEUED (O26). -/

namespace Sys2Proof.Machine

open Sys2Proof

/-- WALKER_STEP of a live part (log 2). -/
theorem exec_walkerStep {s : State} (live : s.live = true) : exec .walkerStep s = .next s.fresh.walkStep.settle :=
  congrArg Host.Outcome.next (s.liveEvent_of_live _ live)

/-- SEG_FRAME_QUEUED of a live part (log 2). -/
theorem exec_segFrameQueued {s : State} (live : s.live = true) : exec .segFrameQueued s = .next s.fresh.queueSeg.settle :=
  congrArg Host.Outcome.next (s.liveEvent_of_live _ live)

/-- Settles O25: the walker's step by what it meets at its cursor, and the end of a command that moves neither walker nor map. -/
theorem walkerWorksAtItsCursor : Obligations.WalkerWorksAtItsCursor := by
  intro s i n live walking cursor place
  have quiet : s.fresh.walkStep.signals.reexamine = false := by rw [State.walkStep_eq]; rfl
  have takes (copied : s.toCopy (s.map.get n) = true) (flushing : s.freeze.flushingIn n = false) (free : s.walker.hasFree = true) :
      s.fresh.walkStep = s.fresh.takeBuffer n i :=
    State.walkStep_takes (s := s.fresh) walking cursor place ((s.fresh.canTake_iff n).2 ⟨copied, flushing, free⟩)
  refine ⟨_, exec_walkerStep live, ?_, ?_, ?_, ?_, ?_, ?_, ?_, fun copied flushing free => ?_, fun copied flushing used free => ?_,
    fun pass => ?_, fun copied blocked => ?_⟩
  · rw [State.settle_out, State.walkStep_eq]; rfl
  · rw [State.settle_session_state, State.walkStep_eq]; rfl
  · rw [State.settle_link, State.walkStep_eq]; rfl
  · rw [State.settle_regions, State.walkStep_eq]; rfl
  · rw [State.settle_path_returns, State.walkStep_eq]; rfl
  · rw [State.settle_freeze_of_quiet _ quiet, State.walkStep_eq]; rfl
  · rw [State.settle_feed_window, State.walkStep_eq]; rfl
  · obtain ⟨first, second⟩ := s.fresh.takeBuffer_first n i free
    rw [State.settle_map, State.settle_walker, takes copied flushing (by simp [Walker.hasFree, free])]
    exact ⟨(State.takeBuffer_get copied i n).trans (if_pos rfl), fun k other => (State.takeBuffer_get copied i k).trans (if_neg other),
      first, second, rfl⟩
  · obtain ⟨second, first⟩ := s.fresh.takeBuffer_second n i used
    rw [State.settle_map, State.settle_walker, takes copied flushing (by simp [Walker.hasFree, free])]
    exact ⟨(State.takeBuffer_get copied i n).trans (if_pos rfl), fun k other => (State.takeBuffer_get copied i k).trans (if_neg other),
      second, first, rfl⟩
  · rw [State.settle_map, State.settle_walker, State.walkStep_passes (s := s.fresh) walking cursor place pass]
    exact ⟨rfl, rfl⟩
  · have wait : s.canTake n = false := by
      obtain none_free | held := blocked
      · simp [State.canTake, none_free]
      · simp [State.canTake, held]
    rw [State.settle_map, State.settle_walker, State.walkStep_waits (s := s.fresh) walking cursor place copied wait]
    exact ⟨rfl, rfl⟩

/-- Settles O26: the frame joins the queue, then the walker's use of the freed buffer, which leaves queue, session and signals as they are. -/
theorem queuedSegFrameIsTheBuffers : Obligations.QueuedSegFrameIsTheBuffers := by
  intro second s b live feed here waiting least room stale instep opened seg
  have queued : s.fresh.queueSeg = (s.fresh.frameQueued second b).takeIfWaiting :=
    State.queueSeg_eq (s := s.fresh) feed here (Walker.firstWaiting_of_least here waiting least) room stale instep opened
  have opened' : s.fresh.map.get b.segment = .opened := opened
  have moved := (s.fresh.frameQueued second b).takeIfWaiting_eq
  have queue : s.fresh.queueSeg.feed.queue = s.feed.queue ++ [seg] := by rw [queued, moved]; rfl
  have state : s.fresh.queueSeg.session = s.session := by rw [queued, moved]; rfl
  have quiet : s.fresh.queueSeg.signals = .none := by rw [queued, moved]; rfl
  refine ⟨_, exec_segFrameQueued live, ?_, ?_, ?_, ?_, ?_, fun pass => ?_, fun i n walking cursor place copied flushing => ?_⟩
  · obtain same | ⟨steady, more⟩ := s.fresh.queueSeg.settle_queue_cases (by rw [quiet]; exact fun h => nomatch h)
    · exact .inl (same.trans queue)
    · exact .inr ⟨state ▸ steady, by rw [more, queue, List.append_assoc]; rfl⟩
  · rw [State.settle_map, queued]
    exact State.frameQueued_takeIfWaiting_get second opened'
  · rw [State.settle_feed_window, queued, moved]; rfl
  · rw [State.settle_session _ (.inl (by rw [quiet]; rfl)), state]
  · rw [State.settle_out, queued, moved]; rfl
  · rw [State.settle_walker, State.settle_map, queued, State.frameQueued_stays second opened' pass]
    exact ⟨rfl, fun k other => (State.frameQueued_get second opened' k).trans (if_neg other)⟩
  · have taken : s.fresh.queueSeg = (s.fresh.frameQueued second b).takeBuffer n i :=
      queued.trans (State.frameQueued_takes second opened' walking cursor place copied flushing)
    have get := State.frameQueued_takeBuffer_get (s := s.fresh) (i := i) second opened' copied
    have open_n : s.fresh.queueSeg.map.get n = .opened := by rw [taken, get, if_pos rfl]
    have still : s.fresh.queueSeg.openCount ≠ 0 := SegMap.count_ne_zero (by decide) open_n
    rw [State.settle_queue_of_opened _ quiet still, State.settle_map, State.settle_walker]
    refine ⟨queue, open_n, fun k other other' => ?_, ?_, fun free => ?_, ?_⟩
    · rw [taken, get, if_neg other', if_neg other]; rfl
    · rw [taken]; rfl
    · rw [taken]; exact s.fresh.frameQueued_takeBuffer_first second b n i free
    · rintro rfl used
      rw [taken]
      exact s.fresh.frameQueued_takeBuffer_second b n i used

end Sys2Proof.Machine
end

section
/-! PROOFS. The ends of a take session (O36). -/

namespace Sys2Proof.Machine

open Sys2Proof

variable {s u : State}

/-- Of the session record time moves only the hold timer. -/
theorem State.advance_session (n : Nat) (s : State) : (s.advance n).session = { s.session with hold := (s.advance n).session.hold } := by
  unfold State.advance
  (repeat' split) <;> rfl

/-! ### What a take session's end keeps -/

/-- `u` holds what the end of the take session of `s` keeps or looks at, and nothing has been sent yet. -/
structure TakeKept (s u : State) : Prop where
  role : u.session.role = .take
  id : u.session.id = s.session.id
  sizeClass : u.session.sizeClass = s.session.sizeClass
  failTotal : u.take.failTotal = s.take.failTotal
  interrupted : u.take.interrupted = s.take.interrupted
  entries : u.freeze.entries = s.freeze.entries
  link : u.link.state = s.link.state
  out : u.out.link = []
  regions : u.regions = s.regions
  settings : u.settings = s.settings

namespace TakeKept

theorem fresh (h : s.inTake = true) : TakeKept s s.fresh :=
  ⟨(s.inTake_iff.1 h).1, rfl, rfl, rfl, rfl, rfl, rfl, rfl, rfl, rfl⟩

/-- A take session's end does not look at the directive unit. -/
theorem recordDirective (h : TakeKept s u) (n code : Byte) (o : DirOutcome) : TakeKept s (u.recordDirective n code o) :=
  ⟨h.role, h.id, h.sizeClass, h.failTotal, h.interrupted, h.entries, h.link, h.out, h.regions, h.settings⟩

theorem raise (h : TakeKept s u) (k : NoticeKind) : TakeKept s (u.raise k) :=
  ⟨h.role, h.id, h.sizeClass, h.failTotal, h.interrupted, h.entries, h.link, h.out, h.regions, h.settings⟩

theorem recordFault (h : TakeKept s u) (f : SessFault) : TakeKept s (u.recordFault f) :=
  ⟨h.role, h.id, h.sizeClass, h.failTotal, h.interrupted, h.entries, h.link, h.out, h.regions, h.settings⟩

/-- A take session's end does not look at the chassis lines. -/
theorem chassis (h : TakeKept s u) (c : Chassis) : TakeKept s { u with chassis := c } :=
  ⟨h.role, h.id, h.sizeClass, h.failTotal, h.interrupted, h.entries, h.link, h.out, h.regions, h.settings⟩

/-- A take session's end does not look at the lockout. -/
theorem lockout (h : TakeKept s u) (b : Bool) : TakeKept s { u with session := { u.session with lockout := b } } :=
  ⟨h.role, h.id, h.sizeClass, h.failTotal, h.interrupted, h.entries, h.link, h.out, h.regions, h.settings⟩

theorem advance (h : TakeKept s u) (n : Nat) : TakeKept s (u.advance n) := by
  have session := State.advance_session n u
  exact ⟨by simp [h.role], (by rw [session]; exact h.id), (by rw [session]; exact h.sizeClass), by simp [h.failTotal],
    by simp [h.interrupted], by simp [h.entries], (u.advance_link_state n).trans h.link, by simp [h.out], by simp [h.regions],
    by simp [h.settings]⟩

end TakeKept

/-! ### A take session's end, block by block (R162) -/

theorem State.endTake_session (close : Option CloseReason) (s : State) : (s.endTake close).session =
    { s.session with state := .idle, hold := none, greeted := none, layoutInstalled := false } := by
  simp [State.endTake, State.setState_session]

theorem State.endTake_take (close : Option CloseReason) (s : State) : (s.endTake close).take =
    { s.take with apply := none, fill := none, buffer := [], rx := .inactive, expected := 0, awaitingLayout := false } := by
  simp [State.endTake, State.closeLink, State.dropWork, Take.inactive]

theorem State.endTake_link (close : Option CloseReason) (s : State) :
    (s.endTake close).link.state = .off ∧ (s.endTake close).link.numbering = false ∧ (s.endTake close).link.bringup = none := by
  simp [State.endTake, State.closeLink, Link.enterOff]

/-- A take session's end raises no notice but STATE. -/
theorem State.endTake_notice (close : Option CloseReason) (s : State) (k : NoticeKind) (h : k ≠ .state) :
    (s.endTake close).notices.get k = s.notices.get k := by
  have kept := fun u : State => u.setState_notices .idle k h
  refine (kept _).trans ?_
  simp

/-- Where a take session ends with this CLOSE, the command's end leaves it ended, whatever notice it raised behind (R162). -/
theorem TakeKept.ended (h : TakeKept s u) (close : Option CloseReason) (n : Notices) (g : Signals) :
    takeEnded close s (State.settle { u.endTake close with notices := n, signals := g }) := by
  generalize hv : ({ u.endTake close with notices := n, signals := g } : State) = v
  have session : v.session = (u.endTake close).session := by rw [← hv]
  have take : v.take = (u.endTake close).take := by rw [← hv]
  rw [State.endTake_session] at session
  rw [State.endTake_take] at take
  obtain ⟨off, numbering, bringup⟩ := State.endTake_link close u
  have out := State.endTake_out_link u close
  have idle : v.session.state = .idle := by rw [session]
  have record : v.settle.session = v.session := v.settle_session (.inr (by simp [idle]))
  have overlay : v.settle.freeze = v.freeze := v.settle_freeze (.inr (by simp [idle]))
  obtain ⟨noApply, noFill⟩ := v.settle.offer_of_no_work (by simp [take]) (by simp [take])
  simp only [takeEnded, record, overlay, noApply, noFill, session, take, State.settle_take, State.settle_link, State.settle_out,
    State.settle_regions, State.settle_settings]
  subst hv
  refine ⟨trivial, h.role, h.id, h.sizeClass, trivial, trivial, trivial, trivial, trivial, trivial, trivial, h.failTotal, h.interrupted,
    trivial, trivial, off, numbering, bringup, ?_, ?_, ?_, ?_⟩
  · rw [out, h.out, h.link, closeSent, List.nil_append]
  · simp [h.regions]
  · simp [h.settings]
  · simp [h.entries]

/-- Where a take session ends with this CLOSE and no fault, the fault records and the lockout stay. -/
theorem TakeKept.ended_without_fault (h : TakeKept s u) (faults : u.faults = s.faults) (lockout : u.session.lockout = s.session.lockout)
    (close : Option CloseReason) (n : Notices) (g : Signals) :
    takeEnded close s (State.settle { u.endTake close with notices := n, signals := g })
      ∧ (State.settle { u.endTake close with notices := n, signals := g }).faults = s.faults
      ∧ (State.settle { u.endTake close with notices := n, signals := g }).session.lockout = s.session.lockout :=
  ⟨h.ended close n g, by simp [faults], by simp [State.endTake_session, lockout]⟩

/-- Where a take session ends with this CLOSE and this fault, the command's end leaves it ended and the fault added; the lockout stays. -/
theorem TakeKept.ended_with_fault (h : TakeKept s u) (faults : u.faults = s.faults) (close : Option CloseReason) (f : SessFault) :
    takeEnded close s ((u.recordFault f).endTake close).settle ∧ faultAdded f s ((u.recordFault f).endTake close).settle
      ∧ ((u.recordFault f).endTake close).settle.session.lockout = u.session.lockout := by
  refine ⟨(h.recordFault f).ended close _ _, faultAdded_of_recordFault faults (by simp) ?_, by simp [State.endTake_session]⟩
  rw [State.settle_notices]
  exact State.endTake_notice close _ .fault (by decide)

/-! ### The chassis lines at a take (R145, R162, R163) -/

/-- EJECT rises at a live take: LINE, and the session ends with CLOSE(ABORTED) (R154, R162). -/
theorem State.ejectRise_of_take (live : s.live = true) (take : s.inTake = true) (low : s.chassis.eject = false) :
    s.ejectRise = (({ s with chassis := { s.chassis with eject := true } } : State).raise .line).endTake (some .aborted) := by
  have power : s.chassis.power = true := (Bool.and_eq_true_iff.1 live).1
  have live' : ({ s with chassis := { s.chassis with eject := true } } : State).live = true := live
  have rises : s.setEject true = ({ s with chassis := { s.chassis with eject := true } } : State).raise .line := if_pos live'
  have take' : (s.setEject true).inTake = true := by rw [rises]; exact take
  have live'' : (s.setEject true).live = true := by rw [rises]; exact live
  have reaches : s.ejectRise = (s.setEject true).ejected := by simp [State.ejectRise, power, low, live'']
  rw [reaches, ← rises]
  exact if_pos take'

/-- TAKE_EN falls at a live take: LINE, then the lockout (R145, R163). -/
theorem State.takeEnDrop_of_take (live : s.live = true) (take : s.inTake = true) (high : s.chassis.takeEn = true) :
    s.takeEnDrop = ((s.setTakeEn false).raise .line).lockoutTrip := by
  have power : s.chassis.power = true := (Bool.and_eq_true_iff.1 live).1
  have live' : (s.setTakeEn false).live = true := live
  have take' : ((s.setTakeEn false).raise .line).inTake = true := take
  simp [State.takeEnDrop, power, high, live', take']

/-- The lockout leaves the lines. -/
theorem State.lockoutTrip_chassis (s : State) : s.lockoutTrip.chassis = s.chassis := by simp [State.lockoutTrip]

/-! ### The six ends -/

/-- Settles O36. -/
theorem takeSessionEnds : Obligations.TakeSessionEnds := by
  intro s live take
  have kept := TakeKept.fresh take
  have notFeed : s.inFeed = false := s.inFeed_of_inTake take
  refine ⟨fun allowed => ?_, ?_, fun eject => ?_, fun enabled => ?_, fun bringup => ?_, fun lane slot link other => ?_⟩
  · have judged : s.judge DirKind.adopt.code = .done := by
      have taken : adoptAllowed s.session.state (adoptForce (s.directive.word 1)) = true := by
        rw [adoptAllowed_iff]; tauto
      rw [State.judge_code]; simp [State.dirAllowed, State.dirValue, take, taken]
    refine ⟨_, exec_command_expected s .adopt live, ?_⟩
    rw [judged, State.finishDirective_eq]
    exact (kept.recordDirective _ _ _).ended_without_fault rfl rfl _ _ _
  · have judged : s.judge DirKind.abort.code = .done := by
      rw [State.judge_code]; simp [State.dirAllowed, State.dirValue, take]
    have obeyed (n code : Byte) : (s.fresh.recordDirective n code .done).obey .abort .done
        = (s.fresh.recordDirective n code .done).endTake (some .aborted) := by
      have role : (s.fresh.recordDirective n code .done).inFeed = false := notFeed
      have role' : (s.fresh.recordDirective n code .done).inTake = true := take
      simp [State.obey, State.doDirective, State.endSession, role, role']
    refine ⟨_, exec_command_expected s .abort live, ?_⟩
    rw [judged, State.finishDirective_eq, obeyed]
    exact (kept.recordDirective _ _ _).ended_without_fault rfl rfl _ _ _
  · have raised := (kept.chassis { s.chassis with eject := true }).raise .line
    obtain ⟨ended, faults, lockout⟩ := raised.ended_without_fault rfl rfl (some .aborted) _ _
    have effect := State.ejectRise_of_take (s := s.fresh) live take eject
    refine ⟨_, congrArg (fun u : State => Host.Outcome.next u.settle) effect, ended, faults, ?_, ?_, lockout⟩
    · simp
    · rw [State.settle_notices]
      exact congrArg Notice.pending (State.endTake_notice _ _ .line (by decide))
  · have tripped := ((kept.chassis { s.chassis with takeEn := false }).raise .line).lockout true
    obtain ⟨ended, added, lockout⟩ := tripped.ended_with_fault rfl (some .lockout) .lockoutTrip
    have effect := State.takeEnDrop_of_take (s := s.fresh) live take enabled
    refine ⟨_, congrArg (fun u : State => Host.Outcome.next u.settle) effect, ended, added, lockout, ?_, ?_⟩
    · rw [State.settle_chassis, State.lockoutTrip_chassis]; rfl
    · rw [State.settle_notices]
      exact congrArg Notice.pending (State.endTake_notice _ _ .line (by decide))
  · obtain ⟨k, running⟩ := Option.ne_none_iff_exists'.1 bringup
    have expired : s.fresh.bringupExpired
        = ((s.fresh.advance (s.settings.bringupTicks - k)).recordFault .bringupTimeout).endTake none := by
      have role : ((s.fresh.advance (s.settings.bringupTicks - k)).recordFault .bringupTimeout).inFeed = false := by
        simpa [State.inFeed] using notFeed
      have role' : ((s.fresh.advance (s.settings.bringupTicks - k)).recordFault .bringupTimeout).inTake = true := by
        simpa [State.inTake] using take
      simp [State.bringupExpired, running, State.endSession, role, role']
    obtain ⟨ended, added, lockout⟩ :=
      (kept.advance (s.settings.bringupTicks - k)).ended_with_fault (by simp) none .bringupTimeout
    exact ⟨_, exec_of_effect rfl live expired, ended, added, lockout.trans (by rw [State.advance_session]; rfl)⟩
  · have clash : s.fresh.trainArrives lane .take slot = (s.fresh.recordFault .roleClash).endTake none := by
      have role : (s.fresh.recordFault .roleClash).inFeed = false := notFeed
      have role' : (s.fresh.recordFault .roleClash).inTake = true := take
      simp [State.trainArrives, link, other, take, State.linkRole, State.endSession, role, role']
    exact ⟨_, exec_of_effect rfl live clash, kept.ended_with_fault rfl _ _⟩

end Sys2Proof.Machine
end

section
/-! PROOFS. A take that is HELD or DETACHED (O46). -/

namespace Sys2Proof.Machine

open Sys2Proof

variable (s : State)

/-! ### Time -/

/-- Time that passes moves no chassis line and no PEER_PRESENT level, raw or filtered (R145). -/
theorem State.advance_peer (n : Nat) :
    (s.advance n).chassis.peerRaw = s.chassis.peerRaw ∧ (s.advance n).chassis.peerFiltered = s.chassis.peerFiltered := by
  unfold State.advance
  (repeat' split) <;> exact ⟨rfl, rfl⟩

/-! ### HELD and DETACHED (R160, R161) -/

theorem State.enterHeld_session : s.enterHeld.session = { s.session with state := .held, hold := some 0, greeted := none } := by
  simp [State.enterHeld, State.setState_session]

theorem State.enterHeld_take :
    s.enterHeld.take = { s.take with apply := none, fill := none, buffer := [], awaitingLayout := false } := by
  simp [State.enterHeld, State.dropWork]

theorem State.enterDetached_session :
    s.enterDetached.session = { s.session with state := .detached, hold := none, greeted := none } := by
  simp [State.enterDetached, State.setState_session]

theorem State.enterDetached_take :
    s.enterDetached.take = { s.take with apply := none, fill := none, buffer := [], awaitingLayout := false } := by
  simp [State.enterDetached, State.dropWork]

theorem State.enterDetached_link : s.enterDetached.link = { s.link with bringup := none } := by
  simp [State.enterDetached]

/-- HELD is entered with no notice but STATE. -/
theorem State.enterHeld_notice (k : NoticeKind) (h : k ≠ .state) : s.enterHeld.notices.get k = s.notices.get k :=
  State.setState_notices _ .held k h

/-- DETACHED is entered with no notice but STATE. -/
theorem State.enterDetached_notice (k : NoticeKind) (h : k ≠ .state) : s.enterDetached.notices.get k = s.notices.get k :=
  State.setState_notices _ .detached k h

/-! ### A link loss at a take (R68, R160) -/

/-- A take in a state that a link loss takes to HELD (R160). -/
def State.lossHolds (s : State) : Prop :=
  (s.session.state = .bringup ∧ s.take.awaitingLayout = true) ∨ s.session.state = .install ∨ s.session.state = .receiving
    ∨ s.session.state = .synced

theorem State.loseLinkTake_of_holds (h : s.lossHolds) : s.loseLinkTake = s.retrain.enterHeld := by
  have awaiting : s.retrain.take.awaitingLayout = s.take.awaitingLayout := rfl
  unfold State.loseLinkTake
  rcases h with ⟨state, wait⟩ | state | state | state <;> simp [state]
  simp [awaiting, wait]

theorem State.loseLinkTake_of_final (h : s.session.state = .final) : s.loseLinkTake = s.retrain.dropWork := by
  simp [State.loseLinkTake, h]

theorem State.loseLinkTake_of_stays
    (h : (s.session.state = .bringup ∧ s.take.awaitingLayout = false) ∨ s.session.state = .held ∨ s.session.state = .detached) :
    s.loseLinkTake = s.retrain := by
  have awaiting : s.retrain.take.awaitingLayout = s.take.awaitingLayout := rfl
  unfold State.loseLinkTake
  rcases h with ⟨state, wait⟩ | state | state <;> simp [state]
  simp [awaiting, wait]

/-- A take that loses its link is in TRAINING, and at most enters HELD or drops its work. -/
theorem State.loseLinkTake_cases :
    s.loseLinkTake = s.retrain ∨ s.loseLinkTake = s.retrain.enterHeld ∨ s.loseLinkTake = s.retrain.dropWork := by
  unfold State.loseLinkTake
  dsimp only
  (repeat' split) <;> simp

/-- What a link loss leaves at a take in every state (R68). -/
theorem State.loseLinkTake_kept :
    s.loseLinkTake.link = s.link.enterTraining ∧ s.loseLinkTake.take.rx = .inactive ∧ s.loseLinkTake.take.expected = 0
      ∧ s.loseLinkTake.take.ackSeq = s.take.ackSeq ∧ s.loseLinkTake.take.freed = s.take.freed
      ∧ s.loseLinkTake.take.failTotal = s.take.failTotal ∧ s.loseLinkTake.session.layoutInstalled = s.session.layoutInstalled
      ∧ s.loseLinkTake.regions = s.regions ∧ s.loseLinkTake.faults = s.faults ∧ s.loseLinkTake.chassis = s.chassis
      ∧ s.loseLinkTake.notices.line = s.notices.line := by
  rcases s.loseLinkTake_cases with h | h | h <;> rw [h]
  · exact ⟨rfl, rfl, rfl, rfl, rfl, rfl, rfl, rfl, rfl, rfl, rfl⟩
  · have line := s.retrain.enterHeld_notice .line (by decide)
    rw [State.enterHeld_take, State.enterHeld_session, State.enterHeld_link, State.enterHeld_regions, State.enterHeld_faults,
      State.enterHeld_chassis]
    exact ⟨rfl, rfl, rfl, rfl, rfl, rfl, rfl, rfl, rfl, rfl, line⟩
  · exact ⟨rfl, rfl, rfl, rfl, rfl, rfl, rfl, rfl, rfl, rfl, rfl⟩

/-- `v` is the take `s` as a link loss finds it: time may have passed, nothing that the loss looks at has moved. -/
structure TakeLossReady (s v : State) : Prop where
  session : v.session = { s.session with hold := v.session.hold }
  take : v.take = s.take
  faults : v.faults = s.faults
  regions : v.regions = s.regions

/-- A silence timeout and a fall of the filtered PEER_PRESENT level make a take with an UP link lose it (R67, R68, R145). -/
theorem exec_loss_at_take (c : Instr) (live : s.live = true) (take : s.inTake = true) (up : s.link.state = .up)
    (h : c = .silenceTimeout ∨ (c = .peerPresentFiltered ∧ s.chassis.peerRaw = false ∧ s.chassis.peerFiltered = true)) :
    ∃ v, exec c s = .next v.loseLinkTake.settle ∧ TakeLossReady s v
      ∧ (c = .peerPresentFiltered → v.chassis.peerFiltered = false ∧ v.notices.line.pending = true)
      ∧ (c = .silenceTimeout → v.chassis.peerFiltered = s.chassis.peerFiltered) := by
  have lost (v : State) (hv : v.inTake = true) (hup : v.link.state = .up) : v.loseLink = v.loseLinkTake := by
    simp [State.loseLink, hv, hup, State.inFeed_of_inTake hv]
  have inTake (n : Nat) : (s.fresh.advance n).inTake = true := by simpa [State.inTake] using take
  have linkUp (n : Nat) : (s.fresh.advance n).link.state = .up := (State.advance_link_state _ n).trans up
  have ready (n : Nat) : TakeLossReady s (s.fresh.advance n) := ⟨State.advance_session n _, by simp, by simp, by simp⟩
  rcases h with rfl | ⟨rfl, raw, filtered⟩
  · exact ⟨_, exec_of_effect rfl live ((if_pos up).trans (lost _ (inTake _) (linkUp _))), ready _, nofun,
      fun _ => (State.advance_peer _ _).2⟩
  · generalize hn : s.settings.filterTicks - s.chassis.peerHeld = n
    have low : (s.fresh.advance n).chassis.peerRaw = false := (State.advance_peer _ n).1.trans raw
    let v : State := { (s.fresh.advance n).raise .line with
      chassis := { (s.fresh.advance n).chassis with peerFiltered := (s.fresh.advance n).chassis.peerRaw, peerHeld := 0 } }
    have effect : s.fresh.peerHeldOut = v.loseLinkTake := by
      have fell : s.fresh.peerHeldOut = (s.fresh.advance n).filterPeer := by
        simp [State.peerHeldOut, raw, filtered, hn]
      have falls : (s.fresh.advance n).filterPeer = v.loseLink := by simp [State.filterPeer, low, v]
      rw [fell, falls, lost v (inTake n) (linkUp n)]
    refine ⟨v, exec_of_effect rfl live effect, ?_, fun _ => ⟨low, rfl⟩, nofun⟩
    exact { ready n with }

/-! ### A CLOSE from the feed (R75, R161) -/

/-- The reasons of a CLOSE that a feed gives (R61). -/
theorem feedReason_iff (r : CloseReason) :
    feedReason r = true ↔ r = .complete ∨ r = .incomplete ∨ r = .released ∨ r = .aborted ∨ r = .faulted := by
  cases r <;> decide

/-- A CLOSE with a feed's reason reaches a take on an UP link. -/
theorem exec_close_at_take {r : CloseReason} (live : s.live = true) (take : s.inTake = true) (up : s.link.state = .up)
    (reason : feedReason r = true) : exec (.closeReceived r) s = .next (s.fresh.heard.closeAtTake r).settle := by
  have arrives : s.fresh.closeArrives r = s.fresh.heard.closeAtTake r := by
    simp [State.closeArrives, State.handled, up, s.inFeed_of_inTake take, take, reason]
  exact exec_of_effect rfl live arrives

/-- The three reasons with which a CLOSE from the feed is a fault of the take's session (R161). -/
theorem closeFaults_iff {r : CloseReason} (reason : feedReason r = true) :
    (r = .incomplete ∨ r = .aborted ∨ r = .faulted) ↔ ¬ (r = .complete ∨ r = .released) := by
  revert reason
  cases r <;> decide

/-- The take as a CLOSE that makes it DETACHED leaves it, before the link trains anew (R161). -/
def State.detachedBy (r : CloseReason) (s : State) : State :=
  if r = .incomplete ∨ r = .aborted ∨ r = .faulted then s.enterDetached.recordFault .closedByPeer else s.enterDetached

theorem State.closeAtTake_detaches {r : CloseReason} (h : ¬ (s.session.state = .final ∨ s.session.state = .detached)) :
    s.closeAtTake r = (s.detachedBy r).retrain := by
  unfold State.closeAtTake
  rw [if_neg h]
  rfl

theorem State.detachedBy_kept (r : CloseReason) : (s.detachedBy r).session = s.enterDetached.session
    ∧ (s.detachedBy r).take = s.enterDetached.take ∧ (s.detachedBy r).link = s.enterDetached.link
    ∧ (s.detachedBy r).regions = s.regions := by
  unfold State.detachedBy
  split <;> simp

/-- Settles O46. -/
theorem takeIsHeldOrDetached : Obligations.TakeIsHeldOrDetached := by
  intro s live take legal
  refine ⟨fun c up command => ?_, fun held hold => ?_, fun r reason up => ?_⟩
  · obtain ⟨v, run, ready, filtered, unfiltered⟩ := exec_loss_at_take s c live take up command
    obtain ⟨link, rx, expected, ackSeq, freed, failTotal, installed, regions, faults, chassis, line⟩ := v.loseLinkTake_kept
    have state : v.session.state = s.session.state := by rw [ready.session]
    have installed' : v.session.layoutInstalled = s.session.layoutInstalled := by rw [ready.session]
    refine ⟨_, run, ?_⟩
    simp only [State.settle_link, State.settle_take, State.settle_chassis, State.settle_notices, State.settle_regions, State.settle_faults,
      State.settle_session_state, State.settle_session_hold, State.settle_session_greeted, State.settle_session_layoutInstalled,
      link, rx, expected, ackSeq, freed, failTotal, installed, regions, faults, chassis, line, ready.take, ready.faults, ready.regions,
      installed']
    refine ⟨rfl, rfl, rfl, rfl, trivial, trivial, filtered, unfiltered, fun holds => ?_, fun final => ?_, fun stays => ?_, trivial,
      trivial, trivial, trivial, trivial, trivial⟩
    · have holds' : v.lossHolds := by rw [State.lossHolds, state, ready.take]; exact holds
      rw [State.loseLinkTake_of_holds v holds', State.enterHeld_session, State.enterHeld_take]
      exact ⟨rfl, rfl, rfl, rfl, rfl, rfl⟩
    · rw [State.loseLinkTake_of_final v (state.trans final)]
      exact ⟨state.trans final, rfl⟩
    · rw [State.loseLinkTake_of_stays v (by rw [state, ready.take]; exact stays)]
      exact state
  · obtain ⟨k, running⟩ := Option.ne_none_iff_exists'.1 hold
    have expired : s.fresh.takeHoldExpired
        = ((s.fresh.advance (s.settings.holdTicks - k)).recordFault .linkLost).enterDetached := by
      simp [State.takeHoldExpired, take, held, running]
    have same : (s.fresh.advance (s.settings.holdTicks - k)).link.state = s.link.state := State.advance_link_state _ _
    refine ⟨_, exec_of_effect rfl live expired, ?_⟩
    generalize s.settings.holdTicks - k = n at *
    have notice := ((s.fresh.advance n).recordFault .linkLost).enterDetached_notice .fault (by decide)
    have added : faultAdded .linkLost s ((s.fresh.advance n).recordFault .linkLost).enterDetached.settle :=
      faultAdded_of_recordFault (u := s.fresh.advance n) (by simp) (by simp) (by rw [State.settle_notices]; exact notice)
    refine ⟨?_, ?_, ?_, added, ?_, ?_, ?_⟩ <;> simp [State.enterDetached_session, State.enterDetached_link, same]
  · have ours := (feedReason_iff r).2 reason
    have heard := s.fresh.heard_of_up up
    refine ⟨_, exec_close_at_take s live take up ours, ?_⟩
    by_cases stays : s.session.state = .final ∨ s.session.state = .detached
    · have effect : s.fresh.heard.closeAtTake r = s.fresh.heard.retrain := if_pos (by rw [heard]; exact stays)
      rw [effect]
      refine ⟨?_, ?_, ?_, fun _ => ?_, fun final detached => absurd stays (not_or.2 ⟨final, detached⟩), ?_, ?_, ?_⟩ <;>
        simp [State.retrain, Link.enterTraining, Take.inactive]
    · have effect := s.fresh.heard.closeAtTake_detaches (r := r) (by rw [heard]; exact stays)
      obtain ⟨session, work, link, regions⟩ := s.fresh.heard.detachedBy_kept r
      rw [State.enterDetached_session] at session
      rw [State.enterDetached_take] at work
      rw [State.enterDetached_link] at link
      have plainly (plain : r = .complete ∨ r = .released) : (s.fresh.heard.detachedBy r).retrain.settle.faults = s.faults := by
        have noFault : s.fresh.heard.detachedBy r = s.fresh.heard.enterDetached := if_neg (mt (closeFaults_iff ours).1 (not_not.2 plain))
        simp [noFault]
      have added (notComplete : r ≠ .complete) (notReleased : r ≠ .released) :
          faultAdded .closedByPeer s (s.fresh.heard.detachedBy r).retrain.settle := by
        have fault : s.fresh.heard.detachedBy r = s.fresh.heard.enterDetached.recordFault .closedByPeer :=
          if_pos ((closeFaults_iff ours).2 (not_or.2 ⟨notComplete, notReleased⟩))
        rw [fault]
        exact faultAdded_of_recordFault (u := s.fresh.heard.enterDetached) (by simp) (by simp) (by simp)
      rw [effect]
      refine ⟨?_, ?_, ?_, fun h => absurd h stays, fun _ _ => ⟨?_, ?_, ?_, ?_, ?_, ?_, ?_, plainly, added⟩, ?_, ?_, ?_⟩ <;>
        simp [State.retrain, Link.enterTraining, Link.quiet, Take.inactive, session, work, link, regions]

end Sys2Proof.Machine
end

section
/-! PROOFS. The state frames that wait (O41), the intervals (O43) and the keep-alives (O44). -/

namespace Sys2Proof.Machine

open Sys2Proof

variable (s : State)

/-! ### The end of a command that reports nothing (R149) -/

/-- At the end of a command that reports nothing, with no INSTEP waiting, only the INSTEP test is left to make. -/
theorem State.settle_feed_of_quiet (quiet : s.signals = .none) (waiting : s.feed.instepWaiting = false) :
    s.settle.feed = s.tryInstep.feed := by
  have held : s.examineHeld = s := by simp [State.examineHeld, quiet, Signals.none]
  have stale : s.staleStage = s := by simp [State.staleStage, quiet, Signals.none]
  have instep : s.instepStage = s.tryInstep := by simp [State.instepStage, waiting]
  simp [State.settle, held, stale, instep]

/-- The feed is as it was at the end of a command that reports nothing, with no INSTEP waiting and none to offer. -/
theorem State.settle_feed_of_no_test (quiet : s.signals = .none) (waiting : s.feed.instepWaiting = false) (test : s.instepTest = false) :
    s.settle.feed = s.feed := by
  rw [s.settle_feed_of_quiet quiet waiting, State.tryInstep, if_neg (by simp [test])]

/-- The INSTEP test only ever puts frames behind those that are queued. -/
theorem State.tryInstep_extends_queue : s.feed.queue <+: s.tryInstep.feed.queue := by
  unfold State.tryInstep State.offerInstep
  split
  · split
    · exact List.prefix_append _ _
    · exact List.prefix_refl _
  · exact List.prefix_refl _

/-- The newest frame of the queue, where it is an INSTEP or STALE, is the last step (R144). -/
theorem State.lastStep_of_newest {q : List SeqFrame} {f : SeqFrame} {k : StepKind} (queue : s.feed.queue = q ++ [f])
    (step : stepOf f = some k) : s.lastStep = k := by
  simp [State.lastStep, queue, step]

/-! ### The waiting state frames (R76, R149, R150, R155) -/

/-- Settles O41: what the step queues; then the INSTEP test, which fails behind an INSTEP, outside STEADY and with a segment DIRTY. -/
theorem stateFramesAreQueued : Obligations.StateFramesAreQueued := by
  intro s live feed room
  have place : s.feed.hasPlace = true := decide_eq_true room
  refine ⟨fun waiting => ?_, fun pending noInstep => ?_, fun state noDirty noOpen queue window overlay noInstep noStale => ?_⟩
  · have effect : s.fresh.takeInstep
        = { s.fresh with feed := { s.feed with queue := s.feed.queue ++ [.instep], instepWaiting := false } } := by
      have taken : (s.fresh.inFeed && s.fresh.feed.instepWaiting && s.fresh.feed.hasPlace) = true := by simp [feed, waiting, place]
      exact if_pos taken
    generalize hu : ({ s.fresh with feed := { s.feed with queue := s.feed.queue ++ [.instep], instepWaiting := false } } : State) = u
      at effect
    have step : u.lastStep = .instep := u.lastStep_of_newest (q := s.feed.queue) (f := .instep) (by rw [← hu]) rfl
    have settled : u.settle.feed = u.feed :=
      u.settle_feed_of_no_test (by rw [← hu]; rfl) (by rw [← hu]) (by simp [State.instepTest, step])
    refine ⟨_, exec_of_effect rfl live effect, ?_⟩
    rw [settled, u.settle_session (.inl (by rw [← hu]; rfl)), State.settle_map, State.settle_link, ← hu]
    exact ⟨rfl, rfl, rfl, rfl, rfl, rfl⟩
  · have effect : s.fresh.takeStale = { s.fresh with
        feed := { s.feed with queue := s.feed.queue ++ [.stale] }, session := { s.session with stalePending := false } } := by
      have taken : (s.fresh.inFeed && s.fresh.session.stalePending && !s.fresh.feed.instepWaiting && s.fresh.feed.hasPlace) = true := by
        simp [feed, pending, noInstep, place]
      exact if_pos taken
    generalize hu : ({ s.fresh with
        feed := { s.feed with queue := s.feed.queue ++ [.stale] }, session := { s.session with stalePending := false } } : State) = u
      at effect
    have queued : u.feed.queue = s.feed.queue ++ [.stale] := by rw [← hu]
    have settled : u.settle.feed = u.tryInstep.feed := u.settle_feed_of_quiet (by rw [← hu]; rfl) (by rw [← hu]; exact noInstep)
    refine ⟨_, exec_of_effect rfl live effect, ?_, fun dirty => ?_, ?_⟩
    · rw [settled, ← queued]
      exact u.tryInstep_extends_queue
    · have same : u.dirtyCount = s.dirtyCount := by rw [← hu]; rfl
      have test : u.instepTest = false := by simp [State.instepTest, same, dirty]
      rw [settled, State.tryInstep, if_neg (by simp [test]), queued]
    · rw [u.settle_session (.inl (by rw [← hu]; rfl)), State.settle_feed_window, State.settle_map, State.settle_link, ← hu]
      exact ⟨rfl, rfl, rfl, rfl⟩
  · have effect : (if s.fresh.handoverDrained then s.fresh.enqueue .handover else s.fresh) = s.fresh.enqueue .handover := by
      have noDirty' : s.fresh.dirtyCount = 0 := noDirty
      have noOpen' : s.fresh.openCount = 0 := noOpen
      refine if_pos ?_
      simp [State.handoverDrained, State.drained, feed, state, noDirty', noOpen', queue, window, overlay, noInstep, noStale]
    have test : (s.fresh.enqueue .handover).instepTest = false := by simp [State.instepTest, state]
    have settled := (s.fresh.enqueue .handover).settle_feed_of_no_test rfl noInstep test
    refine ⟨_, exec_of_effect rfl live effect, ?_⟩
    rw [settled, State.settle_session _ (.inl rfl), State.settle_map, State.settle_link]
    refine ⟨?_, window, rfl, rfl, rfl⟩
    simp [State.enqueue, queue]

/-! ### Intervals (R65, R67, R69, R72, R83) -/

/-- Time at a live part: every running timer rises, each up to its limit (R112, R123). -/
theorem State.advance_of_live (n : Nat) (live : s.live = true) : s.advance n = { s with
    chassis := s.chassis.advance n
    link := s.link.advance s.settings n
    freeze := { s.freeze with timer := s.freeze.timer.map fun t => satAdd s.settings.freezeTicks t n }
    session := { s.session with hold := s.session.hold.map fun t => satAdd s.settings.holdTicks t n }
    review := if s.passRunning then { s.review with t := satAdd Config.top32 s.review.t n } else s.review } := if_pos live

/-- An interval's expiry: the time it still lacks passes, then a mark is set at the link. -/
def State.expired (n : Nat) (mark : Link → Link) (s : State) : State :=
  { s.advance n with link := mark (s.advance n).link }

/-- What a mark of the link leaves of it. -/
def KeepsTrained (mark : Link → Link) : Prop :=
  ∀ l, (mark l).state = l.state ∧ (mark l).confirmed = l.confirmed ∧ (mark l).lanes = l.lanes

/-- A command that is an interval's expiry: at its end the clock stands at the expiry, the mark is set, and nothing else has moved but the
timers (log 1). -/
theorem exec_expiry {c : Instr} {f : State → State} {n : Nat} {mark : Link → Link} (meaning : exec c s = .next (s.liveEvent f))
    (live : s.live = true) (effect : f s.fresh = s.fresh.expired n mark) (keeps : KeepsTrained mark) :
    ∃ t, exec c s = .next t ∧ t.link = mark (s.link.advance s.settings n) ∧ t.chassis.tick = s.chassis.tick + n
      ∧ t.link.state = s.link.state ∧ t.link.confirmed = s.link.confirmed ∧ t.link.lanes = s.link.lanes
      ∧ t.session.state = s.session.state ∧ t.take = s.take ∧ t.map = s.map ∧ t.walker = s.walker ∧ t.feed.window = s.feed.window
      ∧ t.faults = s.faults ∧ t.notices = s.notices ∧ t.regions = s.regions ∧ t.settings = s.settings
      ∧ t.directive = s.directive ∧ t.out = Out.none := by
  have moved := s.fresh.advance_of_live n live
  have link : (s.fresh.expired n mark).settle.link = mark (s.link.advance s.settings n) := by
    rw [State.settle_link, State.expired, moved]; rfl
  obtain ⟨state, confirmed, lanes⟩ := keeps (s.link.advance s.settings n)
  refine ⟨_, exec_of_effect meaning live effect, ?_⟩
  rw [link, state, confirmed, lanes]
  refine ⟨rfl, ?_, rfl, rfl, rfl, ?_, ?_, ?_, ?_, ?_, ?_, ?_, ?_, ?_, ?_, ?_⟩ <;> simp [State.expired]
  rw [moved]
  rfl

/-- The TRAIN interval's expiry while TRAINs are sent: the TRAIN is due where the filtered PEER_PRESENT level is high (R65, R66). -/
theorem State.trainTick_expires (training : s.link.state = .training ∨ (s.link.state = .up ∧ s.link.confirmed = false)) :
    s.trainTick = s.expired (100 - s.link.trainTimer) fun l => { l with trainTimer := 0, trainDue := s.chassis.peerFiltered } := by
  have runs : (s.link.state == .training || (s.link.state == .up && !s.link.confirmed)) = true := by
    rcases training with h | ⟨h, h'⟩ <;> simp [*]
  have peer := (s.advance_peer (100 - s.link.trainTimer)).2
  refine (if_pos runs).trans ?_
  rw [State.expired, ← peer]
  rfl

/-- Settles O43. -/
theorem intervalsMakeFramesDue : Obligations.IntervalsMakeFramesDue := by
  rintro c s live (⟨rfl, training⟩ | ⟨rfl, feed, up, greeting⟩ | ⟨rfl, feed, up, install⟩ | ⟨rfl, take, up, discard⟩)
  · obtain ⟨t, run, link, tick, kept⟩ :=
      exec_expiry (c := .trainDue) s rfl live (s.fresh.trainTick_expires training) fun _ => ⟨rfl, rfl, rfl⟩
    refine ⟨t, run, fun _ => ?_, nofun, nofun, nofun, kept⟩
    rw [link]
    exact ⟨rfl, rfl, tick⟩
  · have effect : s.fresh.greetTick
        = s.fresh.expired (1000 - s.link.greetTimer) fun l => { l with greetTimer := 0, greetDue := true } :=
      if_pos (by simp [feed, up, greeting])
    obtain ⟨t, run, link, tick, kept⟩ := exec_expiry (c := .greetRepeatDue) s rfl live effect fun _ => ⟨rfl, rfl, rfl⟩
    refine ⟨t, run, nofun, fun _ => ?_, nofun, nofun, kept⟩
    rw [link]
    exact ⟨rfl, rfl, tick⟩
  · have effect : s.fresh.layoutTick
        = s.fresh.expired (1000 - s.link.layoutTimer) fun l => { l with layoutTimer := 0, layoutDue := true } :=
      if_pos (by simp [feed, up, install])
    obtain ⟨t, run, link, tick, kept⟩ := exec_expiry (c := .layoutRepeatDue) s rfl live effect fun _ => ⟨rfl, rfl, rfl⟩
    refine ⟨t, run, nofun, nofun, fun _ => ?_, nofun, kept⟩
    rw [link]
    exact ⟨rfl, rfl, tick⟩
  · have effect : s.fresh.rewindTick
        = s.fresh.expired (1000 - s.link.rewindTimer) fun l => { l with rewindTimer := 0, rewindDue := true } :=
      if_pos (by simp [take, up, discard])
    obtain ⟨t, run, link, tick, kept⟩ := exec_expiry (c := .rewindRepeatDue) s rfl live effect fun _ => ⟨rfl, rfl, rfl⟩
    refine ⟨t, run, nofun, nofun, nofun, fun _ => ?_, kept⟩
    rw [link]
    exact ⟨rfl, rfl, tick⟩

/-! ### Keep-alives (R67) -/

/-- Settles O44. -/
theorem keepAlives : Obligations.KeepAlives := by
  intro s live up
  refine ⟨fun c command confirmed => ?_, fun take settled => ?_, fun feed settled => ?_⟩
  · have keeps : KeepsTrained fun l => { l with keepAliveDue := true } := fun _ => ⟨rfl, rfl, rfl⟩
    have expiry : ∃ f, exec c s = .next (s.liveEvent f)
        ∧ f s.fresh = s.fresh.expired (100 - s.link.idle) fun l => { l with keepAliveDue := true } := by
      rcases command with ⟨rfl, feed⟩ | ⟨rfl, take⟩
      · exact ⟨_, rfl, if_pos (by simp [feed, up, confirmed])⟩
      · exact ⟨_, rfl, if_pos (by simp [take, up, confirmed])⟩
    obtain ⟨f, meaning, effect⟩ := expiry
    obtain ⟨t, run, link, tick, state, conf, -, session, work, map, -, window, faults, notices, -, -, -, out⟩ :=
      exec_expiry s meaning live effect keeps
    exact ⟨t, run, by rw [link], tick, state.trans up, conf.trans confirmed, session, work, map, window, faults, notices, out⟩
  · have effect : s.fresh.takeReceives (State.handled id) = s.fresh.heard :=
      (s.fresh.takeReceives_of_take _ take up).trans (if_pos up)
    rw [exec_of_effect rfl live effect, s.fresh.heard_of_up up]
    exact congrArg _ (s.settle_link_take settled _ s.take rfl rfl)
  · have effect : s.fresh.takeReceives (State.handled id)
        = { s.fresh with link := { s.link with discarded := min 65535 (s.link.discarded + 1) } } := by
      have discards : s.fresh.takeReceives (State.handled id) = s.fresh.discardFrame := by
        simp [State.takeReceives, up, feed]
      exact discards.trans (s.fresh.discardFrame_of_feed feed up)
    rw [exec_of_effect rfl live effect]
    exact congrArg _ (s.settle_link_take settled _ s.take rfl rfl)

end Sys2Proof.Machine
end

section
/-! PROOFS. The transmitter (O42). -/

namespace Sys2Proof.Machine

open Sys2Proof

variable {s u : State}

/-! ### What the transmitter may move -/

/-- Between `s` and `u` at most a frame has been sent: the frames of window and queue stand in their order, and besides the feed only link,
C, notices, a report's request and the link's output have moved. -/
structure OnlySends (s u : State) : Prop where
  state : u = { s with feed := u.feed, link := u.link, review := u.review, notices := u.notices, signals := u.signals, out := u.out }
  frames : u.frames = s.frames
  waiting : u.feed.instepWaiting = s.feed.instepWaiting
  dirtied : u.signals.dirtied = s.signals.dirtied
  reexamine : u.signals.reexamine = s.signals.reexamine
  mem : u.out.mem = s.out.mem
  engine : u.out.engine = s.out.engine
  sent : u.out.link ≠ s.out.link → u.link.idle = 0 ∧ u.link.keepAliveDue = false

namespace OnlySends

theorem refl (s : State) : OnlySends s s := ⟨rfl, rfl, rfl, rfl, rfl, rfl, rfl, fun h => absurd rfl h⟩

theorem ite (c : Prop) [Decidable c] {t : State} (ht : OnlySends s t) (hu : OnlySends s u) : OnlySends s (if c then t else u) := by
  split
  · exact ht
  · exact hu

/-- A frame that was due is sent: its mark at the link is cleared, its number at the feed. -/
theorem sendDue (s : State) (f : TxFrame) (l : Link) (rewound : Option Seq) :
    OnlySends s (({ s with link := l, feed := { s.feed with rewound := rewound } } : State).send f) :=
  ⟨rfl, rfl, rfl, rfl, rfl, rfl, rfl, fun _ => ⟨rfl, rfl⟩⟩

theorem sendLink (s : State) (f : TxFrame) (l : Link) : OnlySends s (({ s with link := l } : State).send f) :=
  sendDue s f l s.feed.rewound

end OnlySends

/-- The head of the queue is sent (R78, R113, R175). -/
theorem State.sendHead_eq {f : SeqFrame} {rest : List SeqFrame} (queue : s.feed.queue = f :: rest) : s.sendHead = { s with
    feed := { s.feed with queue := rest, window := s.feed.window ++ [(s.feed.nextNumber, f)], nextNumber := s.feed.nextNumber + 1,
                          sentTotal := s.feed.sentTotal + 1 }
    review := if s.countsC f then { s.review with c := satAdd Config.topC s.review.c 1 } else s.review
    notices := if (stepOf f).isSome then s.notices.set .step (raised s.report.generation) else s.notices
    signals := if (stepOf f).isSome then { s.signals with report := true } else s.signals
    out := { s.out with link := s.out.link ++ [.sequenced s.feed.nextNumber f] }
    link := { s.link with idle := 0, keepAliveDue := false } } := by
  unfold State.sendHead
  rw [queue]
  dsimp only
  cases (stepOf f).isSome <;> rfl

theorem OnlySends.sendHead (s : State) : OnlySends s s.sendHead := by
  cases queue : s.feed.queue with
  | nil =>
    have none : s.sendHead = s := by unfold State.sendHead; rw [queue]
    rw [none]
    exact .refl s
  | cons f rest =>
    rw [State.sendHead_eq queue]
    refine ⟨rfl, ?_, rfl, ?_, ?_, rfl, rfl, fun _ => ⟨rfl, rfl⟩⟩
    · simp [State.frames, queue]
    · dsimp only; split <;> rfl
    · dsimp only; split <;> rfl

theorem OnlySends.transmit (s : State) : OnlySends s s.transmit := by
  have feed : OnlySends s s.transmitFeed := by
    unfold State.transmitFeed
    exact .ite _ (.sendDue s _ s.link none) (.ite _ (.sendLink s _ _) (.ite _ (.sendLink s _ _) (.ite _ (.sendLink s _ _)
      (.ite _ (.sendHead s) (.ite _ (.sendLink s _ s.link) (.refl s))))))
  have take : OnlySends s s.transmitTake := by
    unfold State.transmitTake State.sendReadyOrAck
    refine .ite _ (.sendLink s _ _) (.ite _ (.sendLink s _ _) (.ite _ ?_ (.refl s)))
    split
    · exact .sendLink s _ _
    · exact .ite _ (.sendLink s _ _) (.ite _ (.sendLink s _ _) (.refl s))
  exact .ite _ feed (.ite _ take (.refl s))

/-! ### The end of a command that has sent a frame -/

/-- Where at most a frame was sent from a settled state, the command's end finds nothing to do at feed, session and overlay: the last step
is what it was, so there is still no INSTEP to offer (R144, R149). -/
theorem OnlySends.settle (h : OnlySends s.fresh u) (settled : s.settled) :
    u.settle.feed = u.feed ∧ u.settle.session = s.session ∧ u.settle.freeze = s.freeze := by
  obtain ⟨-, test, waiting, -⟩ := settled
  have dirtied : u.signals.dirtied = false := h.dirtied
  have reexamine : u.signals.reexamine = false := h.reexamine
  have session : u.session = s.session := by rw [h.state]; rfl
  have map : u.map = s.map := by rw [h.state]; rfl
  have freeze : u.freeze = s.freeze := by rw [h.state]; rfl
  have step : u.lastStep = s.lastStep := by
    have frames : u.frames = s.frames := h.frames
    rw [State.frames, State.frames] at frames
    rw [State.lastStep, State.lastStep, frames, session]
  have held : u.examineHeld = u := by simp [State.examineHeld, reexamine]
  have stale : u.staleStage = u := by simp [State.staleStage, dirtied]
  have same : u.instepTest = false := by
    have waiting' : u.feed.instepWaiting = s.feed.instepWaiting := h.waiting
    rw [← test]
    simp only [State.instepTest, State.dirtyCount, State.unsentCount, State.openCount, session, map, freeze, step, waiting']
  have instep : u.instepStage = u := by
    unfold State.instepStage State.tryInstep
    have counts : u.feed.instepWaiting = true → u.dirtyCount = 0 ∧ u.openCount = 0 := fun wait => by
      rw [State.dirtyCount, State.openCount, map]
      exact waiting (h.waiting.symm.trans wait)
    rw [if_neg (by simpa using counts), if_neg (by simp [same])]
  refine ⟨by simp [State.settle, held, stale, instep], ?_, ?_⟩
  · rw [State.settle_session _ (.inl dirtied), session]
  · rw [State.settle_freeze_of_quiet _ reexamine, freeze]

/-! ### Who is ready (R65, R66, R78, R79) -/

theorem State.trains_iff (s : State) : (s.trains && s.link.trainDue) = true ↔
    (s.link.state = .training ∨ (s.link.state = .up ∧ s.link.confirmed = false)) ∧ s.chassis.peerFiltered = true
      ∧ s.link.trainDue = true := by
  simp [State.trains, and_assoc]

theorem State.headReady_iff (s : State) : s.headReady = true ↔ s.link.state = .up ∧ s.link.numbering = true ∧ s.feed.rewound = none
    ∧ s.feed.queue ≠ [] ∧ (s.feed.sentTotal - s.feed.freedTotal).toNat < 8 := by
  simp only [State.headReady, Bool.and_eq_true, beq_iff_eq, Option.isNone_iff_eq_none, Bool.not_eq_true', List.isEmpty_eq_false_iff,
    decide_eq_true_eq, and_assoc]
  rfl

section Feed

variable {f : SeqFrame} {rest : List SeqFrame}

theorem State.transmitFeed_rewound {e : Seq} (up : s.link.state = .up) (pending : s.feed.rewound = some e) :
    s.transmitFeed = s.sendRewound e := by
  simp [State.transmitFeed, up, pending]

variable (noRewound : s.link.state = .up → s.feed.rewound = none)
include noRewound

theorem State.transmitFeed_train (train : (s.trains && s.link.trainDue) = true) : s.transmitFeed = s.sendTrain .feed := by
  unfold State.transmitFeed
  rw [if_neg (by simpa using noRewound), if_pos train]

variable (noTrain : ¬ (s.trains && s.link.trainDue) = true)
include noTrain

/-- Behind REWOUND and TRAIN a feed's transmitter finds nothing ready while the link is not UP. -/
theorem State.transmitFeed_down (down : s.link.state ≠ .up) : s.transmitFeed = s := by
  unfold State.transmitFeed
  rw [if_neg (by simpa using noRewound), if_neg noTrain]
  simp [down, State.headReady]

variable (up : s.link.state = .up)
include up

theorem State.transmitFeed_greet (due : s.link.greetDue = true) : s.transmitFeed = s.sendGreet := by
  unfold State.transmitFeed
  rw [if_neg (by simpa using noRewound), if_neg noTrain, if_pos (by simp [up, due])]

variable (noGreet : s.link.greetDue = false)
include noGreet

theorem State.transmitFeed_layout (due : s.link.layoutDue = true ∧ s.session.state = .install) : s.transmitFeed = s.sendLayout := by
  unfold State.transmitFeed
  rw [if_neg (by simpa using noRewound), if_neg noTrain, if_neg (by simp [noGreet]), if_pos (by simp [up, due])]

variable (noLayout : ¬ (s.link.layoutDue = true ∧ s.session.state = .install))
include noLayout

theorem State.transmitFeed_head (ready : s.headReady = true) : s.transmitFeed = s.sendHead := by
  unfold State.transmitFeed
  rw [if_neg (by simpa using noRewound), if_neg noTrain, if_neg (by simp [noGreet]), if_neg (by simpa [up] using noLayout), if_pos ready]

theorem State.transmitFeed_last (noHead : ¬ s.headReady = true) :
    s.transmitFeed = if s.link.confirmed = true ∧ s.link.keepAliveDue = true then s.send .pulse else s := by
  unfold State.transmitFeed
  rw [if_neg (by simpa using noRewound), if_neg noTrain, if_neg (by simp [noGreet]), if_neg (by simpa [up] using noLayout), if_neg noHead]
  simp [up]

end Feed

section Take

theorem State.transmitTake_rewind (up : s.link.state = .up) (rewind : s.link.rewindDue = true ∧ s.take.rx = .discard) :
    s.transmitTake = ({ s with link := { s.link with rewindDue := false } } : State).send (.rewind s.take.expected) :=
  if_pos (by simp [up, rewind])

variable (noRewind : ¬ (s.link.state = .up ∧ s.link.rewindDue = true ∧ s.take.rx = .discard))
include noRewind

theorem State.transmitTake_train (train : (s.trains && s.link.trainDue) = true) : s.transmitTake = s.sendTrain .take := by
  unfold State.transmitTake
  rw [if_neg (by simpa [and_assoc] using noRewind), if_pos train]

variable (noTrain : ¬ (s.trains && s.link.trainDue) = true)
include noTrain

/-- Behind REWIND and TRAIN a take's transmitter finds nothing ready while the link is not UP. -/
theorem State.transmitTake_down (down : s.link.state ≠ .up) : s.transmitTake = s := by
  unfold State.transmitTake
  rw [if_neg (by simpa [and_assoc] using noRewind), if_neg noTrain, if_neg (by simp [down])]

variable (up : s.link.state = .up)
include up

theorem State.transmitTake_echo {e : Echo} {rest : List Echo} (due : s.link.echoDue = e :: rest) : s.transmitTake = s.sendEcho e rest := by
  unfold State.transmitTake
  rw [if_neg (by simpa [and_assoc] using noRewind), if_neg noTrain, if_pos (by simp [up]), due]

theorem State.transmitTake_last (noEcho : s.link.echoDue = []) : s.transmitTake = s.sendReadyOrAck := by
  unfold State.transmitTake
  rw [if_neg (by simpa [and_assoc] using noRewind), if_neg noTrain, if_pos (by simp [up]), noEcho]

end Take

/-- A SEG frame sent during a pass is counted in C, and no other frame (R113). -/
theorem State.countsC_iff (s : State) (f : SeqFrame) : s.countsC f = true ↔ s.passRunning = true ∧ ∃ n ws, f = .seg n ws := by
  cases f <;> simp [State.countsC]

/-! ### The statement -/

/-- Settles O42: each frame in the order of the part's role; the command's end adds nothing. -/
theorem transmitterSendsTheFirstReady : Obligations.TransmitterSendsTheFirstReady := by
  intro s live settled up train noRewound layout rewind
  have only := OnlySends.transmit s.fresh
  obtain ⟨feedKept, session, freeze⟩ := only.settle settled
  have trains : (s.fresh.trains && s.fresh.link.trainDue) = true ↔ train := s.fresh.trains_iff
  have quiet : s.fresh.settle = { s with out := .none } := s.settle_link_take settled s.link s.take rfl rfl
  have notReady (h : s.link.numbering = false ∨ 8 ≤ (s.feed.sentTotal - s.feed.freedTotal).toNat ∨ s.feed.queue = []) :
      ¬ s.fresh.headReady = true := by
    rw [State.headReady_iff]
    rintro ⟨-, numbering, -, queue, credits⟩
    rcases h with h | h | h
    · exact Bool.false_ne_true (h.symm.trans numbering)
    · exact absurd credits (Nat.not_lt.2 h)
    · exact queue h
  refine ⟨_, exec_of_effect rfl live rfl, ?_, ?_, ?_, fun feed => ?_, fun take => ?_, fun noFeed noTake => ?_, session, ?_, ?_, freeze,
    ?_, ?_, ?_, ?_, ?_⟩
  · rw [State.settle_out]; exact only.mem
  · rw [State.settle_out]; exact only.engine
  · rw [State.settle_out, State.settle_link]; exact only.sent
  · have effect : s.fresh.transmit = s.fresh.transmitFeed := if_pos feed
    rw [feedKept, State.settle_out, State.settle_link, State.settle_notices, State.settle_review_c, effect]
    refine ⟨fun e hup pending => ?_, fun none ready => ?_, fun none noTrain hup due => ?_, fun none noTrain hup noGreet due => ?_,
      fun f rest none noTrain hup noGreet noLayout numbering credits queue => ?_,
      fun none noTrain hup noGreet noLayout noHead confirmed due => ?_, fun none noTrain rest => ?_⟩
    · rw [State.transmitFeed_rewound (s := s.fresh) hup pending]
      exact ⟨rfl, rfl⟩
    · rw [State.transmitFeed_train (s := s.fresh) none (trains.2 ready)]
      exact ⟨rfl, rfl⟩
    · rw [State.transmitFeed_greet (s := s.fresh) none (mt trains.1 noTrain) hup due]
      exact ⟨rfl, rfl⟩
    · rw [State.transmitFeed_layout (s := s.fresh) none (mt trains.1 noTrain) hup noGreet due]
      exact ⟨rfl, rfl⟩
    · have ready : s.fresh.headReady = true := s.fresh.headReady_iff.2 ⟨hup, numbering, none hup, by simp [queue], credits⟩
      rw [State.transmitFeed_head (s := s.fresh) none (mt trains.1 noTrain) hup noGreet noLayout ready,
        State.sendHead_eq (s := s.fresh) queue]
      refine ⟨rfl, rfl, rfl, rfl, rfl, rfl, fun n ws seg running => ?_, fun uncounted => ?_, fun step => ?_⟩
      · exact congrArg Review.c (if_pos ((s.fresh.countsC_iff f).2 ⟨running, n, ws, seg⟩))
      · refine congrArg Review.c (if_neg (mt (s.fresh.countsC_iff f).1 ?_))
        rintro ⟨running, n, ws, seg⟩
        rcases uncounted with idle | other
        · exact Bool.false_ne_true (idle.symm.trans running)
        · exact other n ws seg
      · rcases step with rfl | rfl <;> rfl
    · rw [State.transmitFeed_last (s := s.fresh) none (mt trains.1 noTrain) hup noGreet noLayout (notReady noHead),
        if_pos ⟨confirmed, due⟩]
      exact ⟨rfl, rfl⟩
    · by_cases hup : up
      · obtain ⟨noGreet, noLayout, noHead, noPulse⟩ := rest hup
        have idle : ¬ (s.fresh.link.confirmed = true ∧ s.fresh.link.keepAliveDue = true) := by
          rintro ⟨confirmed, due⟩
          rcases noPulse with h | h
          · exact Bool.false_ne_true (h.symm.trans confirmed)
          · exact Bool.false_ne_true (h.symm.trans due)
        rw [State.transmitFeed_last (s := s.fresh) none (mt trains.1 noTrain) hup noGreet noLayout (notReady noHead), if_neg idle]
        exact quiet
      · rw [State.transmitFeed_down (s := s.fresh) none (mt trains.1 noTrain) hup]
        exact quiet
  · have effect : s.fresh.transmit = s.fresh.transmitTake := by
      simp [State.transmit, take, s.inFeed_of_inTake take]
    rw [State.settle_out, State.settle_link, State.settle_take, effect]
    refine ⟨fun hup due => ?_, fun noRewind ready => ?_, fun e rest noRewind noTrain hup due => ?_,
      fun noRewind noTrain hup noEcho due => ?_, fun noRewind noTrain hup noEcho noReady confirmed due => ?_, fun noTrain rest => ?_, ?_⟩
    · rw [State.transmitTake_rewind (s := s.fresh) hup due]
      exact ⟨rfl, rfl⟩
    · rw [State.transmitTake_train (s := s.fresh) noRewind (trains.2 ready)]
      exact ⟨rfl, rfl⟩
    · rw [State.transmitTake_echo (s := s.fresh) (mt And.right noRewind) (mt trains.1 noTrain) hup due]
      exact ⟨rfl, rfl, rfl⟩
    · rw [State.transmitTake_last (s := s.fresh) (mt And.right noRewind) (mt trains.1 noTrain) hup noEcho]
      have ready : s.fresh.sendReadyOrAck = s.fresh.sendReady := if_pos due
      rw [ready]
      exact ⟨rfl, rfl⟩
    · rw [State.transmitTake_last (s := s.fresh) (mt And.right noRewind) (mt trains.1 noTrain) hup noEcho]
      have ack : s.fresh.sendReadyOrAck = s.fresh.sendAck :=
        (if_neg (not_not.2 noReady)).trans (if_pos (by simpa [confirmed] using due))
      rw [ack]
      exact ⟨rfl, rfl⟩
    · by_cases hup : up
      · obtain ⟨noRewind, noEcho, noReady, noAck⟩ := rest hup
        rw [State.transmitTake_last (s := s.fresh) (mt And.right noRewind) (mt trains.1 noTrain) hup noEcho]
        have nothing : s.fresh.sendReadyOrAck = s.fresh :=
          (if_neg (not_not.2 noReady)).trans (if_neg (by rcases noAck with h | ⟨h, h'⟩ <;> simp [*]))
        rw [nothing]
        exact quiet
      · rw [State.transmitTake_down (s := s.fresh) (mt And.left hup) (mt trains.1 noTrain) hup]
        exact quiet
    · rw [← effect, only.state]
      rfl
  · have effect : s.fresh.transmit = s.fresh := by simp [State.transmit, noFeed, noTake]
    rw [effect]
    exact quiet
  all_goals
    simp only [State.settle_map, State.settle_walker, State.settle_faults, State.settle_regions, State.settle_settings,
      State.settle_directive, State.settle_chassis]
    rw [only.state]
    rfl

end Sys2Proof.Machine
end

section
/-! PROOFS. TRAIN (O47), and GREET at the take (O48). -/

namespace Sys2Proof.Machine

open Sys2Proof

variable (s : State)

/-! ### Slots and lanes (R60, R63) -/

/-- The other slot's id is not the part's own. -/
theorem complement_ne (b : BitVec 1) : ~~~ b ≠ b := by
  revert b; decide

/-- The lane count once lane 0 has carried a TRAIN: the largest of 4, 2 or 1 lanes that all have (R60). -/
theorem laneCount_of_first (seen : BitVec 4) (first : seen.getLsbD 0 = true) : laneCount seen =
    if seen.getLsbD 1 && seen.getLsbD 2 && seen.getLsbD 3 then 4 else if seen.getLsbD 1 then 2 else 1 := by
  revert seen; decide

/-- The mark of the first TRAIN after TRAINING is entered is lane 0's exactly on lane 0. -/
theorem mark_first (lane : BitVec 2) : (0#4 ||| (1#4 <<< lane.toNat)).getLsbD 0 = decide (lane = 0) := by
  revert lane; decide

/-! ### TRAIN on a link in TRAINING (R60, R65, R69) -/

/-- A TRAIN in TRAINING moves only the link. -/
theorem State.trainOn_eq (lane : BitVec 2) : s.trainOn lane = { s with link := (s.trainOn lane).link } := by
  unfold State.trainOn
  dsimp only
  split <;> rfl

/-- The link stays in TRAINING while lane 0 has carried no TRAIN or the filtered PEER_PRESENT level is low (R65). -/
theorem State.trainOn_waits (lane : BitVec 2)
    (wait : (s.link.seen ||| (1#4 <<< lane.toNat)).getLsbD 0 = false ∨ s.chassis.peerFiltered = false) :
    (s.trainOn lane).link = { s.link with seen := s.link.seen ||| (1#4 <<< lane.toNat) } := by
  unfold State.trainOn
  dsimp only
  rw [if_neg]
  rcases wait with h | h <;> simp only [h, Bool.false_and, Bool.and_false, Bool.false_eq_true, not_false_eq_true]

/-- Once lane 0 has carried a TRAIN and the filtered PEER_PRESENT level is high the link is UP (R60, R65, R69). -/
theorem State.trainOn_trains (lane : BitVec 2) (first : (s.link.seen ||| (1#4 <<< lane.toNat)).getLsbD 0 = true)
    (peer : s.chassis.peerFiltered = true) : s.trainOn lane
      = ({ s with link := { s.link with seen := s.link.seen ||| (1#4 <<< lane.toNat) } } : State).linkUp := by
  unfold State.trainOn
  exact if_pos (by simp only [first, peer, Bool.and_self])

/-! ### TRAIN at a part in a session (R63, R65) -/

/-- Where a TRAIN carries the opposite role, the part is in a session and its own TRAINs carry the other one (R65). -/
theorem State.opposite_role (role : LinkRole) (h : (s.inFeed = true ∧ role = .take) ∨ (s.inTake = true ∧ role = .feed)) :
    (s.inFeed || s.inTake) = true ∧ role ≠ s.linkRole := by
  rcases h with ⟨feed, rfl⟩ | ⟨take, rfl⟩
  · simp [feed, State.linkRole, s.inTake_of_inFeed feed]
  · simp [take, State.linkRole]

/-- A TRAIN of the opposite role from the other slot reaches the link. -/
theorem exec_train_opposite {lane : BitVec 2} {role : LinkRole} (live : s.live = true) (link : s.link.state ≠ .off)
    (session : (s.inFeed = true ∧ role = .take) ∨ (s.inTake = true ∧ role = .feed)) :
    exec (.trainReceived lane role (~~~ s.chassis.slotId)) s = .next (s.fresh.oppositeTrain lane).settle := by
  obtain ⟨active, opposite⟩ := s.opposite_role role session
  have arrives : s.fresh.trainArrives lane role (~~~ s.chassis.slotId) = s.fresh.oppositeTrain lane := by
    unfold State.trainArrives
    rw [if_neg (by exact link), if_neg (by exact complement_ne _), if_neg (by rw [State.fresh_inFeed, State.fresh_inTake, active]; decide),
      if_neg (by exact opposite)]
  exact exec_of_effect rfl live arrives

/-- A part whose numbering is inactive counts a discarded frame and no more (R63). -/
theorem State.discardFrame_unnumbered (link : s.link.state ≠ .off) (numbering : s.link.numbering = false) :
    s.discardFrame = { s with link := { s.link with discarded := min 65535 (s.link.discarded + 1) } } := by
  have unnumbered : s.countDiscard.link.numbering = false := numbering
  unfold State.discardFrame
  rw [if_neg link]
  dsimp only
  rw [if_neg (by simp [unnumbered])]
  rfl

/-- A part in a session that loses its UP link enters TRAINING, and the chassis lines stay (R68). -/
theorem State.loseLink_link (up : s.link.state = .up) (session : s.inFeed = true ∨ s.inTake = true) :
    s.loseLink.link = s.link.enterTraining ∧ s.loseLink.chassis = s.chassis := by
  rcases session with feed | take
  · rw [s.loseLink_of_feed feed up, State.loseLinkFeed_eq_blocks]
    exact ⟨rfl, rfl⟩
  · have lost : s.loseLink = s.loseLinkTake := by simp [State.loseLink, up, take, s.inFeed_of_inTake take]
    obtain ⟨link, -, -, -, -, -, -, -, -, chassis, -⟩ := s.loseLinkTake_kept
    rw [lost]
    exact ⟨link, chassis⟩

/-- A feed that has lost its link has neither queue nor window at the end of the command, also where a TRAIN has trained the link anew. -/
theorem State.settle_trainOn_loseLinkFeed (lane : BitVec 2) :
    (s.loseLinkFeed.trainOn lane).settle.feed.queue = [] ∧ (s.loseLinkFeed.trainOn lane).settle.feed.window = [] := by
  obtain ⟨notSteady, notHandover⟩ := s.loseLinkFeed_calm
  have feed : (s.loseLinkFeed.trainOn lane).feed = s.loseLinkFeed.feed := by rw [State.trainOn_eq]
  have session : (s.loseLinkFeed.trainOn lane).session = s.loseLinkFeed.session := by rw [State.trainOn_eq]
  have emptied := s.loseLinkFeed_eq_blocks
  rw [State.settle_feed _ (by rw [session]; exact notSteady) (by rw [session]; exact notHandover) (by rw [feed, emptied]), feed, emptied]
  exact ⟨rfl, rfl⟩

/-- Settles O47. -/
theorem trainTrainsTheLink : Obligations.TrainTrainsTheLink := by
  intro lane role s live settled session slot seen
  have train {u : State} (link : s.link.state ≠ .off) (effect : s.fresh.oppositeTrain lane = u) :
      exec (.trainReceived lane role slot) s = .next u.settle := by
    rw [← effect]; exact exec_train_opposite s live link session
  refine ⟨fun training => ?_, fun up unconfirmed => ?_, fun up confirmed => ?_, fun link numbering => ?_⟩
  · have effect : s.fresh.oppositeTrain lane = { s.fresh with link := (s.fresh.trainOn lane).link } := by
      have trains : s.fresh.oppositeTrain lane = s.fresh.trainOn lane := by simp [State.oppositeTrain, training]
      rw [trains]; exact s.fresh.trainOn_eq lane
    refine ⟨_, (train (by simp [training]) effect).trans (congrArg _ (s.settle_link_take settled _ s.take rfl rfl)), ?_⟩
    dsimp only
    by_cases wait : seen.getLsbD 0 = false ∨ s.chassis.peerFiltered = false
    · rw [s.fresh.trainOn_waits lane wait]
      refine ⟨rfl, rfl, rfl, rfl, rfl, rfl, rfl, fun _ => rfl, fun first peer => ?_⟩
      rcases wait with h | h
      · rw [first] at h; cases h
      · rw [peer] at h; cases h
    · obtain ⟨first, peer⟩ := not_or.1 wait
      rw [Bool.not_eq_false] at first peer
      rw [s.fresh.trainOn_trains lane first peer]
      refine ⟨rfl, rfl, rfl, rfl, rfl, rfl, rfl, fun h => absurd h wait,
        fun _ _ => ⟨rfl, rfl, rfl, laneCount_of_first seen first, fun feed state => ?_⟩⟩
      have greets : (s.inFeed && (s.session.state == .bringup || s.session.state == .suspended)) = true := by
        rcases state with h | h <;> simp [feed, h]
      exact ⟨greets, greets⟩
  · have effect : s.fresh.oppositeTrain lane = { s.fresh with link := { s.link with silence := 0 } } := by
      simp [State.oppositeTrain, up, unconfirmed]
    rw [train (by simp [up]) effect]
    exact congrArg _ (s.settle_link_take settled _ s.take rfl rfl)
  · have effect : s.fresh.oppositeTrain lane = s.fresh.loseLink.trainOn lane := by
      simp [State.oppositeTrain, up, confirmed]
    have active : s.fresh.inFeed = true ∨ s.fresh.inTake = true := session.imp And.left And.left
    obtain ⟨link, chassis⟩ := s.fresh.loseLink_link up active
    have mark : (s.fresh.loseLink.link.seen ||| (1#4 <<< lane.toNat)).getLsbD 0 = decide (lane = 0) := by
      rw [link]; exact mark_first lane
    have peer : s.fresh.loseLink.chassis.peerFiltered = s.chassis.peerFiltered := by rw [chassis]; rfl
    have untrained : (s.fresh.loseLink.trainOn lane).link.confirmed = false ∧ (s.fresh.loseLink.trainOn lane).link.numbering = false := by
      unfold State.trainOn State.linkUp
      dsimp only
      rw [link]
      split <;> exact ⟨rfl, rfl⟩
    obtain ⟨unconfirmed, unnumbered⟩ := untrained
    refine ⟨_, train (by simp [up]) effect, ?_, ?_, fun first high => ?_, fun wait => ?_, fun feed => ?_, fun take => ?_⟩
    · rw [State.settle_link, unconfirmed]
    · rw [State.settle_link, unnumbered]
    · rw [State.settle_link, State.trainOn_trains _ lane (by rw [mark, first]; rfl) (peer.trans high)]
      refine ⟨rfl, ?_⟩
      have seen : s.fresh.loseLink.link.seen = 0#4 := by rw [link]; rfl
      have lanes (u : State) : u.linkUp.link.lanes = laneCount u.link.seen := rfl
      rw [lanes]
      dsimp only
      rw [seen, first]
      decide
    · rw [State.settle_link, State.trainOn_waits _ lane (by rw [mark, peer]; simpa using wait), link]
      exact ⟨rfl, rfl⟩
    · rw [s.fresh.loseLink_of_feed feed up]
      exact s.fresh.settle_trainOn_loseLinkFeed lane
    · obtain ⟨-, -, inactive⟩ := s.fresh.loseLink_of_take take up
      rw [State.settle_take, State.trainOn_eq]
      exact inactive
  · have effect : s.fresh.trainArrives lane role s.chassis.slotId
        = { s.fresh with link := { s.link with discarded := min 65535 (s.link.discarded + 1) } } :=
      ((if_neg link).trans (if_pos rfl)).trans (s.fresh.discardFrame_unnumbered link numbering)
    rw [exec_of_effect rfl live effect]
    exact congrArg _ (s.settle_link_take settled _ s.take rfl rfl)

/-! ### GREET (R70, R159, R160) -/

/-- A GREET from the other slot is heard and answered at a take with an UP link. -/
theorem exec_greet {kind : GreetKind} {id : BitVec 16} {size : BitVec 2} (live : s.live = true) (take : s.inTake = true)
    (up : s.link.state = .up) : exec (.greetReceived kind id size (~~~ s.chassis.slotId)) s
      = .next (s.fresh.heard.answerGreet kind id size).settle := by
  have handled : s.fresh.greetArrives kind id size (~~~ s.chassis.slotId) = s.fresh.heard.answerGreet kind id size :=
    (if_neg (complement_ne _)).trans (if_pos up)
  exact exec_of_effect rfl live ((s.fresh.takeReceives_of_take _ take up).trans handled)

/-- The verdict on a GREET that is not the one last answered (R70). -/
theorem State.judgeGreet_eq (kind : GreetKind) (id : BitVec 16) (size : BitVec 2) : s.judgeGreet kind id size =
    if kind = .fresh ∧ (s.session.state = .bringup ∨ s.session.state = .held ∨ s.session.state = .detached) then (.new, .none)
    else if kind = .resume ∧ s.session.state = .held ∧ id = s.session.id then
      (if size = s.session.sizeClass then (.resumed, .none) else (.refused, .mismatch))
    else (.refused, .noSession) := by
  unfold State.judgeGreet
  cases kind <;> cases s.session.state <;> simp

/-- The GREET last answered, sent again, gets its verdict again and changes nothing else (R70). -/
theorem State.answerGreet_again {g : Greeted} {kind : GreetKind} {id : BitVec 16} {size : BitVec 2} (last : s.session.greeted = some g)
    (session : g.session = id) (same : g.kind = kind) (class' : g.size = size) :
    s.answerGreet kind id size = s.owesEcho { session := id, verdict := g.verdict, reason := g.reason } := by
  simp [State.answerGreet, last, Option.filter, session, same, class']

/-- The take once a GREET is answered with this verdict: its effect, its echo, its record, the bring-up timer stopped (R70, R74). -/
def State.greetedWith (kind : GreetKind) (id : BitVec 16) (size : BitVec 2) (v : Verdict × Reason) (s : State) : State :=
  { (s.giveVerdict v.1 id size).owesEcho { session := id, verdict := v.1, reason := v.2 } with
    link := { ((s.giveVerdict v.1 id size).owesEcho { session := id, verdict := v.1, reason := v.2 }).link with bringup := none }
    session := { (s.giveVerdict v.1 id size).session with
      greeted := some { session := id, kind := kind, size := size, verdict := v.1, reason := v.2 } } }

/-- Any other GREET is judged, answered and recorded (R70). -/
theorem State.answerGreet_judged {kind : GreetKind} {id : BitVec 16} {size : BitVec 2}
    (other : ∀ g, s.session.greeted = some g → ¬ (g.session = id ∧ g.kind = kind ∧ g.size = size)) :
    s.answerGreet kind id size = s.greetedWith kind id size (s.judgeGreet kind id size) := by
  have unlike : (s.session.greeted.filter fun g => g.session == id && g.kind == kind && g.size == size) = none := by
    rw [Option.filter_eq_none_iff]
    intro g hg
    simpa [and_assoc] using other g hg
  unfold State.answerGreet
  rw [unlike]
  rfl

/-- What each verdict does to link, take and session (R70, R73, R159, R160). -/
theorem State.giveVerdict_new (id : BitVec 16) (size : BitVec 2) : (s.giveVerdict .new id size).link = s.link
    ∧ (s.giveVerdict .new id size).take = { s.take with awaitingLayout := true }
    ∧ (s.giveVerdict .new id size).session = { s.session with state := .bringup, id := id, sizeClass := size, hold := none } := by
  simp [State.giveVerdict, State.setState_session]

theorem State.giveVerdict_resumed (id : BitVec 16) (size : BitVec 2) :
    (s.giveVerdict .resumed id size).link = { s.link with numbering := true }
      ∧ (s.giveVerdict .resumed id size).take = { s.take with rx := .inOrder, expected := 0, freed := 0, ackSeq := none, buffer := [] }
      ∧ (s.giveVerdict .resumed id size).session = { s.session with state := .receiving, hold := none } := by
  simp [State.giveVerdict, State.setState_session, State.startNumberingTake]

theorem State.giveVerdict_kept (v : Verdict) (id : BitVec 16) (size : BitVec 2) : (s.giveVerdict v id size).regions = s.regions
    ∧ (s.giveVerdict v id size).faults = s.faults := by
  cases v <;> simp [State.giveVerdict]

/-- Settles O48. -/
theorem greetIsAnswered : Obligations.GreetIsAnswered := by
  intro kind id size s live take up c v
  have heard := s.fresh.heard_of_up up
  refine ⟨fun g last session same class' settled => ?_, fun other => ?_⟩
  · have again := s.fresh.heard.answerGreet_again (by simpa using last) session same class'
    refine (exec_greet s live take up).trans ?_
    rw [again, heard]
    exact congrArg _ (s.settle_link_take settled _ s.take rfl rfl)
  · have judged : s.fresh.heard.judgeGreet kind id size = v := by
      rw [State.judgeGreet_eq, State.heard_session]; rfl
    have answered := s.fresh.heard.answerGreet_judged (kind := kind) (id := id) (size := size) (by simpa using other)
    rw [judged] at answered
    refine ⟨_, (exec_greet s live take up).trans (by rw [answered]), ?_⟩
    obtain ⟨regions, faults⟩ := s.fresh.heard.giveVerdict_kept v.1 id size
    have heardLink : s.fresh.heard.link = { s.link with silence := 0, confirmed := true } := by rw [heard]; rfl
    clear_value v
    obtain ⟨verdict, reason⟩ := v
    cases verdict with
    | new =>
      obtain ⟨link, work, session⟩ := s.fresh.heard.giveVerdict_new id size
      simp [State.greetedWith, State.owesEcho, link, work, session, regions, faults, heardLink]
    | resumed =>
      obtain ⟨link, work, session⟩ := s.fresh.heard.giveVerdict_resumed id size
      simp [State.greetedWith, State.owesEcho, link, work, session, regions, faults, heardLink]
    | refused =>
      simp [State.greetedWith, State.owesEcho, State.giveVerdict, heardLink]

end Sys2Proof.Machine
end

section
/-! PROOFS. The frames the part builds, read back from their bytes (O56). -/

namespace Sys2Proof.Machine

open Sys2Proof

/-! ### Numbers as bytes (R188) -/

@[simp] theorem length_leBytes (n v : Nat) : (leBytes n v).length = n := by
  induction n generalizing v with
  | zero => rfl
  | succ n ih => simp [leBytes, ih]

theorem leNat_leBytes (n v : Nat) : leNat (leBytes n v) = v % 256 ^ n := by
  induction n generalizing v with
  | zero => simp [leBytes, leNat, Nat.mod_one]
  | succ n ih => rw [leBytes, leNat, ih, pow_succ', Nat.mod_mul, BitVec.toNat_ofNat]

/-! ### Fields of a run of bytes -/

/-- The number in front of a run. -/
theorem fieldNat_leBytes (n v : Nat) (bs : List Byte) : fieldNat (leBytes n v ++ bs) 0 n = v % 256 ^ n := by
  rw [fieldNat, List.drop_zero, List.take_left' (length_leBytes n v), leNat_leBytes]

/-- A field behind a first part of the run is a field of the rest. -/
theorem fieldNat_append {i : Nat} {pre : List Byte} (h : pre.length ≤ i) (bs : List Byte) (n : Nat) :
    fieldNat (pre ++ bs) i n = fieldNat bs (i - pre.length) n := by
  rw [fieldNat, fieldNat, List.drop_append, List.drop_eq_nil_of_le h, List.nil_append]

theorem fieldNat_cons (b : Byte) (bs : List Byte) (i n : Nat) : fieldNat (b :: bs) (i + 1) n = fieldNat bs i n := rfl

theorem fieldNat_byte (b : Byte) (bs : List Byte) : fieldNat (b :: bs) 0 1 = b.toNat := by simp [fieldNat, leNat]

theorem fieldByte_cons (b : Byte) (bs : List Byte) : fieldByte (b :: bs) 0 = b := by simp [fieldByte, fieldNat_byte, codeByte]

theorem fieldByte_cons_succ (b : Byte) (bs : List Byte) (i : Nat) : fieldByte (b :: bs) (i + 1) = fieldByte bs i := rfl

theorem fieldByte_append {i : Nat} {pre : List Byte} (h : pre.length ≤ i) (bs : List Byte) :
    fieldByte (pre ++ bs) i = fieldByte bs (i - pre.length) := by rw [fieldByte, fieldNat_append h, fieldByte]

/-- A field of a value's width read back is the value. -/
theorem ofNat_fieldNat {w n : Nat} (x : BitVec w) (h : w ≤ 8 * n) (bs : List Byte) :
    BitVec.ofNat w (fieldNat (leBytes n x.toNat ++ bs) 0 n) = x := by
  have wide : x.toNat < 256 ^ n := by
    calc x.toNat < 2 ^ w := x.isLt
      _ ≤ 2 ^ (8 * n) := Nat.pow_le_pow_right (by decide) h
      _ = 256 ^ n := pow_mul 2 8 n
  rw [fieldNat_leBytes, Nat.mod_eq_of_lt wide, BitVec.ofNat_toNat, BitVec.setWidth_eq]

/-- Among parts of one length each, part `i` stands at `i` times that length. -/
theorem take_drop_flatMap {α : Type} (part : α → List Byte) (k : Nat) (length : ∀ a, (part a).length = k) (l : List α) (i : Nat)
    (h : i < l.length) : ((l.flatMap part).drop (k * i)).take k = part l[i] := by
  induction l generalizing i with
  | nil => simp at h
  | cons a l ih =>
    cases i with
    | zero => simpa using List.take_left' (length a)
    | succ i =>
      have next : k * (i + 1) = (part a).length + k * i := by rw [length]; ring
      rw [List.flatMap_cons, next, List.drop_length_add_append]
      exact ih i _

/-! ### The frame check (R63) -/

theorem checkedBody_withCheck (body : List Byte) : checkedBody (withCheck body) = some body := by
  have cut : (withCheck body).length - 4 = body.length := by simp [withCheck]
  have front : (withCheck body).take body.length = body := List.take_left
  have back : (withCheck body).drop body.length = leBytes 4 (crc32 body).toNat := List.drop_left
  rw [checkedBody, cut, front, back]
  exact if_pos ⟨by simp [withCheck], rfl⟩

/-! ### Codes (R185) -/

theorem linkRoleOf_code (r : LinkRole) : linkRoleOf (codeByte (linkRoleCode r)) = some r := by cases r <;> rfl
theorem closeOf_code (r : CloseReason) : closeOf (codeByte (closeCode r)) = some r := by cases r <;> rfl
theorem greetKindOf_code (k : GreetKind) : greetKindOf (codeByte (greetKindCode k)) = some k := by cases k <;> rfl
theorem verdictOf_code (v : Verdict) : verdictOf (codeByte (verdictCode v)) = some v := by cases v <;> rfl
theorem reasonOf_code (r : Reason) : reasonOf (codeByte (reasonCode r)) = some r := by cases r <;> rfl
theorem stateOf_code (st : SessState) : stateOf (codeByte (stateCode st)) = some st := by cases st <;> rfl

/-- A small value sent as a byte is read back (R63). -/
theorem smallField_setWidth {w : Nat} (x : BitVec w) (h : w ≤ 8) : smallField w (x.setWidth 8) = some x := by
  have wide : x.toNat < 2 ^ 8 := x.isLt.trans_le (Nat.pow_le_pow_right (by decide) h)
  have same : (x.setWidth 8).toNat = x.toNat := by rw [BitVec.toNat_setWidth, Nat.mod_eq_of_lt wide]
  simp [smallField, same, x.isLt]

/-! ### Records, words, entries -/

theorem length_recordBytes (r : MirrorRecord) : (recordBytes r).length = 12 := by simp [recordBytes]

theorem length_regionBytes (r : Region) : (regionBytes r).length = 16 := by simp [regionBytes]

theorem readRecord_recordBytes (r : MirrorRecord) : readRecord (recordBytes r) = r := by
  have addr : BitVec.ofNat 24 (fieldNat (recordBytes r) 0 3) = r.addr := by
    rw [recordBytes, List.append_assoc, ofNat_fieldNat _ (by decide)]
  have mask : BitVec.ofNat 8 (fieldNat (recordBytes r) 3 1) = r.mask := by
    rw [recordBytes, List.append_assoc, fieldNat_append (by simp)]
    simp [fieldNat_byte]
  have data : BitVec.ofNat 64 (fieldNat (recordBytes r) 4 8) = r.data := by
    rw [recordBytes, fieldNat_append (by simp)]
    simpa using ofNat_fieldNat r.data (by decide) []
  rw [readRecord, addr, mask, data]

/-- The records of a MIR frame are read back (R61). -/
theorem readRecords_flatMap (rs : List MirrorRecord) : readRecords rs.length (rs.flatMap recordBytes) = rs := by
  induction rs with
  | nil => rfl
  | cons r rs ih =>
    rw [List.length_cons, List.flatMap_cons, readRecords, List.take_left' (length_recordBytes r), List.drop_left' (length_recordBytes r),
      readRecord_recordBytes, ih]

theorem readEntry_regionBytes (r : Region) : readEntry (regionBytes r) = r.asEntry := by
  have parts : regionBytes r = leBytes 3 r.base.toNat ++ (leBytes 3 r.length.toNat
      ++ (codeOfClass r.cls :: codeByte r.order.toNat :: leBytes 8 r.fill.toNat)) := by simp [regionBytes]
  have base : BitVec.ofNat 18 (fieldNat (regionBytes r) 0 3) = r.base := by rw [parts, ofNat_fieldNat _ (by decide)]
  have length : BitVec.ofNat 24 (fieldNat (regionBytes r) 3 3) = r.length.setWidth 24 := by
    have wide : (r.length.setWidth 24).toNat = r.length.toNat := by simp; omega
    rw [parts, fieldNat_append (by simp), ← wide, length_leBytes, Nat.sub_self, ofNat_fieldNat _ (by decide)]
  have cls : BitVec.ofNat 8 (fieldNat (regionBytes r) 6 1) = codeOfClass r.cls := by
    rw [parts, fieldNat_append (by simp), fieldNat_append (by simp)]
    simp [fieldNat_byte]
  have order : BitVec.ofNat 4 (fieldNat (regionBytes r) 7 1) = r.order := by
    rw [parts, fieldNat_append (by simp), fieldNat_append (by simp), length_leBytes, length_leBytes, fieldNat_cons, fieldNat_byte]
    apply BitVec.eq_of_toNat_eq
    simp [codeByte]
    omega
  have fill : BitVec.ofNat 64 (fieldNat (regionBytes r) 8 8) = r.fill := by
    rw [parts, fieldNat_append (by simp), fieldNat_append (by simp), length_leBytes, length_leBytes, fieldNat_cons, fieldNat_cons]
    simpa using ofNat_fieldNat r.fill (by decide) []
  rw [readEntry, base, length, cls, order, fill, Region.asEntry]

/-! ### Frames (R188) -/

theorem readLayout_regionBytes (rs : Vector Region 16) :
    readLayout (rs.toList.flatMap regionBytes) = .layoutReceived (rs.map Region.asEntry) := by
  rw [readLayout]
  congr 1
  ext i hi : 1
  have part := take_drop_flatMap regionBytes 16 length_regionBytes rs.toList i (by simpa using hi)
  rw [Vector.getElem_ofFn, part, readEntry_regionBytes, Vector.getElem_map]
  simp

theorem readSeg_bytes (q : Seq) (n : BitVec 18) (ws : Vector Word 64) :
    readSeg (leBytes 2 q.toNat ++ leBytes 3 n.toNat ++ ws.toList.flatMap fun w => leBytes 8 w.toNat)
      = .sequencedFrameReceived q (.seg n ws) := by
  have words : (Vector.ofFn fun i : Fin 64 => BitVec.ofNat 64 (fieldNat
      (leBytes 2 q.toNat ++ leBytes 3 n.toNat ++ ws.toList.flatMap fun w => leBytes 8 w.toNat) (5 + 8 * i.val) 8)) = ws := by
    ext i hi : 1
    have part := take_drop_flatMap (fun w : Word => leBytes 8 w.toNat) 8 (fun w => length_leBytes 8 _) ws.toList i (by simpa using hi)
    have whole := ofNat_fieldNat (n := 8) ws[i] (by decide) []
    rw [List.append_nil] at whole
    rw [Vector.getElem_ofFn, fieldNat_append (by simp)]
    simp only [List.length_append, length_leBytes, Nat.reduceAdd, Nat.add_sub_cancel_left]
    rw [fieldNat, part]
    simpa [fieldNat, List.take_of_length_le] using whole
  rw [readSeg, words, List.append_assoc, ofNat_fieldNat q (by decide), fieldNat_append (by simp)]
  simp [ofNat_fieldNat n (n := 3) (by decide)]

/-- A MIR frame of 1 to 8 records is read back (R61, R63). -/
theorem readMir_bytes (q : Seq) {rs : List MirrorRecord} (some' : 1 ≤ rs.length) (fits : rs.length ≤ Config.mirRecords) :
    readMir (leBytes 2 q.toNat ++ [codeByte rs.length] ++ rs.flatMap recordBytes) = some (.sequencedFrameReceived q (.mir rs)) := by
  have count : fieldNat (leBytes 2 q.toNat ++ [codeByte rs.length] ++ rs.flatMap recordBytes) 2 1 = rs.length := by
    have small : rs.length < 256 := fits.trans_lt (by decide)
    rw [List.append_assoc, fieldNat_append (by simp)]
    simp [fieldNat_byte, codeByte, Nat.mod_eq_of_lt small]
  have length : (leBytes 2 q.toNat ++ [codeByte rs.length] ++ rs.flatMap recordBytes).length = 3 + 12 * rs.length := by
    simp [List.length_flatMap, length_recordBytes]
    omega
  have records : (leBytes 2 q.toNat ++ [codeByte rs.length] ++ rs.flatMap recordBytes).drop 3 = rs.flatMap recordBytes :=
    List.drop_left' (by simp)
  rw [readMir, count, if_pos ⟨some', fits, length⟩, records, readRecords_flatMap, List.append_assoc, ofNat_fieldNat q (by decide)]

theorem readBody_sequenced (lane : BitVec 2) (q : Seq) (f : SeqFrame) (wf : (TxFrame.sequenced q f).wf = true) :
    readBody lane (seqBody q f) = some (.sequencedFrameReceived q f) := by
  have seq : BitVec.ofNat 16 (fieldNat (leBytes 2 q.toNat) 0 2) = q := by simpa using ofNat_fieldNat q (by decide) []
  cases f with
  | seg n ws =>
    have length : (leBytes 2 q.toNat ++ leBytes 3 n.toNat ++ ws.toList.flatMap fun w => leBytes 8 w.toNat).length = 517 := by
      simp [List.length_flatMap]
    exact (if_pos ⟨rfl, length⟩).trans (congrArg some (readSeg_bytes q n ws))
  | mir rs =>
    obtain ⟨some', fits⟩ : 1 ≤ rs.length ∧ rs.length ≤ Config.mirRecords := by simpa [TxFrame.wf] using wf
    exact readMir_bytes q some' fits
  | instep => simp [seqBody, readBody, readFields, seq]
  | stale => simp [seqBody, readBody, readFields, seq]
  | handover => simp [seqBody, readBody, readFields, seq]

theorem readBody_greet (lane : BitVec 2) (kind : GreetKind) (session : BitVec 16) (size : BitVec 2) (slot : BitVec 1) :
    readBody lane (frameBody (.greet kind session size slot)) = some (.greetReceived kind session size slot) := by
  have body : frameBody (.greet kind session size slot) = 0x02 :: codeByte (greetKindCode kind)
      :: (leBytes 2 session.toNat ++ [size.setWidth 8, slot.setWidth 8]) := rfl
  have fields : readGreet (codeByte (greetKindCode kind)) (fieldNat (leBytes 2 session.toNat ++ [size.setWidth 8, slot.setWidth 8]) 0 2)
      (size.setWidth 8) (slot.setWidth 8) = some (.greetReceived kind session size slot) := by
    simp [readGreet, greetKindOf_code, smallField_setWidth, ofNat_fieldNat]
  rw [body]
  simpa [readBody, readFields, fieldByte_cons, fieldByte_cons_succ, fieldByte_append, fieldNat_cons] using fields

theorem readBody_echo (lane : BitVec 2) (e : Echo) (wf : (TxFrame.greetEcho e).wf = true) :
    readBody lane (frameBody (.greetEcho e)) = some (.greetEchoReceived e.session e.verdict e.reason) := by
  have body : frameBody (.greetEcho e) = 0x21
      :: (leBytes 2 e.session.toNat ++ [codeByte (verdictCode e.verdict), codeByte (reasonCode e.reason)]) := rfl
  have silent : ¬ e.verdict = .refused → e.reason = .none := fun other => by simpa [TxFrame.wf, other] using wf
  have fields : readEcho (fieldNat (leBytes 2 e.session.toNat ++ [codeByte (verdictCode e.verdict), codeByte (reasonCode e.reason)]) 0 2)
      (codeByte (verdictCode e.verdict)) (codeByte (reasonCode e.reason)) = some (.greetEchoReceived e.session e.verdict e.reason) := by
    simp only [readEcho, verdictOf_code, reasonOf_code, ofNat_fieldNat e.session (show 16 ≤ 8 * 2 by decide), Option.bind_eq_bind,
      Option.bind_some]
    split
    · rfl
    · next other => rw [silent other]; rfl
  rw [body]
  simpa [readBody, readFields, fieldByte_cons, fieldByte_cons_succ, fieldByte_append] using fields

theorem readBody_ack (lane : BitVec 2) (a : Option Seq) (freed : BitVec 8) (fails : BitVec 16) (st : SessState) :
    readBody lane (frameBody (.ack a freed fails st)) = some (.ackReceived a freed fails st) := by
  have body : frameBody (.ack a freed fails st) = 0x23 :: (leBytes 2 ((a.map BitVec.toNat).getD 0)
      ++ (if a.isSome then 1 else 0) :: freed :: (leBytes 2 fails.toNat ++ [codeByte (stateCode st)])) := by simp [frameBody]
  have fields : readAck ((a.map BitVec.toNat).getD 0 % 256 ^ 2) (if a.isSome then 1 else 0) freed
      (fieldNat (leBytes 2 fails.toNat ++ [codeByte (stateCode st)]) 0 2) (codeByte (stateCode st))
        = some (.ackReceived a freed fails st) := by
    cases a with
    | none => simp [readAck, smallField, stateOf_code, ofNat_fieldNat]
    | some q =>
      have small : q.toNat % 65536 = q.toNat := Nat.mod_eq_of_lt q.isLt
      simp [readAck, smallField, stateOf_code, ofNat_fieldNat, small]
  rw [body]
  simpa [readBody, readFields, fieldByte_cons, fieldByte_cons_succ, fieldByte_append, fieldNat_cons, fieldNat_append, fieldNat_leBytes]
    using fields

theorem readBody_frameBody (lane : BitVec 2) (f : TxFrame) (wf : f.wf = true) : readBody lane (frameBody f) = some (f.arrives lane) := by
  have number (e : Seq) : BitVec.ofNat 16 (fieldNat (leBytes 2 e.toNat) 0 2) = e := by simpa using ofNat_fieldNat e (by decide) []
  cases f with
  | train role slot =>
    simp [frameBody, readBody, readFields, readTrain, fieldByte_cons, fieldByte_cons_succ, linkRoleOf_code, smallField_setWidth,
      TxFrame.arrives]
  | greet kind session size slot => exact readBody_greet lane kind session size slot
  | layout rs =>
    have length : (rs.toList.flatMap regionBytes).length = 256 := by simp [List.length_flatMap, length_regionBytes]
    have fields : readFields lane 0x03 (rs.toList.flatMap regionBytes) = some (readLayout (rs.toList.flatMap regionBytes)) := by
      simp [readFields, length]
    exact fields.trans (congrArg some (readLayout_regionBytes rs))
  | sequenced q f => exact readBody_sequenced lane q f wf
  | rewound e => simp [frameBody, readBody, readFields, number, TxFrame.arrives]
  | pulse => rfl
  | close reason => simp [frameBody, readBody, readFields, fieldByte_cons, closeOf_code, TxFrame.arrives]
  | greetEcho e => exact readBody_echo lane e wf
  | ready => rfl
  | ack a freed fails st => exact readBody_ack lane a freed fails st
  | rewind e => simp [frameBody, readBody, readFields, number, TxFrame.arrives]

/-- Settles O56: the check gives back the body, and each kind's fields are read where they were written. -/
theorem sentFramesAreReadBack : Obligations.SentFramesAreReadBack := by
  intro lane f wf
  rw [readFrame, frameBytes, checkedBody_withCheck, Option.bind_some, readBody_frameBody lane f wf]

end Sys2Proof.Machine
end

section
/-! PROOFS. Time as the review and the throttle see it: one pace tick (O2), and the spacing passed with a write held (O13). -/

namespace Sys2Proof.Machine

open Sys2Proof

variable (s : State)

/-! ### A pace tick (R112, R131) -/

/-- Settles O2. -/
theorem idleStepIsOnePaceTick : Obligations.IdleStepIsOnePaceTick := by
  intro s noCommand live
  have tick : step s = .next (s.fresh.advance 1) := by rw [step, noCommand]; rfl
  refine ⟨_, tick, ?_⟩
  rw [s.fresh.advance_of_live 1 live]
  exact ⟨rfl, rfl, rfl, rfl, rfl, rfl, rfl, rfl, rfl, rfl, rfl, rfl, rfl, rfl, rfl, rfl, rfl, rfl, rfl, noCommand⟩

/-! ### A write examined during a pass (R4, R7, R8) -/

/-- A session in which a pass runs is in none of the states that hold or absorb writes by themselves (R112). -/
theorem State.calm_of_passRunning (pass : s.passRunning = true) : (s.session.state == .freeze) = false
    ∧ (s.session.state == .replay) = false ∧ (s.session.state == .handover) = false := by
  have state : s.session.state = .sweep ∨ s.session.state = .catchup := by simpa [State.passRunning] using pass
  rcases state with h | h <;> rw [h] <;> decide

/-- During a pass the throttle alone can hold a write (R7). -/
theorem State.holds_of_passRunning (w : WriteReq) (pass : s.passRunning = true) : s.holds w = s.throttleHolds w := by
  obtain ⟨notFreeze, -, notHandover⟩ := s.calm_of_passRunning pass
  simp [State.holds, State.overlayHolds, State.handoverHolds, notFreeze, notHandover]

/-- During a pass the overlay absorbs no write (R8). -/
theorem State.absorbs_of_passRunning (w : WriteReq) (pass : s.passRunning = true) : s.absorbs w = false := by
  obtain ⟨notFreeze, notReplay, -⟩ := s.calm_of_passRunning pass
  simp [State.absorbs, notFreeze, notReplay]

/-- A write that is neither blocked nor held nor absorbed is admitted and becomes the candidate (R4). -/
theorem State.examineWrite_of_admitted (w : WriteReq) (live : s.live = true) (mask : w.mask ≠ 0) (notBlocked : s.blocked w.addr = false)
    (notHeld : s.holds w = false) (notAbsorbed : s.absorbs w = false) : s.examineWrite w = (s.admitWrite w).writeCandidate w := by
  have examined : (!s.live || w.mask == 0) = false := by simpa [live] using mask
  simp only [State.examineWrite, examined, notBlocked, notHeld, notAbsorbed, Bool.false_eq_true, if_false]

/-- The write of a tracked segment admitted during a pass is counted, and its tick recorded (R113, R123). -/
theorem State.admitWrite_of_passRunning (w : WriteReq) (feed : s.inFeed = true) (pass : s.passRunning = true)
    (tracked : (s.classOf w.addr).tracked = true) :
    s.admitWrite w = { s with review := { s.review with w := satAdd Config.top32 s.review.w 1, lastAdmitted := some s.chassis.tick } } := by
  simp [State.admitWrite, feed, tracked, pass]

/-- What follows the held write's examination at the end of a command leaves the maintenance stream and the review unit. -/
theorem State.settle_of_examineHeld :
    s.settle.path.maint = s.examineHeld.path.maint ∧ s.settle.review = s.examineHeld.review := by
  simp [State.settle]

/-! ### The spacing passed (R123) -/

/-- During a pass, with the spacing since the last admitted write passed, a held write to a MIRROR region that is examined again is admitted
(R7, R123). -/
theorem State.examineHeld_of_spacing_passed (w : WriteReq) (k : Nat) (live : s.live = true) (feed : s.inFeed = true)
    (pass : s.passRunning = true) (last : s.review.lastAdmitted = some k) (passed : spacingOf s.review.throttle ≤ s.chassis.tick - k)
    (reported : s.signals.reexamine = true) (held : s.path.maint = .held w) (mask : w.mask ≠ 0) (notBlocked : s.blocked w.addr = false)
    (mirror : s.classOf w.addr = .mirror) : s.examineHeld = { s with
      path := { s.path with maint := .write w }
      review := { s.review with w := satAdd Config.top32 s.review.w 1, lastAdmitted := some s.chassis.tick } } := by
  have examined : s.examineHeld = s.examineWrite w := by simp [State.examineHeld, reported, held]
  have notHeld : s.holds w = false := by
    rw [s.holds_of_passRunning w pass]
    simp [State.throttleHolds, State.spacingShort, last, passed]
  rw [examined, s.examineWrite_of_admitted w live mask notBlocked notHeld (s.absorbs_of_passRunning w pass),
    s.admitWrite_of_passRunning w feed pass (by rw [mirror]; rfl)]
  rfl

/-- Settles O13: the clock is carried to the spacing's end, where no hold applies to the held write any more. -/
theorem spacingPassedAdmitsHeldWrite : Obligations.SpacingPassedAdmitsHeldWrite := by
  intro s w k live feed state throttled last after before held mask notBlocked mirror
  have pass : s.passRunning = true := by simpa [State.passRunning] using state
  have pass' : s.fresh.passRunning = true := pass
  generalize hn : spacingOf s.review.throttle - (s.chassis.tick - k) = n
  have effect : s.fresh.spacingPassed = (s.fresh.advance n).reexamine := by
    have applies : (s.fresh.inFeed && s.fresh.passRunning && s.fresh.review.throttle != 0) = true := by
      simp [feed, throttled, pass']
    rw [State.spacingPassed, if_pos applies, ← hn]
    simp [last]
  rw [s.fresh.advance_of_live n live, if_pos pass'] at effect
  generalize hu : State.reexamine _ = u at effect
  have tick : u.chassis.tick = k + spacingOf s.review.throttle := by
    rw [← hu]
    change s.chassis.tick + n = _
    omega
  have throttle : u.review.throttle = s.review.throttle := by rw [← hu]; rfl
  have passing : u.passRunning = true := by rw [← hu]; exact pass
  obtain ⟨notFreeze, notReplay, -⟩ := u.calm_of_passRunning passing
  have admitted := u.examineHeld_of_spacing_passed w k (by rw [← hu]; exact live) (by rw [← hu]; exact feed) passing
    (by rw [← hu]; exact last) (by rw [tick, throttle]; omega) (by rw [← hu]; rfl) (by rw [← hu]; exact held) mask
    (by rw [← hu]; exact notBlocked) (by rw [← hu]; exact mirror)
  obtain ⟨maint, review⟩ := u.settle_of_examineHeld
  refine ⟨_, exec_of_effect rfl live effect, ?_⟩
  rw [State.settle_chassis, maint, review, u.settle_freeze (.inr ⟨by simpa using notFreeze, by simpa using notReplay⟩), State.settle_map,
    admitted]
  refine ⟨tick, rfl, congrArg some tick, ?_⟩
  rw [← hu]
  exact ⟨rfl, rfl, rfl, rfl⟩

end Sys2Proof.Machine
end

section
/-! PROOFS. The arithmetic of the review (O38). -/

namespace Sys2Proof.Machine

open Sys2Proof

/-- A quotient rounded up is the least number of divisors that reaches the dividend. -/
theorem ceilDiv_eq {a b k : Nat} (divisor : 0 < b) (reaches : a ≤ k * b) (least : k = 0 ∨ (k - 1) * b < a) : ceilDiv a b = k := by
  refine Nat.div_eq_of_lt_le ?_ ?_
  · rcases k with - | k
    · simp
    · simp only [Nat.add_sub_cancel, Nat.add_eq_zero_iff, Nat.one_ne_zero, and_false, false_or] at least
      rw [Nat.succ_mul]
      omega
  · rw [Nat.succ_mul]
    omega

/-- Settles O38. -/
theorem reviewArithmetic : Obligations.ReviewArithmetic := by
  intro s r t c w
  refine ⟨rfl, fun noSegments => ?_, fun segments noTime => ?_, fun segments time k positive below reaches => ?_, rfl, fun noTime => ?_,
    fun time q reached next => ?_, fun p reaches least => ?_, ?_⟩
  · exact if_pos noSegments
  · exact (if_neg segments).trans (if_pos noTime)
  · have quotient : ceilDiv t c = k := ceilDiv_eq (Nat.pos_of_ne_zero segments) reaches (.inr below)
    rw [← quotient]
    exact (if_neg segments).trans (if_neg time)
  · exact if_pos noTime
  · have quotient : w * 256 / t = q := Nat.div_eq_of_lt_le reached next
    rw [← quotient]
    exact if_neg time
  · rw [← ceilDiv_eq (by decide) reaches least]
    rfl
  · unfold fits
    rw [Bool.and_eq_true, decide_eq_true_iff, decide_eq_true_iff]
    rfl

end Sys2Proof.Machine
end

section
/-! SUPPORT. The session's moves that a review or the end of a freeze makes, block by block: STEADY, HANDOVER, FREEZE (R130, R135, R155),
the throttle (R122), the flush with the session continuing (R40, R138); and what a command's end leaves of feed and freeze timer behind them. -/

namespace Sys2Proof.Machine

open Sys2Proof

variable (s : State)

/-! ### Session state and throttle -/

/-- A change of the session state moves the state, the notices and the signals. -/
theorem State.setState_eq (st : SessState) : s.setState st = { s with
    session := { s.session with state := st }, notices := (s.setState st).notices, signals := (s.setState st).signals } := by
  unfold State.setState
  split
  · next h => rw [← h]
  · rfl

@[simp] theorem State.setThrottle_review (n : Nat) : (s.setThrottle n).review = { s.review with throttle := n } := by
  unfold State.setThrottle; split <;> rfl
@[simp] theorem State.setThrottle_signals_dirtied (n : Nat) : (s.setThrottle n).signals.dirtied = s.signals.dirtied := by
  unfold State.setThrottle; split <;> rfl

/-- A change of the throttle moves the level and the signals. -/
theorem State.setThrottle_eq (n : Nat) : s.setThrottle n = { s with
    review := { s.review with throttle := n }, signals := (s.setThrottle n).signals } := by
  unfold State.setThrottle; split <;> rfl

/-! ### STEADY, HANDOVER, FREEZE -/

@[simp] theorem State.enterSteady_session : s.enterSteady.session = { s.session with state := .steady } := by
  simp [State.enterSteady, State.setState_session]
@[simp] theorem State.enterSteady_review : s.enterSteady.review = { s.review with throttle := 0 } := by simp [State.enterSteady]
@[simp] theorem State.enterSteady_walker : s.enterSteady.walker = { s.walker with cursor := some 0 } := by simp [State.enterSteady]
@[simp] theorem State.enterSteady_signals_dirtied : s.enterSteady.signals.dirtied = s.signals.dirtied := by simp [State.enterSteady]

@[simp] theorem State.enterFreeze_session : s.enterFreeze.session = { s.session with state := .freeze } := by
  simp [State.enterFreeze, State.setState_session]
@[simp] theorem State.enterFreeze_freeze : s.enterFreeze.freeze = { s.freeze with timer := some 0 } := by simp [State.enterFreeze]
@[simp] theorem State.enterFreeze_walker : s.enterFreeze.walker = { s.walker with cursor := some 0 } := by simp [State.enterFreeze]

@[simp] theorem State.endFeed_review (close : Option CloseReason) : (s.endFeed close).review = { s.review with throttle := 0 } := by
  simp [State.endFeed]

/-- HANDOVER is entered at once where a handover is pending, as the end of a replay and a STEADY review have it (R135, R155). -/
def State.handoverIfPending (s : State) : State := if s.session.handoverPending then s.enterHandover else s

@[simp] theorem State.handoverIfPending_session : s.handoverIfPending.session = { s.session with
    state := if s.session.handoverPending then .handover else s.session.state, handoverPending := false } := by
  unfold State.handoverIfPending
  split
  · next pending => simp [State.enterHandover, State.setState_session, pending]
  · next pending => simp [← Bool.eq_false_iff.2 pending]
@[simp] theorem State.handoverIfPending_freeze : s.handoverIfPending.freeze = { s.freeze with
    timer := if s.session.handoverPending then some 0 else s.freeze.timer } := by
  unfold State.handoverIfPending
  split <;> simp [State.enterHandover]
@[simp] theorem State.handoverIfPending_map : s.handoverIfPending.map = s.map := by
  unfold State.handoverIfPending; split <;> simp
@[simp] theorem State.handoverIfPending_walker : s.handoverIfPending.walker = s.walker := by
  unfold State.handoverIfPending; split <;> simp
@[simp] theorem State.handoverIfPending_feed : s.handoverIfPending.feed = s.feed := by
  unfold State.handoverIfPending; split <;> simp
@[simp] theorem State.handoverIfPending_review : s.handoverIfPending.review = s.review := by
  unfold State.handoverIfPending; split <;> simp
@[simp] theorem State.handoverIfPending_signals_dirtied : s.handoverIfPending.signals.dirtied = s.signals.dirtied := by
  unfold State.handoverIfPending; split <;> simp [State.enterHandover]

/-- The end of a replay: STEADY, and HANDOVER where one is pending (R135). -/
theorem State.endReplay_of_replayed (replay : s.session.state = .replay) (overlay : s.freeze.entries = []) :
    s.endReplay = s.enterSteady.handoverIfPending := if_pos ⟨replay, overlay⟩

/-- A replay that has entries left goes on (R135). -/
theorem State.endReplay_of_entries (overlay : s.freeze.entries ≠ []) : s.endReplay = s := if_neg fun h => overlay h.2

/-! ### The flush with the session continuing (R40, R138) -/

/-- Each entry is FLUSHING, buffers in an entry's segment are dropped, and of the map only the states have moved. -/
theorem State.flushContinuing_eq : s.flushContinuing = { s with
    map := { s.map with cells := s.flushContinuing.map.cells }
    walker := { s.walker with
      buf0 := keepBuffer s.freeze.entries s.walker.buf0, buf1 := keepBuffer s.freeze.entries s.walker.buf1 }
    freeze := { s.freeze with entries := s.freeze.entries.map fun e => { e with flushing := true } }
    signals := s.flushContinuing.signals } := by
  have marked := OnlyCells.foldl (fun s (e : OverlayEntry) => s.changeSeg (segmentOf e.addr) flushToDirty)
    (fun s e => .changeSeg s _ _) s.freeze.entries s
  unfold State.flushContinuing
  dsimp only
  rw [marked]
  rfl

theorem Freeze.holds_iff (f : Freeze) (n : Segment) : f.holds n = true ↔ ∃ e ∈ f.entries, segmentOf e.addr = n := by
  simp [Freeze.holds]

theorem flushToDirty_eq (x : SegState) : flushToDirty x = if x = .clean ∨ x = .inflight ∨ x = .opened then .dirty else x := by
  cases x <;> rfl

/-- CLEAN, INFLIGHT and OPEN segments with an entry are DIRTY after the flush (R40). -/
theorem State.flushContinuing_get (n : Segment) : s.flushContinuing.map.get n =
    if (∃ e ∈ s.freeze.entries, segmentOf e.addr = n) ∧ (s.map.get n = .clean ∨ s.map.get n = .inflight ∨ s.map.get n = .opened)
    then .dirty else s.map.get n := by
  have marked : s.flushContinuing.map.get n = if s.freeze.holds n then flushToDirty (s.map.get n) else s.map.get n :=
    State.foldl_changeSeg_get (fun e : OverlayEntry => segmentOf e.addr) flushToDirty rfl (by intro x; cases x <;> rfl) _ s n
  simp only [marked, flushToDirty_eq, Freeze.holds_iff, ite_and]

/-- A buffer outlives the flush where its segment has no overlay entry (R56). -/
theorem keepBuffer_eq_some (es : List OverlayEntry) (o : Option Buffer) (b : Buffer) :
    keepBuffer es o = some b ↔ o = some b ∧ ∀ e ∈ es, segmentOf e.addr ≠ b.segment := by
  simp [keepBuffer, Option.filter_eq_some_iff]

/-! ### The end of a command -/

/-- The end of a command moves no timer: a write it captures joins the entries (R127). -/
@[simp] theorem State.settle_freeze_timer : s.settle.freeze.timer = s.freeze.timer := by
  have captured (f : Freeze) (w : WriteReq) : (f.capture w).timer = f.timer := by
    unfold Freeze.capture; split <;> rfl
  have held : s.examineHeld.freeze.timer = s.freeze.timer := by
    unfold State.examineHeld State.examineWrite State.writeCandidate
    (repeat' split) <;> simp [captured]
  simp [State.settle, held]

/-- Nothing is examined at the end of a command that leaves no write held (R7). -/
theorem State.examineHeld_of_not_held (h : ∀ w, s.path.maint ≠ .held w) : s.examineHeld = s := by
  unfold State.examineHeld
  split
  · split
    · next w hw => exact absurd hw (h w)
    · rfl
  · rfl

/-- No state frame is offered at the end of a command that has an INSTEP as the last step, none waiting, and no segment entered in DIRTY
(R149, R150). -/
theorem State.settle_feed_of_instep (undirtied : s.signals.dirtied = false) (waiting : s.feed.instepWaiting = false)
    (last : s.lastStep = .instep) : s.settle.feed = s.feed := by
  have stale : s.examineHeld.staleStage = s.examineHeld := by simp [State.staleStage, undirtied]
  have last' : s.examineHeld.lastStep = .instep := by
    rw [← last]
    simp [State.lastStep]
  have instep : s.examineHeld.instepStage = s.examineHeld := by
    simp [State.instepStage, State.tryInstep, State.instepTest, waiting, last']
  simp [State.settle, stale, instep]

end Sys2Proof.Machine
end

section
/-! PROOFS. The end of a pass, and what its review decides (O39). -/

namespace Sys2Proof.Machine

open Sys2Proof

variable (s : State)

/-! ### The decision (R119) -/

/-- The first case that applies decides (R119). -/
theorem decideReview_eq {noneOpen : Bool} {nothing : Prop} [Decidable nothing] (h : noneOpen = true ↔ nothing) (d : Nat)
    (fit handover : Bool) (pass limit : Nat) (policy : Policy) : decideReview d noneOpen fit handover pass limit policy =
      if d = 0 ∧ nothing then .steady else if fit then .fit else if handover then .forcedHandover
      else if limit ≤ pass then (if policy = .force then .forcedLimit else .abandon) else .nextPass := by
  unfold decideReview
  simp only [h]
  cases policy <;> rfl

/-- A review decides for STEADY exactly where no segment is DIRTY, UNSENT or OPEN (R119). -/
theorem State.reviewRecord_decision : s.reviewRecord.decision =
    if s.dirtyCount = 0 ∧ s.unsentCount = 0 ∧ s.openCount = 0 then .steady
    else if fits s.reviewRecord.drain (budgetOf s.settings.budget) s.reviewRecord.predicted then .fit
    else if s.session.handoverPending then .forcedHandover
    else if s.settings.passLimit ≤ s.review.passNumber then (if s.settings.policy = .force then .forcedLimit else .abandon)
    else .nextPass :=
  decideReview_eq (by simp) _ _ _ _ _ _

theorem State.nothing_left_of_steady (h : s.reviewRecord.decision = .steady) :
    s.dirtyCount = 0 ∧ s.unsentCount = 0 ∧ s.openCount = 0 := by
  rw [State.reviewRecord_decision] at h
  split at h
  · next nothing => exact nothing
  · (repeat' split at h) <;> cases h

/-! ### The review and its decision at the session controller (R120) -/

/-- The review unit as the review leaves it: D_prev, the record, and the throttle one higher where the next pass raises it (R120). -/
def State.reviewed (s : State) : Review := { s.review with
  dPrev := some s.dirtyCount, record := s.reviewRecord
  throttle := if s.reviewRecord.decision = .nextPass ∧ s.raisesThrottle s.dirtyCount = true then s.review.throttle + 1
    else s.review.throttle }

/-- The review is written down: its record and D_prev (R120). -/
def State.noteReview (s : State) : State :=
  { s with review := { s.review with dPrev := some s.dirtyCount, record := s.reviewRecord } }

/-- The review is written down, its decision acted on, and REVIEW raised (R120). -/
theorem State.runReview_eq : ∃ v : State, s.runReview = (v.actOnReview s.reviewRecord.decision).raise .review
    ∧ v = { s with review := s.reviewed, signals := v.signals } ∧ v.signals.dirtied = s.signals.dirtied := by
  have raises : (s.reviewRecord.decision == .nextPass && s.raisesThrottle s.reviewRecord.d) = true
      ↔ s.reviewRecord.decision = .nextPass ∧ s.raisesThrottle s.dirtyCount = true := by
    rw [Bool.and_eq_true, beq_iff_eq]
    rfl
  by_cases h : s.reviewRecord.decision = .nextPass ∧ s.raisesThrottle s.dirtyCount = true
  · refine ⟨s.noteReview.setThrottle (s.review.throttle + 1), ?_, ?_, by simp [State.noteReview]⟩
    · unfold State.runReview
      dsimp only
      rw [if_pos (raises.2 h)]
      rfl
    · rw [State.setThrottle_eq, State.reviewed, if_pos h]
      rfl
  · refine ⟨s.noteReview, ?_, ?_, rfl⟩
    · unfold State.runReview
      dsimp only
      rw [if_neg (mt raises.1 h)]
      rfl
    · rw [State.reviewed, if_neg h]
      rfl

/-- The next pass raises the throttle: it is on, a review came before, D has not fallen, and the level is below 3 (R120). -/
theorem State.raisesThrottle_iff (d : Nat) : s.raisesThrottle d = true ↔
    s.settings.throttleOn = true ∧ (∃ p, s.review.dPrev = some p ∧ p ≤ d) ∧ s.review.throttle < 3 := by
  cases h : s.review.dPrev <;> simp [State.raisesThrottle, h, and_assoc]

/-- Acting on a decision leaves D_prev and the record. -/
theorem State.actOnReview_record (dec : Decision) :
    (s.actOnReview dec).review.record = s.review.record ∧ (s.actOnReview dec).review.dPrev = s.review.dPrev := by
  cases dec <;> simp [State.actOnReview, State.startPass]
  split <;> simp

/-- A STEADY decision: STEADY with the INSTEP test, and HANDOVER where one is pending (R120, R155). -/
theorem State.actOnReview_steady : s.actOnReview .steady = s.enterSteady.tryInstep.handoverIfPending := rfl

/-- INSTEP is queued as STEADY is entered with no segment DIRTY, UNSENT or OPEN, an empty overlay, STALE as the last step, no INSTEP
waiting, and an empty queue (R120, R149; log 40). -/
theorem State.enterSteady_instep (noDirty : s.dirtyCount = 0) (noUnsent : s.unsentCount = 0) (noOpen : s.openCount = 0)
    (overlay : s.freeze.entries = []) (last : s.lastStep = .stale) (waiting : s.feed.instepWaiting = false)
    (queue : s.feed.queue = []) : s.enterSteady.tryInstep.feed = { s.feed with queue := [.instep] } := by
  have counts : s.enterSteady.dirtyCount = 0 ∧ s.enterSteady.unsentCount = 0 ∧ s.enterSteady.openCount = 0 := by
    simp only [State.dirtyCount, State.unsentCount, State.openCount, State.enterSteady_map]
    exact ⟨noDirty, noUnsent, noOpen⟩
  obtain ⟨noDirty', noUnsent', noOpen'⟩ := counts
  have last' : s.enterSteady.lastStep = .stale := by
    rw [← last]
    simp [State.lastStep]
  have test : s.enterSteady.instepTest = true := by
    simp [State.instepTest, noDirty', noUnsent', noOpen', overlay, last', waiting]
  have place : s.enterSteady.feed.hasPlace = true := by simp [Feed.hasPlace, queue, Config.queuePlaces]
  rw [State.tryInstep, if_pos test, State.offerInstep, if_pos place]
  simp [State.enqueue, queue]

/-! ### PASS_END -/

/-- A pass with its cursor at END, both buffers FREE, queue and window empty is at its end (R47). -/
theorem State.passAtEnd_of (feed : s.inFeed = true) (state : s.session.state = .sweep ∨ s.session.state = .catchup)
    (cursor : s.walker.cursor = none) (buf0 : s.walker.buf0 = none) (buf1 : s.walker.buf1 = none) (queue : s.feed.queue = [])
    (window : s.feed.window = []) : s.passAtEnd = true := by
  have mode : s.walkMode = .pass := by rcases state with h | h <;> simp [State.walkMode, feed, h]
  simp [State.passAtEnd, mode, cursor, buf0, buf1, queue, window]

/-- `v` is `s` with its review written down, as the decision is acted on (R120). -/
structure Reviewed (s v : State) : Prop where
  blocks : v = { s.fresh with review := s.reviewed, signals := v.signals }
  undirtied : v.signals.dirtied = false

/-- PASS_END at the end of a pass: the review is written down, its decision acted on, and REVIEW raised (R47, R120). -/
theorem exec_passEnd (live : s.live = true) (atEnd : s.passAtEnd = true) : ∃ v, Reviewed s v
    ∧ exec .passEnd s = .next ((v.actOnReview s.reviewRecord.decision).raise .review).settle := by
  obtain ⟨v, runs, blocks, undirtied⟩ := s.fresh.runReview_eq
  have effect : s.fresh.endPass = s.fresh.runReview := if_pos atEnd
  exact ⟨v, ⟨blocks, undirtied⟩, exec_of_effect rfl live (effect.trans runs)⟩

/-- A feed session's end does not look at the review unit but for the pass number. -/
theorem FeedKept.review {s u : State} (h : FeedKept s u) (r : Review) (g : Signals) (pass : r.passNumber = u.review.passNumber) :
    FeedKept s { u with review := r, signals := g } :=
  ⟨h.role, h.id, h.lockout, h.drift, h.overflow, h.entries, pass.trans h.passNumber, h.link, h.out, h.regions, h.settings⟩

namespace Reviewed

variable {s} {v : State} (h : Reviewed s v)

include h

theorem review : v.review = s.reviewed := by rw [h.blocks]
theorem session : v.session = s.session := by rw [h.blocks]; rfl
theorem map : v.map = s.map := by rw [h.blocks]; rfl
theorem feed : v.feed = s.feed := by rw [h.blocks]; rfl

/-- Every decision but the next pass leaves the throttle to the session controller (R120). -/
theorem throttle (other : s.reviewRecord.decision ≠ .nextPass) : v.review.throttle = s.review.throttle := by
  rw [h.review]
  exact if_neg fun both => other both.1

/-- The next pass raises the throttle under its conditions (R120). -/
theorem throttle_of_nextPass (next : s.reviewRecord.decision = .nextPass) :
    v.review.throttle = if s.raisesThrottle s.dirtyCount = true then s.review.throttle + 1 else s.review.throttle := by
  rw [h.review]
  simp [State.reviewed, next]

/-- At the end of a STEADY review INSTEP alone is queued, where the INSTEP test holds (R120, R149). -/
theorem steady_queue (steady : s.reviewRecord.decision = .steady) (queue : s.feed.queue = []) (overlay : s.freeze.entries = [])
    (last : s.lastStep = .stale) (waiting : s.feed.instepWaiting = false) :
    ((v.actOnReview .steady).raise .review).settle.feed.queue = [.instep] := by
  obtain ⟨noDirty, noUnsent, noOpen⟩ := s.nothing_left_of_steady steady
  have entered := v.enterSteady_instep (by rw [h.blocks]; exact noDirty) (by rw [h.blocks]; exact noUnsent)
    (by rw [h.blocks]; exact noOpen) (by rw [h.blocks]; exact overlay) (by rw [h.blocks]; exact last)
    (by rw [h.feed]; exact waiting) (by rw [h.feed]; exact queue)
  have acted : ((v.actOnReview .steady).raise .review).feed = { v.feed with queue := [.instep] } := by
    rw [State.raise_feed, State.actOnReview_steady, State.handoverIfPending_feed, entered]
  have undirtied : ((v.actOnReview .steady).raise .review).signals.dirtied = false := by
    simp [State.actOnReview_steady, h.undirtied]
  rw [State.settle_feed_of_instep _ undirtied (by rw [acted, h.feed]; exact waiting)
    (State.lastStep_of_newest _ (q := []) (by rw [acted]; rfl) rfl), acted]

/-- A review that abandons ends the session with CLOSE(FAULTED) and CONVERGE_FAIL (R120, R157). -/
theorem abandoned (inFeed : s.inFeed = true) :
    feedEnded (some .faulted) s ((v.actOnReview .abandon).raise .review).settle
      ∧ faultAdded .convergeFail s ((v.actOnReview .abandon).raise .review).settle := by
  have kept : FeedKept s v := by
    rw [h.blocks]
    exact (FeedKept.fresh inFeed).review _ _ rfl
  refine ⟨(kept.recordFault .convergeFail).ended _ _ _, faultAdded_of_recordFault (u := v) (by rw [h.blocks]; rfl) ?_ ?_⟩
  · simp [State.actOnReview]
  · rw [State.settle_notices]
    exact State.endFeed_notice (some .faulted) (v.recordFault .convergeFail)

end Reviewed

/-- Settles O39. -/
theorem passEndRunsTheReview : Obligations.PassEndRunsTheReview := by
  intro s live feed state cursor buf0 buf1 queue window r
  refine ⟨s.reviewRecord_decision, ?_⟩
  obtain ⟨v, reviewed, run⟩ := exec_passEnd s live (s.passAtEnd_of feed state cursor buf0 buf1 queue window)
  obtain ⟨record, dPrev⟩ := v.actOnReview_record r.decision
  refine ⟨_, run, ?_⟩
  simp only [State.settle_review_record, State.settle_review_dPrev, State.settle_notices, State.settle_session_state,
    State.settle_session_handoverPending, State.settle_review_throttle, State.settle_walker, State.settle_map, State.settle_freeze_timer,
    State.settle_review_passNumber, State.settle_review_t, State.settle_review_c, State.raise_review, State.raise_session,
    State.raise_walker, State.raise_map, State.raise_freeze]
  refine ⟨by rw [record, reviewed.review]; rfl, by rw [dPrev, reviewed.review]; rfl, rfl, State.settle_writing _ rfl, fun steady => ?_,
    fun freezes => ?_, fun abandon => ?_, fun next => ?_⟩
  · have queued := reviewed.steady_queue steady queue
    rw [← steady] at queued
    refine ⟨?_, ?_, ?_, ?_, ?_, queued⟩ <;> simp [r, steady, State.actOnReview_steady, reviewed.session, reviewed.map]
  · have frozen : v.actOnReview r.decision = v.enterFreeze := by rcases freezes with h | h | h <;> rw [h] <;> rfl
    have notNext : r.decision ≠ .nextPass := by rcases freezes with h | h | h <;> simp [h]
    rw [frozen]
    simp [reviewed.map, reviewed.session, reviewed.throttle notNext]
  · have ended := reviewed.abandoned feed
    rwa [← abandon] at ended
  · have passes : v.actOnReview r.decision = (v.setState .catchup).startPass (satAdd 255 s.review.passNumber 1) := by
      have number : v.review.passNumber = s.review.passNumber := by rw [reviewed.review]; rfl
      rw [next, ← number]
      rfl
    rw [passes]
    refine ⟨by simp, rfl, rfl, rfl, rfl, by simp [reviewed.map], ?_⟩
    simp only [State.startPass_review_throttle, State.setState_review, reviewed.throttle_of_nextPass next, s.raisesThrottle_iff]

end Sys2Proof.Machine
end

section
/-! PROOFS. The two ends of a freeze (O40). -/

namespace Sys2Proof.Machine

open Sys2Proof

variable (s : State)

/-! ### The drain is complete (R132, R135) -/

/-- The freeze timer stops and REPLAY is entered (R132). -/
def State.replaying (s : State) : State := ({ s with freeze := { s.freeze with timer := none } } : State).setState .replay

@[simp] theorem State.replaying_session : s.replaying.session = { s.session with state := .replay } := by
  simp [State.replaying, State.setState_session]
@[simp] theorem State.replaying_freeze : s.replaying.freeze = { s.freeze with timer := none } := by simp [State.replaying]
@[simp] theorem State.replaying_map : s.replaying.map = s.map := by simp [State.replaying]
@[simp] theorem State.replaying_path : s.replaying.path = s.path := by simp [State.replaying]
@[simp] theorem State.replaying_walker : s.replaying.walker = s.walker := by simp [State.replaying]
@[simp] theorem State.replaying_faults : s.replaying.faults = s.faults := by simp [State.replaying]
@[simp] theorem State.replaying_review : s.replaying.review = s.review := by simp [State.replaying]

/-- With entries in the overlay REPLAY goes on; with none it ends in the same event (R132, R135). -/
theorem State.enterReplay_of_entries (overlay : s.freeze.entries ≠ []) : s.enterReplay = s.replaying :=
  State.endReplay_of_entries _ (by simpa using overlay)

theorem State.enterReplay_of_empty (overlay : s.freeze.entries = []) : s.enterReplay = s.replaying.enterSteady.handoverIfPending :=
  State.endReplay_of_replayed _ (by simp) (by simpa using overlay)

/-! ### The freeze is abandoned (R125, R137) -/

/-- The throttle as an abandonment leaves it (R125). -/
theorem State.raiseAtAbandon_eq : s.raiseAtAbandon = { s with
    review := { s.review with throttle :=
      if s.settings.throttleOn = true ∧ s.review.throttle < 3 then s.review.throttle + 1 else s.review.throttle }
    signals := s.raiseAtAbandon.signals } := by
  have raises : (s.settings.throttleOn && decide (s.review.throttle < 3)) = true
      ↔ s.settings.throttleOn = true ∧ s.review.throttle < 3 := by simp
  unfold State.raiseAtAbandon
  split
  · next h => rw [if_pos (raises.1 h)]; exact State.setThrottle_eq s _
  · next h => rw [if_neg (mt raises.2 h)]

/-- A freeze abandoned, up to its fault: the timer stopped, the flush with the session continuing, the throttle, and a new pass in CATCHUP
(R125, R137). -/
def State.abandoning (s : State) : State :=
  (({ s with freeze := { s.freeze with timer := none } } : State).flushContinuing.raiseAtAbandon.setState .catchup).startPass
    (satAdd 255 s.review.passNumber 1)

theorem State.abandoning_eq : s.abandoning = { s with
    map := s.abandoning.map
    walker := { s.walker with
      cursor := some 0, buf0 := keepBuffer s.freeze.entries s.walker.buf0, buf1 := keepBuffer s.freeze.entries s.walker.buf1 }
    freeze := { entries := s.freeze.entries.map fun e => { e with flushing := true }, timer := none }
    review := { s.review with
      passNumber := satAdd 255 s.review.passNumber 1, t := 0, c := 0, w := 0
      throttle := if s.settings.throttleOn = true ∧ s.review.throttle < 3 then s.review.throttle + 1 else s.review.throttle }
    session := { s.session with state := .catchup }
    notices := s.abandoning.notices, signals := s.abandoning.signals } := by
  generalize hu : s.abandoning = u
  rw [State.abandoning, State.setState_eq, State.raiseAtAbandon_eq, State.flushContinuing_eq] at hu
  rw [← hu]
  rfl

/-- Each segment's state after an abandonment: CLEAN, INFLIGHT and OPEN segments with an entry are DIRTY (R40). -/
theorem State.abandoning_get (n : Segment) : s.abandoning.map.get n =
    if (∃ e ∈ s.freeze.entries, segmentOf e.addr = n) ∧ (s.map.get n = .clean ∨ s.map.get n = .inflight ∨ s.map.get n = .opened)
    then .dirty else s.map.get n := by
  have flushed : s.abandoning.map = ({ s with freeze := { s.freeze with timer := none } } : State).flushContinuing.map := by
    rw [State.abandoning, State.startPass_map, State.setState_map, State.raiseAtAbandon_eq]
  rw [flushed, State.flushContinuing_get]

/-- The abandonment ends with FREEZE_OVERRUN (R137). -/
theorem State.abandonFreeze_eq : s.abandonFreeze = s.abandoning.recordFault .freezeOverrun := by
  have number (u : State) : u.flushContinuing.raiseAtAbandon.review.passNumber = u.review.passNumber := by
    rw [State.raiseAtAbandon_eq, State.flushContinuing_eq]
  unfold State.abandonFreeze State.abandoning
  simp only [number]

/-- The time a freeze still has passes outside any pass, so that the review's figures stand (R112). -/
theorem State.advance_review_of_not_running (n : Nat) (h : s.passRunning = false) : (s.advance n).review = s.review := by
  unfold State.advance
  split
  · rw [h]; rfl
  · split <;> rfl

/-! ### The two commands -/

/-- DRAIN_COMPLETE in FREEZE with no segment DIRTY or OPEN, queue and window empty (R132). -/
theorem exec_drainComplete (live : s.live = true) (feed : s.inFeed = true) (state : s.session.state = .freeze)
    (drained : s.drained = true) : exec .drainComplete s = .next s.fresh.enterReplay.settle := by
  have complete : s.fresh.freezeDrained = true := by
    have drained' : s.fresh.drained = true := drained
    simp [State.freezeDrained, feed, state, drained']
  have effect : (if s.fresh.freezeDrained then s.fresh.enterReplay else s.fresh) = s.fresh.enterReplay := if_pos complete
  exact exec_of_effect rfl live effect

/-- FREEZE_ABANDON in FREEZE with its timer running: the clock moves to the limit, and the freeze is abandoned there (R131, R137; log 1). -/
theorem exec_freezeAbandon (live : s.live = true) (feed : s.inFeed = true) (state : s.session.state = .freeze)
    (timer : s.freeze.timer ≠ none) : ∃ v, LossReady s v ∧ v.review = s.review ∧ v.settings = s.settings
      ∧ exec .freezeAbandon s = .next (v.abandoning.recordFault .freezeOverrun).settle := by
  obtain ⟨k, running⟩ := Option.ne_none_iff_exists'.1 timer
  have outside : s.fresh.passRunning = false := by simp [State.passRunning, state]
  refine ⟨s.fresh.advance (s.settings.freezeTicks - k), LossReady.advance s _, s.fresh.advance_review_of_not_running _ outside,
    by simp, exec_of_effect rfl live ?_⟩
  rw [← State.abandonFreeze_eq]
  simp [State.freezeExpired, feed, state, running]

/-- Settles O40. -/
theorem freezeEndsInReplayOrCatchup : Obligations.FreezeEndsInReplayOrCatchup := by
  intro s live feed state
  refine ⟨fun noDirty noOpen queue window => ?_, fun timer => ?_⟩
  · have drained : s.drained = true := by simp [State.drained, noDirty, noOpen, queue, window]
    refine ⟨_, exec_drainComplete s live feed state drained, ?_⟩
    simp only [State.settle_map, State.settle_faults, State.settle_review_passNumber, State.settle_session_state, State.settle_walker,
      State.settle_review_throttle, State.settle_session_handoverPending, State.settle_freeze_timer]
    refine ⟨by simp [State.enterReplay], by simp [State.enterReplay], by simp [State.enterReplay], fun entries noneHeld => ?_,
      fun overlay noHandover => ?_, fun overlay handover => ?_⟩
    · have frozen : s.fresh.replaying.settle.freeze = s.fresh.replaying.freeze := by
        have held := s.fresh.replaying.examineHeld_of_not_held (by simpa using noneHeld)
        simp [State.settle, held]
      rw [s.fresh.enterReplay_of_entries entries, frozen]
      simp
    · rw [s.fresh.enterReplay_of_empty overlay]
      simp [noHandover]
    · rw [s.fresh.enterReplay_of_empty overlay]
      simp [handover]
  · obtain ⟨v, ready, review, settings, run⟩ := exec_freezeAbandon s live feed state timer
    have blocks := v.abandoning_eq
    have cells := v.abandoning_get
    rw [ready.entries, ready.map] at cells
    rw [ready.entries, ready.walker, review, settings] at blocks
    generalize v.abandoning = w at run blocks cells
    have catchup : w.session.state = .catchup := by rw [blocks]
    have feed' : w.feed = s.feed := by rw [blocks]; exact ready.feed
    have overlay := (w.recordFault .freezeOverrun).settle_freeze (.inr (by simp [catchup]))
    have queue := (w.recordFault .freezeOverrun).settle_feed_queue (by simp [catchup]) (by simp [catchup])
    have added : faultAdded .freezeOverrun s (w.recordFault .freezeOverrun).settle :=
      faultAdded_of_recordFault (u := w) (by rw [blocks]; exact ready.faults) (by simp) (by simp)
    refine ⟨_, run, ?_⟩
    simp only [overlay, queue, State.settle_map, State.settle_review_passNumber, State.settle_session_state, State.settle_walker,
      State.settle_review_t, State.settle_review_c, State.settle_review_dPrev, State.settle_review_record, State.settle_review_throttle,
      State.settle_feed_window, State.recordFault_session, State.recordFault_freeze, State.recordFault_review, State.recordFault_walker,
      State.recordFault_map, State.recordFault_feed]
    refine ⟨catchup, added, ?_, ?_, ?_, ?_, ?_, ?_, ?_, ?_, cells, fun b => ?_, fun b => ?_, by rw [feed'], by rw [feed']⟩ <;>
      rw [blocks]
    · rfl
    · exact keepBuffer_eq_some _ _ b
    · exact keepBuffer_eq_some _ _ b

end Sys2Proof.Machine
end

section
/-! PROOFS. A write kept in the overlay (O14). -/

namespace Sys2Proof.Machine

open Sys2Proof

variable (f : Freeze) (w : WriteReq)

/-! ### Looking up an address (R126) -/

/-- What a lookup finds has the address looked up. -/
theorem Freeze.addr_of_find {f : Freeze} {a : Addr} {e : OverlayEntry} (found : f.find a = some e) : e.addr = a := by
  simpa using List.find?_some found

/-- Where the entries change in their places and no address moves, a lookup finds the change of what it found. -/
theorem Freeze.find_mapEntries (g : OverlayEntry → OverlayEntry) (same : ∀ e, (g e).addr = e.addr) (a : Addr) :
    ({ f with entries := f.entries.map g } : Freeze).find a = (f.find a).map g := by
  have key : (fun e : OverlayEntry => e.addr == a) ∘ g = fun e => e.addr == a := by
    funext e
    simp [same]
  simp only [Freeze.find, List.find?_map, key]

/-- An entry at the end of the list is found only where no earlier one is. -/
theorem Freeze.find_append (e : OverlayEntry) (a : Addr) :
    ({ f with entries := f.entries ++ [e] } : Freeze).find a = (f.find a).or (if e.addr = a then some e else none) := by
  simp [Freeze.find, List.find?_append, List.find?_singleton]

/-! ### The two ways of a capture (R127) -/

/-- What a captured write to an address with an entry makes of each entry of the list. -/
def OverlayEntry.mergedBy (w : WriteReq) (e : OverlayEntry) : OverlayEntry := if e.addr = w.addr then e.merge w else e

@[simp] theorem OverlayEntry.mergedBy_addr (e : OverlayEntry) : (e.mergedBy w).addr = e.addr := by
  unfold OverlayEntry.mergedBy
  split <;> rfl

theorem OverlayEntry.mergedBy_same {e : OverlayEntry} (h : e.addr = w.addr) : e.mergedBy w = e.merge w := if_pos h
theorem OverlayEntry.mergedBy_other {e : OverlayEntry} (h : e.addr ≠ w.addr) : e.mergedBy w = e := if_neg h

/-- A write to an address with an entry merges into it. -/
theorem Freeze.capture_of_found {e : OverlayEntry} (found : f.find w.addr = some e) :
    f.capture w = { f with entries := f.entries.map (OverlayEntry.mergedBy w) } := if_pos (by simp [found])

/-- A write to an address with no entry starts one at the end of the list. -/
theorem Freeze.capture_of_not_found (absent : f.find w.addr = none) :
    f.capture w = { f with entries := f.entries ++ [OverlayEntry.ofWrite w] } := if_neg (by simp [absent])

/-- A merge leaves every entry in its place. -/
theorem Freeze.capture_addrs_of_found {e : OverlayEntry} (found : f.find w.addr = some e) :
    (f.capture w).entries.map OverlayEntry.addr = f.entries.map OverlayEntry.addr := by
  simp [f.capture_of_found w found]

/-- What is found after a merge is what was found before it, the write merged into the entry of its address. -/
theorem Freeze.capture_find_of_found {e : OverlayEntry} (found : f.find w.addr = some e) (a : Addr) :
    (f.capture w).find a = (f.find a).map (OverlayEntry.mergedBy w) := by
  rw [f.capture_of_found w found]
  exact f.find_mapEntries _ (OverlayEntry.mergedBy_addr w) a

/-- A capture is not seen at another address. -/
theorem Freeze.capture_find_other {a : Addr} (other : a ≠ w.addr) : (f.capture w).find a = f.find a := by
  cases found : f.find w.addr with
  | none =>
    have elsewhere : (OverlayEntry.ofWrite w).addr ≠ a := other.symm
    rw [f.capture_of_not_found w found, f.find_append, if_neg elsewhere, Option.or_none]
  | some e =>
    rw [f.capture_find_of_found w found]
    cases there : f.find a with
    | none => rfl
    | some e' =>
      have apart : e'.addr ≠ w.addr := by rwa [Freeze.addr_of_find there]
      rw [Option.map_some, OverlayEntry.mergedBy_other w apart]

@[simp] theorem Freeze.capture_timer : (f.capture w).timer = f.timer := by
  unfold Freeze.capture
  split <;> rfl

/-! ### The statement -/

/-- Settles O14, by whether the address has an entry (R127). -/
theorem captureMergesOrAppends : Obligations.CaptureMergesOrAppends := by
  intro f w
  refine ⟨fun e found => ⟨?_, ?_⟩, fun absent => ?_, fun a other => f.capture_find_other w other, f.capture_timer w⟩
  · have addr := Freeze.addr_of_find found
    rw [f.capture_find_of_found w found, found, Option.map_some, OverlayEntry.mergedBy_same w addr, ← addr]
    rfl
  · simpa using congrArg List.length (f.capture_addrs_of_found w found)
  · rw [f.capture_of_not_found w absent]
    rfl

end Sys2Proof.Machine
end

section
/-! PROOFS. A handover request at a feed (O34). -/

namespace Sys2Proof.Machine

open Sys2Proof

variable (s : State)

/-! ### HANDOVER is entered (R155) -/

@[simp] theorem State.enterHandover_session :
    s.enterHandover.session = { s.session with state := .handover, handoverPending := false } := by
  simp [State.enterHandover, State.setState_session]

@[simp] theorem State.enterHandover_freeze : s.enterHandover.freeze = { s.freeze with timer := some 0 } := by simp [State.enterHandover]

theorem State.enterHandover_notices : s.enterHandover.notices = (s.setState .handover).notices := rfl

/-! ### A request by the state it meets (R154) -/

theorem State.requestHandover_of_steady (feed : s.inFeed = true) (steady : s.session.state = .steady) :
    s.requestHandover = s.enterHandover := by
  simp [State.requestHandover, feed, steady]

theorem State.requestHandover_of_handover (handover : s.session.state = .handover) : s.requestHandover = s := by
  simp [State.requestHandover, handover]

theorem State.requestHandover_of_other (feed : s.inFeed = true) (notSteady : s.session.state ≠ .steady)
    (notHandover : s.session.state ≠ .handover) :
    s.requestHandover = { s with session := { s.session with handoverPending := true } } := by
  unfold State.requestHandover
  rw [if_pos feed]
  split
  · next steady => exact absurd steady notSteady
  · next handover => exact absurd handover notHandover
  · rfl

/-- Outside a feed session nobody hears a handover request. -/
theorem State.requestHandover_of_no_feed (noFeed : s.inFeed = false) : s.requestHandover = s := by
  simp [State.requestHandover, noFeed]

/-- A request that enters HANDOVER leaves the STATE notice pending (R144). -/
theorem State.requestHandover_notice_of_steady (feed : s.inFeed = true) (steady : s.session.state = .steady) :
    s.requestHandover.notices.state.pending = true := by
  rw [s.requestHandover_of_steady feed steady, s.enterHandover_notices]
  exact s.setState_notice .handover (by simp [steady])

/-- A handover request raises no notice but STATE. -/
theorem State.requestHandover_notice (k : NoticeKind) (other : k ≠ .state) : s.requestHandover.notices.get k = s.notices.get k := by
  unfold State.requestHandover
  split
  · split
    · rw [s.enterHandover_notices]
      exact s.setState_notices .handover k other
    · rfl
    · rfl
  · rfl

/-! ### The two commands -/

/-- EJECT's level changes at a live part: the level and LINE (R145). -/
theorem State.setEject_of_live (live : s.live = true) (level : Bool) :
    s.setEject level = ({ s with chassis := { s.chassis with eject := level } } : State).raise .line := if_pos live

/-- EJECT rises at a live part outside a take session: LINE, then the session controller hears a handover request (R145, R154). -/
theorem State.ejectRise_of_no_take (live : s.live = true) (noTake : s.inTake = false) (low : s.chassis.eject = false) :
    s.ejectRise = (({ s with chassis := { s.chassis with eject := true } } : State).raise .line).requestHandover := by
  have power : s.chassis.power = true := (Bool.and_eq_true_iff.1 live).1
  have rises := s.setEject_of_live live true
  have noTake' : ¬ (s.setEject true).inTake = true := by rw [rises]; exact Bool.eq_false_iff.1 noTake
  have live' : (s.setEject true).live = true := by rw [rises]; exact live
  have reaches : s.ejectRise = (s.setEject true).ejected := by simp [State.ejectRise, power, low, live']
  rw [reaches, ← rises]
  exact if_neg noTake'

/-- `v` is `s` as a handover request finds it: only lines, directive unit and notices may have moved. -/
structure HandoverAsked (s v : State) : Prop where
  settings : v.settings = s.settings
  regions : v.regions = s.regions
  map : v.map = s.map
  walker : v.walker = s.walker
  freeze : v.freeze = s.freeze
  feed : v.feed = s.feed
  link : v.link = s.link
  take : v.take = s.take
  faults : v.faults = s.faults
  session : v.session = s.session
  out : v.out = Out.none

/-- The HANDOVER directive is taken in every state of a feed session (section 9.3). -/
theorem State.judge_handover (feed : s.inFeed = true) : s.judge DirKind.handover.code = .done := by
  rw [State.judge_code]
  simp [State.dirAllowed, State.dirValue, feed]

/-- The HANDOVER directive and an EJECT event make a handover request at a feed; whatever notice is raised behind it is not STATE (R154). -/
theorem exec_handoverRequest (c : Instr) (live : s.live = true) (feed : s.inFeed = true)
    (h : c = .handover s.directive.expected ∨ (c = .ejectEvent ∧ s.chassis.eject = false)) :
    ∃ v n g, exec c s = .next (State.settle { v.requestHandover with notices := n, signals := g }) ∧ HandoverAsked s v
      ∧ n.state = v.requestHandover.notices.state
      ∧ (c = .ejectEvent → v.chassis.eject = true ∧ n.line.pending = true ∧ v.directive = s.directive) := by
  rcases h with rfl | ⟨rfl, low⟩
  · let v : State := s.fresh.recordDirective s.directive.expected DirKind.handover.code .done
    have run := exec_command_expected s .handover live
    rw [s.judge_handover feed, State.finishDirective_eq] at run
    exact ⟨v, _, _, run, ⟨rfl, rfl, rfl, rfl, rfl, rfl, rfl, rfl, rfl, rfl, rfl⟩,
      v.requestHandover.finishDirective_notices .handover .state (by decide), nofun⟩
  · let v : State := ({ s.fresh with chassis := { s.chassis with eject := true } } : State).raise .line
    have rises : s.fresh.ejectRise = v.requestHandover := s.fresh.ejectRise_of_no_take live (s.inTake_of_inFeed feed) low
    exact ⟨v, _, _, congrArg (fun u : State => Host.Outcome.next u.settle) rises, ⟨rfl, rfl, rfl, rfl, rfl, rfl, rfl, rfl, rfl, rfl, rfl⟩,
      rfl, fun _ => ⟨rfl, congrArg Notice.pending (v.requestHandover_notice .line (by decide)), rfl⟩⟩

/-- Settles O34, by the state the request meets. -/
theorem handoverRequestActsByState : Obligations.HandoverRequestActsByState := by
  intro c s live feed command
  obtain ⟨v, n, g, run, asked, notice, eject⟩ := exec_handoverRequest s c live feed command
  have feed' : v.inFeed = true := by rw [State.inFeed, asked.session]; exact feed
  refine ⟨_, run, ?_⟩
  simp only [State.settle_session_state, State.settle_session_handoverPending, State.settle_session_role, State.settle_freeze_timer,
    State.settle_notices, State.settle_chassis, State.settle_directive, State.settle_map, State.settle_walker, State.settle_link,
    State.settle_take, State.settle_faults, State.settle_regions, State.settle_settings, State.settle_feed_window, State.settle_out]
  refine ⟨fun steady => ?_, fun handover => ?_, fun notSteady notHandover => ?_, fun isEject => ?_, ?_⟩
  · rw [← asked.session] at steady
    rw [notice]
    refine ⟨?_, ?_, ?_, v.requestHandover_notice_of_steady feed' steady⟩ <;> simp [v.requestHandover_of_steady feed' steady]
  · rw [← asked.session] at handover ⊢
    rw [v.requestHandover_of_handover handover, asked.freeze]
    exact ⟨handover, rfl, rfl⟩
  · rw [← asked.session] at notSteady notHandover ⊢
    rw [v.requestHandover_of_other feed' notSteady notHandover, asked.freeze]
    exact ⟨rfl, rfl, rfl⟩
  · simpa using eject isEject
  · simp [asked.session, asked.map, asked.walker, asked.link, asked.take, asked.faults, asked.regions, asked.settings, asked.feed, asked.out]

end Sys2Proof.Machine
end

section
/-! PROOFS. The chassis lines (O54). -/

namespace Sys2Proof.Machine

open Sys2Proof

variable {s : State}

/-! ### The end of a command that moves a line -/

/-- The INSTEP stage has nothing to do where the test fails and a waiting offer finds nothing DIRTY or OPEN (R149). -/
theorem State.instepStage_of_no_test (test : s.instepTest = false)
    (waiting : s.feed.instepWaiting = true → s.dirtyCount = 0 ∧ s.openCount = 0) : s.instepStage = s := by
  have kept : ¬ (s.feed.instepWaiting && (s.dirtyCount != 0 || s.openCount != 0)) = true := by
    simpa using waiting
  rw [State.instepStage, if_neg kept, State.tryInstep, if_neg (by simp [test])]

/-- A command that lets no held write be examined, dirties no segment and offers no INSTEP ends with the wait runs and the report alone. -/
theorem State.settle_of_no_offer (reexamine : s.signals.reexamine = false) (dirtied : s.signals.dirtied = false)
    (test : s.instepTest = false) (waiting : s.feed.instepWaiting = true → s.dirtyCount = 0 ∧ s.openCount = 0) :
    s.settle = s.clearRuns.serveReport.clearSignals := by
  have held : s.examineHeld = s := by simp [State.examineHeld, reexamine]
  have stale : s.staleStage = s := by simp [State.staleStage, dirtied]
  rw [State.settle, held, stale, State.instepStage_of_no_test test waiting]

/-- Whether a state is settled looks at the chassis block only through who waits. -/
theorem State.settled.chassis (settled : s.settled) {c : Chassis} (waits : ∀ r, ({ s with chassis := c } : State).waits r = s.waits r) :
    State.settled { s with chassis := c } := by
  obtain ⟨signals, test, waiting, runs⟩ := settled
  exact ⟨signals, test, waiting, fun r idle => runs r (by rwa [waits r] at idle)⟩

/-- A command that moves only the chassis block, and makes nobody wait or cease to, ends with just that. -/
theorem State.settled.settle_chassis_update (settled : s.settled) {c : Chassis}
    (waits : ∀ r, ({ s with chassis := c } : State).waits r = s.waits r) :
    State.settle { s.fresh with chassis := c } = { s with chassis := c, out := .none } := by
  have moved := settled.chassis waits
  have quiet := State.settled_update moved s.link s.take s.faults s.review s.directive s.notices .none rfl rfl
  refine (State.settle_of_settled _ quiet).trans ?_
  rw [← settled.1]

/-- No requester of the part waits while RESET_N is low (R18). -/
theorem State.waits_of_not_live (low : s.live = false) (r : Requester) : s.waits r = false := by
  simp [State.waits, State.isReady, State.offer, low]

/-- While RESET_N is low a command that moves only the lines ends with just that (R189). -/
theorem State.settled.settle_lines_in_reset (settled : s.settled) (reset : s.chassis.resetN = false) {c : Chassis}
    (reset' : c.resetN = false) : State.settle { s.fresh with chassis := c } = { s with chassis := c, out := .none } :=
  settled.settle_chassis_update fun r => by
    rw [State.waits_of_not_live (by simp [State.live, reset']), State.waits_of_not_live (by simp [State.live, reset])]

/-! ### LINE is raised (R145) -/

/-- `t` is `s` with the chassis block `c`, LINE raised and its report started, and the blocks of the session as they were. -/
structure LineRaised (s : State) (c : Chassis) (t : State) : Prop where
  chassis : t.chassis = c
  notices : t.notices = s.notices.set .line (raised s.report.generation)
  writing : t.report.writing = true
  rest : t.session = s.session ∧ t.link = s.link ∧ t.feed = s.feed ∧ t.take = s.take ∧ t.map = s.map ∧ t.walker = s.walker
    ∧ t.freeze = s.freeze ∧ t.faults = s.faults ∧ t.regions = s.regions ∧ t.settings = s.settings ∧ t.out = Out.none

/-- What a command that moves the chassis block and raises LINE leaves at its end (R145). -/
theorem LineRaised.of_settled (settled : s.settled) (c : Chassis) :
    LineRaised s c (({ s.fresh with chassis := c } : State).raise .line).settle := by
  obtain ⟨-, test, waiting, -⟩ := settled
  have ends := State.settle_of_no_offer (s := ({ s.fresh with chassis := c } : State).raise .line) rfl rfl test waiting
  refine ⟨by simp, ?_, State.settle_writing _ rfl, ?_⟩
  · rw [State.settle_notices]; rfl
  · rw [ends]
    simp

/-- EJECT falls at a live part (R145). -/
theorem exec_ejectFall (live : s.live = true) (high : s.chassis.eject = true) :
    exec .ejectFall s = .next (({ s.fresh with chassis := { s.chassis with eject := false } } : State).raise .line).settle := by
  have power : s.chassis.power = true := (Bool.and_eq_true_iff.1 live).1
  have falls : (s.fresh.chassis.power && s.fresh.chassis.eject) = true := by simp [power, high]
  exact congrArg (fun u : State => Host.Outcome.next u.settle) ((if_pos falls).trans (s.fresh.setEject_of_live live false))

/-- EJECT rises at a live part that is in no session (R145, R154). -/
theorem exec_ejectEvent_of_no_session (live : s.live = true) (low : s.chassis.eject = false) (noTake : s.inTake = false)
    (noFeed : s.inFeed = false) :
    exec .ejectEvent s = .next (({ s.fresh with chassis := { s.chassis with eject := true } } : State).raise .line).settle := by
  have rises := (s.fresh.ejectRise_of_no_take live noTake low).trans (State.requestHandover_of_no_feed _ noFeed)
  exact congrArg (fun u : State => Host.Outcome.next u.settle) rises

/-- TAKE_EN rises at a live part (R145). -/
theorem exec_takeEnRise (live : s.live = true) (low : s.chassis.takeEn = false) :
    exec .takeEnRise s = .next (({ s.fresh with chassis := { s.chassis with takeEn := true } } : State).raise .line).settle := by
  have power : s.chassis.power = true := (Bool.and_eq_true_iff.1 live).1
  have rises : (s.fresh.chassis.power && !s.fresh.chassis.takeEn) = true := by simp [power, low]
  have live' : (s.fresh.setTakeEn true).live = true := live
  exact congrArg (fun u : State => Host.Outcome.next u.settle) ((if_pos rises).trans (if_pos live'))

/-- TAKE_EN falls at a live part outside a take session (R145, R163). -/
theorem exec_takeEnFall_of_no_take (live : s.live = true) (high : s.chassis.takeEn = true) (noTake : s.inTake = false) :
    exec .takeEnFall s = .next (({ s.fresh with chassis := { s.chassis with takeEn := false } } : State).raise .line).settle := by
  have power : s.chassis.power = true := (Bool.and_eq_true_iff.1 live).1
  have falls : (s.fresh.chassis.power && s.fresh.chassis.takeEn) = true := by simp [power, high]
  have live' : (s.fresh.setTakeEn false).live = true := live
  have noTake' : ¬ ((s.fresh.setTakeEn false).raise .line).inTake = true := Bool.eq_false_iff.1 noTake
  exact congrArg (fun u : State => Host.Outcome.next u.settle) ((if_pos falls).trans ((if_pos live').trans (if_neg noTake')))

/-! ### PEER_PRESENT (R145) -/

/-- A change of the raw level at a powered part: the filter starts anew. -/
theorem exec_peerPresentChange {level : Bool} (power : s.chassis.power = true) (change : level ≠ s.chassis.peerRaw) :
    exec (.peerPresentChange level) s
      = .next (State.settle { s.fresh with chassis := { s.chassis with peerRaw := level, peerHeld := 0 } }) := by
  have changes : (s.fresh.chassis.power && level != s.fresh.chassis.peerRaw) = true := by simp [power, change]
  exact congrArg (fun u : State => Host.Outcome.next u.settle) (if_pos changes)

/-- The filtered PEER_PRESENT level is the raw one, its time starts anew, and LINE is raised. -/
def State.takePeerLevel (s : State) : State :=
  { s.raise .line with chassis := { s.chassis with peerFiltered := s.chassis.peerRaw, peerHeld := 0 } }

/-- A filtered level that rises, or falls while the link is not UP, is only taken (R68, R145). -/
theorem State.filterPeer_of_no_loss (noLoss : s.chassis.peerRaw = true ∨ s.link.state ≠ .up) : s.filterPeer = s.takePeerLevel := by
  have taken : s.filterPeer = if !s.chassis.peerRaw then s.takePeerLevel.loseLink else s.takePeerLevel := rfl
  rw [taken]
  split
  · next fell =>
    have notUp : ¬ s.takePeerLevel.link.state = .up := noLoss.resolve_left (by simpa using fell)
    exact if_neg notUp
  · rfl

/-- PEER_PRESENT_FILTERED at a live part whose levels differ, with no link to lose: the clock stands at the end of the filter time, and the raw
level is taken (R145; log 1). -/
theorem exec_peerPresentFiltered (live : s.live = true) (differ : s.chassis.peerRaw ≠ s.chassis.peerFiltered)
    (noLoss : s.chassis.peerRaw = true ∨ s.link.state ≠ .up) :
    exec .peerPresentFiltered s = .next (s.fresh.advance (s.settings.filterTicks - s.chassis.peerHeld)).takePeerLevel.settle := by
  generalize hn : s.settings.filterTicks - s.chassis.peerHeld = n
  have heldOut : s.fresh.peerHeldOut = (s.fresh.advance n).filterPeer := by simp [State.peerHeldOut, differ, hn]
  have noLoss' : (s.fresh.advance n).chassis.peerRaw = true ∨ (s.fresh.advance n).link.state ≠ .up := by
    rw [(State.advance_peer _ n).1, State.advance_link_state]
    exact noLoss
  exact exec_of_effect rfl live (heldOut.trans (State.filterPeer_of_no_loss noLoss'))

/-! ### While RESET_N is low (R189; log 16) -/

theorem State.not_live_of_reset (reset : s.chassis.resetN = false) : s.live = false := by simp [State.live, reset]

/-- EJECT's level changes in reset: the level alone. -/
theorem State.setEject_in_reset (reset : s.chassis.resetN = false) (level : Bool) :
    s.setEject level = { s with chassis := { s.chassis with eject := level } } :=
  if_neg (Bool.eq_false_iff.1 (State.not_live_of_reset (s := { s with chassis := { s.chassis with eject := level } }) reset))

/-- EJECT rises in reset: nothing is raised or delivered. -/
theorem State.ejectRise_in_reset (power : s.chassis.power = true) (reset : s.chassis.resetN = false) (low : s.chassis.eject = false) :
    s.ejectRise = { s with chassis := { s.chassis with eject := true } } := by
  have rises : (s.chassis.power && !s.chassis.eject) = true := by simp [power, low]
  have level := State.setEject_in_reset reset true
  have notLive : ¬ (s.setEject true).live = true := by
    rw [level]
    exact Bool.eq_false_iff.1 (State.not_live_of_reset reset)
  exact (if_pos rises).trans ((if_neg notLive).trans level)

/-- EJECT falls in reset. -/
theorem exec_ejectFall_in_reset (power : s.chassis.power = true) (reset : s.chassis.resetN = false) (high : s.chassis.eject = true) :
    exec .ejectFall s = .next (State.settle { s.fresh with chassis := { s.chassis with eject := false } }) := by
  have falls : (s.fresh.chassis.power && s.fresh.chassis.eject) = true := by simp [power, high]
  exact congrArg (fun u : State => Host.Outcome.next u.settle)
    ((if_pos falls).trans (State.setEject_in_reset (s := s.fresh) reset false))

/-- TAKE_EN rises in reset. -/
theorem State.takeEnLift_in_reset (power : s.chassis.power = true) (reset : s.chassis.resetN = false) (low : s.chassis.takeEn = false) :
    s.takeEnLift = { s with chassis := { s.chassis with takeEn := true } } := by
  have rises : (s.chassis.power && !s.chassis.takeEn) = true := by simp [power, low]
  have notLive : (s.setTakeEn true).live = false := State.not_live_of_reset reset
  exact (if_pos rises).trans (if_neg (Bool.eq_false_iff.1 notLive))

/-- TAKE_EN falls in reset: a LINE notice is owed (log 16). -/
theorem State.takeEnDrop_in_reset (power : s.chassis.power = true) (reset : s.chassis.resetN = false) (high : s.chassis.takeEn = true) :
    s.takeEnDrop = { s with chassis := { s.chassis with takeEn := false, lineDeferred := true } } := by
  have falls : (s.chassis.power && s.chassis.takeEn) = true := by simp [power, high]
  have notLive : (s.setTakeEn false).live = false := State.not_live_of_reset reset
  exact (if_pos falls).trans (if_neg (Bool.eq_false_iff.1 notLive))

/-- A live command in reset does nothing. -/
theorem State.liveEvent_in_reset (reset : s.chassis.resetN = false) (f : State → State) : s.liveEvent f = s.fresh.settle := by
  have notLive : s.fresh.live = false := State.not_live_of_reset reset
  simp [State.liveEvent, State.event, notLive]

/-! ### The statement -/

/-- Settles O54, line by line, at a live part and in reset. -/
theorem linesAreMonitored : Obligations.LinesAreMonitored := by
  refine ⟨fun s live => ⟨fun level change settled => ?_, fun differ noLoss => ?_, fun c line settled => ?_⟩,
    fun s level power reset settled => ?_⟩
  · have power : s.chassis.power = true := (Bool.and_eq_true_iff.1 live).1
    rw [exec_peerPresentChange power change, settled.settle_chassis_update fun r => by cases r <;> rfl]
  · refine ⟨_, exec_peerPresentFiltered live differ noLoss, ?_⟩
    rw [s.fresh.advance_of_live _ live]
    simp only [State.settle_chassis, State.settle_notices, State.settle_link, State.settle_session_state, State.settle_map,
      State.settle_take]
    exact ⟨rfl, rfl, rfl, rfl, rfl, rfl, rfl, rfl⟩
  · rcases line with ⟨rfl, high⟩ | ⟨rfl, low⟩ | ⟨rfl, high, noTake⟩ | ⟨rfl, low, noTake, noFeed⟩
    · have raised := LineRaised.of_settled settled { s.chassis with eject := false }
      exact ⟨_, exec_ejectFall live high, fun _ => raised.chassis, nofun, nofun, nofun, raised.notices, raised.writing, raised.rest⟩
    · have raised := LineRaised.of_settled settled { s.chassis with takeEn := true }
      exact ⟨_, exec_takeEnRise live low, nofun, nofun, fun _ => raised.chassis, nofun, raised.notices, raised.writing, raised.rest⟩
    · have raised := LineRaised.of_settled settled { s.chassis with takeEn := false }
      exact ⟨_, exec_takeEnFall_of_no_take live high noTake, nofun, nofun, nofun, fun _ => raised.chassis, raised.notices,
        raised.writing, raised.rest⟩
    · have raised := LineRaised.of_settled settled { s.chassis with eject := true }
      exact ⟨_, exec_ejectEvent_of_no_session live low noTake noFeed, nofun, fun _ => raised.chassis, nofun, nofun, raised.notices,
        raised.writing, raised.rest⟩
  · intro lines
    have ends {c : Chassis} {u : State} (effect : u = { s.fresh with chassis := c }) (reset' : c.resetN = false) :
        (.next u.settle : Host.Outcome State Fault Refusal) = lines c :=
      congrArg Host.Outcome.next (effect ▸ settled.settle_lines_in_reset reset reset')
    refine ⟨fun change => (exec_peerPresentChange power change).trans (ends rfl reset), ?_, fun low => ?_, fun high => ?_, fun low => ?_,
      fun high => ?_⟩
    · exact (congrArg Host.Outcome.next (s.liveEvent_in_reset reset _)).trans (ends rfl reset)
    · exact ends (State.ejectRise_in_reset (s := s.fresh) power reset low) reset
    · exact (exec_ejectFall_in_reset power reset high).trans (ends rfl reset)
    · exact ends (State.takeEnLift_in_reset (s := s.fresh) power reset low) reset
    · exact ends (State.takeEnDrop_in_reset (s := s.fresh) power reset high) reset

end Sys2Proof.Machine
end

section
/-! SUPPORT. Words packed from fields, read field by field (11.3), and the words of a report: taken from a state they show it (R181, R187). -/

namespace Sys2Proof.Machine

open Sys2Proof

/-! ### Words packed from fields -/

/-- A word that holds one field: its byte offset, its width in bytes, its value. -/
def fieldWord (o w v : Nat) : Word := BitVec.ofNat 64 (v % 2 ^ (8 * w)) <<< (8 * o)

theorem packWord_nil : packWord [] = 0 := rfl

theorem packWord_cons (o w v : Nat) (fs : List (Nat × Nat × Nat)) : packWord ((o, w, v) :: fs) = fieldWord o w v ||| packWord fs := by
  have zero_or (x : Word) : 0 ||| x = x := BitVec.zero_or
  have behind (gs : List (Nat × Nat × Nat)) (acc : Word) :
      gs.foldl (fun acc f => acc ||| (BitVec.ofNat 64 (f.2.2 % 2 ^ (8 * f.2.1)) <<< (8 * f.1))) acc = acc ||| packWord gs := by
    induction gs generalizing acc with
    | nil => exact BitVec.or_zero.symm
    | cons g gs ih =>
      rw [packWord, List.foldl_cons, List.foldl_cons, ih, ih, zero_or, BitVec.or_assoc]
  rw [packWord, List.foldl_cons, behind, zero_or, fieldWord]

theorem wordField_or (x y : Word) (start len : Nat) :
    wordField (x ||| y) start len = wordField x start len ||| wordField y start len := by
  simp [wordField, BitVec.extractLsb'_or]

/-- A bit of a word's field is the bit of the word at its place. -/
theorem testBit_wordField (x : Word) (start len i : Nat) :
    (wordField x start len).testBit i = (decide (i < 8 * len) && x.getLsbD (8 * start + i)) := by
  rw [wordField, BitVec.testBit_toNat, BitVec.getLsbD_extractLsb']

theorem getLsbD_fieldWord (o w v i : Nat) :
    (fieldWord o w v).getLsbD i = (decide (i < 64 ∧ 8 * o ≤ i ∧ i < 8 * (o + w)) && v.testBit (i - 8 * o)) := by
  rw [fieldWord, BitVec.getLsbD_shiftLeft, BitVec.getLsbD_ofNat, Nat.testBit_mod_two_pow, Bool.eq_iff_iff]
  simp only [Bool.and_eq_true, Bool.not_eq_true', decide_eq_true_eq, decide_eq_false_iff_not]
  exact ⟨fun ⟨⟨inWord, notBelow⟩, _, inField, bit⟩ => ⟨by omega, bit⟩,
    fun ⟨place, bit⟩ => ⟨⟨place.1, by omega⟩, by omega, by omega, bit⟩⟩

theorem wordField_fieldWord_self {o w : Nat} (v : Nat) (inside : o + w ≤ 8) : wordField (fieldWord o w v) o w = v % 2 ^ (8 * w) := by
  refine Nat.eq_of_testBit_eq fun i => ?_
  rw [testBit_wordField, getLsbD_fieldWord, Nat.testBit_mod_two_pow, Nat.add_sub_cancel_left, ← Bool.and_assoc]
  congr 1
  rw [← Bool.decide_and, decide_eq_decide]
  omega

theorem wordField_fieldWord_apart {o w start len : Nat} (v : Nat) (apart : start + len ≤ o ∨ o + w ≤ start) :
    wordField (fieldWord o w v) start len = 0 := by
  refine Nat.eq_of_testBit_eq fun i => ?_
  rw [testBit_wordField, getLsbD_fieldWord, ← Bool.and_assoc, ← Bool.decide_and, Nat.zero_testBit]
  have outside : ¬ (i < 8 * len ∧ 8 * start + i < 64 ∧ 8 * o ≤ 8 * start + i ∧ 8 * start + i < 8 * (o + w)) := by omega
  simp only [outside, decide_false, Bool.false_and]

@[simp] theorem wordField_packWord_nil (start len : Nat) : wordField (packWord []) start len = 0 := by
  simp [packWord_nil, wordField]

/-- A field is not seen in the bytes beside it. -/
@[simp] theorem wordField_packWord_apart {o w v start len : Nat} {fs : List (Nat × Nat × Nat)}
    (apart : start + len ≤ o ∨ o + w ≤ start) :
    wordField (packWord ((o, w, v) :: fs)) start len = wordField (packWord fs) start len := by
  rw [packWord_cons, wordField_or, wordField_fieldWord_apart v apart, Nat.zero_or]

/-- A field whose bytes no later field shares is read back, modulo its width. -/
@[simp] theorem wordField_packWord_self {o w v : Nat} {fs : List (Nat × Nat × Nat)} (inside : o + w ≤ 8)
    (alone : wordField (packWord fs) o w = 0) : wordField (packWord ((o, w, v) :: fs)) o w = v % 2 ^ (8 * w) := by
  rw [packWord_cons, wordField_or, wordField_fieldWord_self v inside, alone, Nat.or_zero]

/-! ### The words of a report -/

variable (s : State)

/-- The pending flags as a sum of notice bits (R185). -/
theorem Notices.pendingSet_eq (ns : Notices) : ns.pendingSet =
    flagBit ns.directive.pending 0 + flagBit ns.state.pending 1 + flagBit ns.review.pending 2 + flagBit ns.fault.pending 3
      + flagBit ns.line.pending 4 + flagBit ns.step.pending 5 := by
  have step (acc : Nat) (k : NoticeKind) :
      (if (ns.get k).pending then acc + 2 ^ k.bit else acc) = acc + flagBit (ns.get k).pending k.bit := by
    unfold flagBit; split <;> rfl
  simp only [Notices.pendingSet, step, NoticeKind.all, List.foldl_cons, List.foldl_nil, Nat.zero_add]
  rfl

/-- Behind its first 32 words a report has the table's entries, their fill words, 191 words of 0, and the generation again (R187). -/
theorem State.reportWords_blocks : ∃ head : List Word, head.length = 32 ∧ s.reportWords =
    head ++ s.regions.toList.map Region.word ++ s.regions.toList.map Region.fill ++ List.replicate 191 0
      ++ [packWord [(0, 4, s.report.generation)]] := ⟨_, rfl, rfl⟩

theorem State.length_reportWords : s.reportWords.length = 256 := by
  obtain ⟨head, len, blocks⟩ := s.reportWords_blocks
  rw [blocks]
  simp only [List.length_append, List.length_map, List.length_replicate, Vector.length_toList, len, List.length_singleton]

/-- Words 32 to 47 hold the entries of the region table. -/
theorem State.reportWords_region (i : Fin 16) : s.reportWords[32 + i.val]? = some (Region.word s.regions[i]) := by
  obtain ⟨head, len, blocks⟩ := s.reportWords_blocks
  simp [blocks, List.getElem?_append, len, -List.reduceReplicate]

/-- Words 48 to 63 hold the fill words of the region table. -/
theorem State.reportWords_fill (i : Fin 16) : s.reportWords[48 + i.val]? = some s.regions[i].fill := by
  obtain ⟨head, len, blocks⟩ := s.reportWords_blocks
  have notHead : ¬ 48 + i.val < 32 := by omega
  have notEntry : ¬ 48 + i.val - 32 < 16 := by omega
  have place : 48 + i.val - 32 - 16 = i.val := by omega
  simp [blocks, List.getElem?_append, len, notHead, notEntry, place, -List.reduceReplicate]

/-- Words 64 to 254 are 0. -/
theorem State.reportWords_behind {i : Nat} (lo : 64 ≤ i) (hi : i ≤ 254) : s.reportWords[i]? = some 0 := by
  obtain ⟨head, len, blocks⟩ := s.reportWords_blocks
  have notHead : ¬ i < 32 := by omega
  have notEntry : ¬ i - 32 < 16 := by omega
  have notFill : ¬ i - 32 - 16 < 16 := by omega
  have zero : i - 32 - 16 - 16 < 191 := by omega
  simp [blocks, List.getElem?_append, len, notHead, notEntry, notFill, zero, -List.reduceReplicate]

/-- Word 255 is word 0 again. -/
theorem State.reportWords_last : s.reportWords[255]? = some (packWord [(0, 4, s.report.generation)]) := by
  obtain ⟨head, len, blocks⟩ := s.reportWords_blocks
  simp [blocks, len, -List.reduceReplicate]

/-- Words 16 to 23 hold two places of the fault list each. -/
theorem State.reportWords_faults {i : Nat} (hi : i < 8) : s.reportWords[16 + i]? =
    some (packWord [(0, 4, faultPlace s.faults.list (2 * i)), (4, 4, faultPlace s.faults.list (2 * i + 1))]) := by
  interval_cases i <;> rfl

theorem State.word2_of_none (h : s.session.greeted = none) : s.word2 = packWord [(6, 1, s.session.sizeClass.toNat)] := by
  simp [State.word2, h]

theorem State.word2_of_greeted {g : Greeted} (h : s.session.greeted = some g) :
    s.word2 = packWord [(0, 2, g.session.toNat), (2, 1, greetKindCode g.kind), (3, 1, g.size.toNat), (4, 1, verdictCode g.verdict),
      (5, 1, reasonCode g.reason), (6, 1, s.session.sizeClass.toNat)] := by
  simp [State.word2, h]

/-- The size class stands in word 2 whether a GREET is held or not. -/
theorem State.word2_size : wordField s.word2 6 1 = s.session.sizeClass.toNat % 2 ^ 8 ∧ wordField s.word2 7 1 = 0 := by
  cases h : s.session.greeted with
  | none => simp [s.word2_of_none h]
  | some g => simp [s.word2_of_greeted h]

theorem State.word15_of_none (h : s.take.interrupted = none) : s.word15 = packWord [(0, 2, s.faults.summary.toNat)] := by
  simp [State.word15, h]

theorem State.word15_of_interrupted {e : WorkKind × Segment} (h : s.take.interrupted = some e) :
    s.word15 = packWord [(0, 2, s.faults.summary.toNat), (2, 1, e.1.code), (4, 4, e.2)] := by
  simp [State.word15, h]

/-- The fault summary stands in word 15 whether work was interrupted or not. -/
theorem State.word15_summary : wordField s.word15 0 2 = s.faults.summary.toNat % 2 ^ 16 ∧ wordField s.word15 3 1 = 0 := by
  cases h : s.take.interrupted with
  | none => simp [s.word15_of_none h]
  | some e => simp [s.word15_of_interrupted h]

/-- A report's words, taken from a state, show it: each word is found at its place, and each of its fields at its bytes (R181, R187). -/
theorem reportShows_reportWords : reportShows s.reportWords s := by
  unfold reportShows
  intro holds bit n r fault
  have flags : bit = flagBit := rfl
  have places (i : Nat) : fault i = faultPlace s.faults.list i := by
    unfold fault faultPlace
    cases s.faults.list[i]? <;> rfl
  refine ⟨s.length_reportWords, ?_⟩
  simp (contextual := true) only [flags, places, holds, n, r, or_imp, and_imp, forall_and, forall_eq, s.reportWords_last,
    s.reportWords_region, s.reportWords_fill, s.reportWords_faults, s.reportWords_behind, Option.getD_some]
  simp (contextual := true) [State.reportWords, State.word1, s.word2_size, s.word2_of_none, s.word2_of_greeted, State.word6,
    State.word11, s.word15_of_none, s.word15_of_interrupted, s.word15_summary, State.rewinds, Feed.credits, State.word24,
    Notices.pendingSet_eq, Settings.words, Region.word, -List.reduceReplicate]

end Sys2Proof.Machine
end

section
/-! PROOFS. Slot words that are no directive (O28), and NOTICES, ACKNOWLEDGE and REFRESH with the report they start (O37). -/

namespace Sys2Proof.Machine

open Sys2Proof

variable {s : State}

/-! ### Notices (R175, R176) -/

theorem NoticeKind.mem_all (k : NoticeKind) : k ∈ NoticeKind.all := by cases k <;> decide

/-- NOTIFY is asserted at a live part while a notice is both pending and enabled (R175, R189). -/
theorem State.notify_iff (s : State) : s.notify = true ↔
    s.live = true ∧ ∃ k : NoticeKind, (s.notices.get k).pending = true ∧ s.notices.enable.getLsbD k.bit = true := by
  simp [State.notify, NoticeKind.mem_all]

theorem Notices.get_set (ns : Notices) (k j : NoticeKind) (n : Notice) : (ns.set k n).get j = if j = k then n else ns.get j := by
  cases k <;> cases j <;> rfl

theorem Notices.set_enable (ns : Notices) (k : NoticeKind) (n : Notice) : (ns.set k n).enable = ns.enable := by cases k <;> rfl

/-- What ACKNOWLEDGE makes of the notices when it comes to one kind. -/
def Notices.ackKind (named : BitVec 6) (g : Nat) (ns : Notices) (k : NoticeKind) : Notices :=
  if named.getLsbD k.bit then ns.set k ((ns.get k).acknowledge g) else ns

theorem Notices.ackKind_get (named : BitVec 6) (g : Nat) (ns : Notices) (k j : NoticeKind) : (ns.ackKind named g k).get j =
    if j = k ∧ named.getLsbD j.bit = true then (ns.get j).acknowledge g else ns.get j := by
  unfold Notices.ackKind
  by_cases same : j = k
  · subst same
    split <;> simp_all [Notices.get_set]
  · split <;> simp [Notices.get_set, same]

/-- ACKNOWLEDGE judges each named notice by itself. -/
theorem Notices.acknowledge_get (ns : Notices) (named : BitVec 6) (g : Nat) (k : NoticeKind) : (ns.acknowledge named g).get k =
    if named.getLsbD k.bit = true then (ns.get k).acknowledge g else ns.get k := by
  have kinds (l : List NoticeKind) (once : l.Nodup) (ns : Notices) : (l.foldl (Notices.ackKind named g) ns).get k =
      if k ∈ l ∧ named.getLsbD k.bit = true then (ns.get k).acknowledge g else ns.get k := by
    induction l generalizing ns with
    | nil => simp
    | cons j l ih =>
      obtain ⟨notAgain, once'⟩ := List.nodup_cons.1 once
      rw [List.foldl_cons, ih once', Notices.ackKind_get]
      by_cases same : k = j
      · subst same; simp [notAgain]
      · simp [same]
  exact (kinds NoticeKind.all (by decide) ns).trans (by simp [NoticeKind.mem_all])

theorem Notices.acknowledge_enable (ns : Notices) (named : BitVec 6) (g : Nat) : (ns.acknowledge named g).enable = ns.enable := by
  have kinds (l : List NoticeKind) (ns : Notices) : (l.foldl (Notices.ackKind named g) ns).enable = ns.enable := by
    induction l generalizing ns with
    | nil => rfl
    | cons j l ih =>
      rw [List.foldl_cons, ih, Notices.ackKind]
      split
      · exact ns.set_enable _ _
      · rfl
  exact kinds NoticeKind.all ns

/-- The cyclic order of generations as a difference (R176, R180). -/
theorem notLater_iff {m g : Nat} (mark : 1 ≤ m) (top : m ≤ 4294967295) (given : g ≠ 0) :
    notLater m g = true ↔ ((g : Int) - m) % 4294967295 ≤ 2147483647 := by
  rw [notLater, decide_eq_true_iff, Config.top32]
  omega

/-- ACKNOWLEDGE on a notice whose raise mark is a generation (R176). -/
theorem Notice.acknowledge_eq {n : Notice} (g : Nat) (mark : 1 ≤ n.mark) (top : n.mark ≤ 4294967295) : n.acknowledge g =
    if g = 0 ∨ ((g : Int) - n.mark) % 4294967295 ≤ 2147483647 then { n with pending := false } else n := by
  unfold Notice.acknowledge
  by_cases given : g = 0
  · simp [given]
  · simp only [given, false_or, notLater_iff mark top given]

/-! ### A command that ends with only a report asked for -/

/-- A command that moves only the directive unit leaves a settled state at once. -/
theorem State.settled.liveEvent_directive (settled : s.settled) (live : s.live = true) {f : State → State} {d : Directive}
    (effect : f s.fresh = { s.fresh with directive := d }) : s.liveEvent f = { s with directive := d, out := .none } := by
  have quiet := State.settled_update settled s.link s.take s.faults s.review d s.notices .none rfl rfl
  rw [State.liveEvent_of_live _ _ live, effect]
  refine (State.settle_of_settled _ quiet).trans ?_
  rw [← settled.1]

/-- Behind the raise of a notice on a settled state, the end of the command has only the report to serve. -/
theorem State.settled.settle_raise (settled : s.settled) (k : NoticeKind) : (s.raise k).settle = (s.raise k).serveReport.clearSignals :=
  State.settle_of_settled_signals _
    (State.settled_update settled s.link s.take s.faults s.review s.directive (s.raise k).notices s.out rfl rfl)
    (congrArg Signals.dirtied settled.1) (congrArg Signals.reexamine settled.1)

theorem State.settled.recorded (settled : s.settled) (n code : Byte) (o : DirOutcome) : (s.fresh.recordDirective n code o).settled :=
  State.settled_update settled s.link s.take s.faults s.review _ s.notices .none rfl rfl

/-- `t` is `s` after a trigger that is only recorded and raises DIRECTIVE: directive unit, notices, report and outputs apart, the part is as
it was. -/
structure OnlyRecorded (s : State) (code : Byte) (o : DirOutcome) (t : State) : Prop where
  directive : t.directive = { s.directive with
    expected := s.directive.expected + 1, last := { number := s.directive.expected, code := code, outcome := o } }
  notices : t.notices = s.notices.set .directive (raised s.report.generation)
  writing : t.report.writing = true
  starts : s.report.writing = false →
    t.report.generation = nextGeneration s.report.generation ∧ t.report.nextWord = 0 ∧ reportShows t.report.snapshot t
  waits : s.report.writing = true → t.report = { s.report with again := true }
  rest : t.settings = s.settings ∧ t.regions = s.regions ∧ t.session = s.session ∧ t.link = s.link ∧ t.feed = s.feed
    ∧ t.take = s.take ∧ t.map = s.map ∧ t.walker = s.walker ∧ t.freeze = s.freeze ∧ t.review = s.review ∧ t.faults = s.faults
  chassis : t.chassis = s.chassis
  out : t.out = Out.none

/-- A report that starts shows the part as it stands (R178). -/
theorem State.startReport_shows (u : State) : reportShows u.startReport.report.snapshot u.startReport.clearSignals :=
  reportShows_reportWords { u with report :=
    { u.report with generation := nextGeneration u.report.generation, writing := true, nextWord := 0, again := false } }

/-- On a settled state the report is all that the end of such a command has to serve: it starts with the writer idle, else it waits (R178). -/
theorem OnlyRecorded.of_settled (settled : s.settled) (code : Byte) (o : DirOutcome) :
    OnlyRecorded s code o ((s.fresh.recordDirective s.directive.expected code o).raise .directive).settle := by
  rw [(settled.recorded s.directive.expected code o).settle_raise]
  generalize hu : (s.fresh.recordDirective s.directive.expected code o).raise .directive = u
  have asked : u.signals.report = true := by rw [← hu]; rfl
  have report : u.report = s.report := by rw [← hu]; rfl
  have idleServed (idle : s.report.writing = false) : u.serveReport = u.startReport := by simp [State.serveReport, asked, report, idle]
  have busyServed (busy : s.report.writing = true) : u.serveReport = { u with report := { u.report with again := true } } := by
    simp [State.serveReport, asked, report, busy]
  refine ⟨?_, ?_, ?_, fun idle => ?_, fun busy => ?_, ?_, ?_, ?_⟩
  · subst hu; simp [State.recordDirective]
  · subst hu; simp [State.recordDirective, State.raise]
  · cases writing : s.report.writing with
    | false => rw [idleServed writing]; rfl
    | true => rw [busyServed writing]; exact report ▸ writing
  · rw [idleServed idle]
    refine ⟨?_, rfl, u.startReport_shows⟩
    rw [← report]; rfl
  · rw [busyServed busy, ← report]; rfl
  all_goals subst hu; simp [State.recordDirective]

/-! ### NOTICES, ACKNOWLEDGE, REFRESH -/

/-- NOTICES, ACKNOWLEDGE and REFRESH are taken in every state (section 9.3). -/
theorem State.judge_everywhere (s : State) {k : DirKind} (h : k = .notices ∨ k = .acknowledge ∨ k = .refresh) :
    s.judge k.code = .done := by
  rw [State.judge_code]
  rcases h with rfl | rfl | rfl <;> rfl

/-- NOTICES writes the enable mask and raises DIRECTIVE (R175). -/
theorem exec_notices (live : s.live = true) :
    ∃ t, exec (.notices s.directive.expected) s = .next t ∧ t.notices.enable = noticeSet (s.directive.word 1)
      ∧ t.directive.last.outcome = .done ∧ t.notices.directive = raised s.report.generation
      ∧ (∀ k, k ≠ .directive → t.notices.get k = s.notices.get k)
      ∧ t.report.writing = true ∧ t.session.state = s.session.state ∧ t.settings = s.settings := by
  have run := exec_command_expected s .notices live
  rw [s.judge_everywhere (.inl rfl)] at run
  refine ⟨_, run, ?_, ?_, ?_, fun k hk => ?_, State.settle_writing _ (by simp), ?_, ?_⟩
  · rw [State.settle_notices]; rfl
  · simp [State.recordDirective]
  · rw [State.settle_notices]; rfl
  · rw [State.settle_notices, State.finishDirective_notices _ _ _ hk]
    cases k <;> rfl
  · rw [State.settle_session_state]; rfl
  · rw [State.settle_settings]; rfl

/-- ACKNOWLEDGE moves the notices it names and raises none (R175, R176). -/
theorem exec_acknowledge (live : s.live = true) :
    ∃ t, exec (.acknowledge s.directive.expected) s = .next t ∧ t.directive.last.outcome = .done
      ∧ t.notices = s.notices.acknowledge (noticeSet (s.directive.word 1)) (ackGeneration (s.directive.word 1))
      ∧ t.report.writing = true ∧ t.session.state = s.session.state ∧ t.settings = s.settings := by
  have run := exec_command_expected s .acknowledge live
  rw [s.judge_everywhere (.inr (.inl rfl))] at run
  refine ⟨_, run, ?_, ?_, State.settle_writing _ (by simp), ?_, ?_⟩
  · simp [State.recordDirective]
  · rw [State.settle_notices]; rfl
  · rw [State.settle_session_state]; rfl
  · rw [State.settle_settings]; rfl

/-- REFRESH is only recorded (R174). -/
theorem exec_refresh (live : s.live = true) (settled : s.settled) :
    ∃ t, exec (.refresh s.directive.expected) s = .next t ∧ OnlyRecorded s DirKind.refresh.code .done t := by
  have run := exec_command_expected s .refresh live
  rw [s.judge_everywhere (.inr (.inr rfl))] at run
  exact ⟨_, run, .of_settled settled _ _⟩

/-- Settles O37, command by command. -/
theorem noticesAndRefresh : Obligations.NoticesAndRefresh := by
  refine ⟨State.notify_iff, fun s live => ⟨exec_notices live, ?_, fun settled => ?_⟩⟩
  · obtain ⟨t, run, outcome, notices, writing, state, settings⟩ := exec_acknowledge live
    refine ⟨t, run, outcome, by rw [notices, Notices.acknowledge_enable], writing, fun k mark top => ?_, state, settings⟩
    rw [notices, Notices.acknowledge_get, Notice.acknowledge_eq _ mark top, ite_and]
  · obtain ⟨t, run, only⟩ := exec_refresh live settled
    obtain ⟨hsettings, hregions, hsession, hlink, hfeed, htake, hmap, hwalker, hfreeze, hreview, hfaults⟩ := only.rest
    exact ⟨t, run, by rw [only.directive], only.notices, only.writing, only.starts, only.waits, hsettings, hregions, hsession, hlink,
      hfeed, htake, hmap, hwalker, hfreeze, hreview, hfaults, only.chassis⟩

/-! ### Words that are no directive -/

/-- The kinds have the codes 1 to 11 (R185). -/
theorem kindOfCode_eq_none {code : Byte} (h : code = 0 ∨ 11 < code.toNat) : kindOfCode code = none := by
  have apart (k : DirKind) : k.code ≠ code := by
    rintro rfl
    revert h
    cases k <;> decide
  simp [kindOfCode, List.find?_eq_none, apart]

/-- A snooped write to slot word `i` + 1 goes into the shadow (R167). -/
theorem exec_shadowWrite (live : s.live = true) (settled : s.settled) (i : Fin 7) (data : Word) {mask : Mask} (covers : mask ≠ 0) :
    exec (.shadowWrite i data mask) s = .next { s with
      directive := { s.directive with
        shadow := s.directive.shadow.mapIdx fun j w => if j = i.val then mergeBytes mask data w else w }
      out := .none } :=
  congrArg Host.Outcome.next (settled.liveEvent_directive live (if_neg covers))

/-- A snooped write to word 0 that fails a test of a trigger is only counted (R168). -/
theorem exec_strayTrigger (live : s.live = true) (settled : s.settled) (data : Word) {mask : Mask} (covers : mask ≠ 0)
    (invalid : ¬ s.validTrigger data mask = true) : exec (.strayTrigger data mask) s =
      .next { s with directive := { s.directive with stray := min 65535 (s.directive.stray + 1) }, out := .none } := by
  have stray : s.fresh.snoop 0 data mask = s.fresh.countStray := if_neg invalid
  have snooped : ¬ (mask = 0 ∨ s.fresh.validTrigger data mask = true) := not_or.2 ⟨covers, invalid⟩
  refine congrArg Host.Outcome.next (settled.liveEvent_directive live ?_)
  rw [if_neg snooped, stray]
  rfl

/-- A trigger whose kind code names no kind is only recorded (R169). -/
theorem exec_unknownKind (live : s.live = true) (settled : s.settled) {code : Byte} (unknown : kindOfCode code = none) :
    ∃ t, exec (.unknownKind s.directive.expected code) s = .next t ∧ OnlyRecorded s code .unknownKind t := by
  refine ⟨_, exec_of_effect rfl live ?_, .of_settled settled code .unknownKind⟩
  rw [if_pos unknown]
  refine (s.fresh.trigger_expected code).trans ?_
  simp [State.handleTrigger, State.judge, unknown, State.recordDirective]

/-- Settles O28, by the three kinds of snooped words. -/
theorem slotWordsThatAreNoDirective : Obligations.SlotWordsThatAreNoDirective := by
  intro s live settled
  refine ⟨fun i data mask covers => ⟨_, exec_shadowWrite live settled i data covers, fun j => ?_, rfl⟩,
    fun data mask covers fails => exec_strayTrigger live settled data covers ?_, fun code unnamed => ?_⟩
  · simp [Fin.ext_iff]
  · simpa [State.validTrigger, and_assoc] using fails
  · obtain ⟨t, run, only⟩ := exec_unknownKind live settled (kindOfCode_eq_none unnamed)
    obtain ⟨hsettings, hregions, hsession, hlink, hfeed, htake, hmap, hwalker, hfreeze, hreview, hfaults⟩ := only.rest
    exact ⟨t, run, only.directive, only.notices, only.writing, hsettings, hregions, hsession, hlink, hfeed, htake, hmap, hwalker, hfreeze,
      hreview, hfaults, only.out⟩

end Sys2Proof.Machine
end

section
/-! PROOFS. The fall of PWR_GOOD, and the part without power (O9). -/

namespace Sys2Proof.Machine

open Sys2Proof

variable {s : State}

/-! ### The fall of PWR_GOOD (R189) -/

/-- PWR_GOOD falls at a powered part. -/
theorem exec_pwrGoodFall (power : s.chassis.power = true) : exec .pwrGoodFall s = .next s.fresh.powerDown.settle := by
  have falls : s.fresh.chassis.power = true := power
  exact congrArg (fun u : State => Host.Outcome.next u.settle) (if_pos falls)

@[simp] theorem State.powerDown_power (s : State) : s.powerDown.chassis.power = false := rfl
@[simp] theorem State.powerDown_link_state (s : State) : s.powerDown.link.state = .off := rfl

/-- With no reason given no CLOSE is sent. -/
theorem State.sendClose_none (s : State) : s.sendClose none = s := ite_self _

@[simp] theorem State.powerDown_out (s : State) : s.powerDown.out = s.out :=
  show (s.sendClose none).out = s.out from congrArg State.out s.sendClose_none

/-- NOTIFY is released at a part without power (R189). -/
theorem State.notify_unpowered (power : s.chassis.power = false) : s.notify = false := by
  simp [State.notify, State.live, power]

/-! ### The part without power (log 10) -/

/-- A command that leaves a settled state unmoved ends with only the outputs taken away (log 4). -/
theorem exec_of_unmoved {c : Instr} {f : State → State} (settled : s.settled) (meaning : exec c s = .next (s.event f))
    (unmoved : f s.fresh = s.fresh) : exec c s = .next { s with out := .none } := by
  rw [meaning, State.event, unmoved]
  exact congrArg Host.Outcome.next (settled.settle_chassis_update (c := s.chassis) fun _ => rfl)

/-- A command that only a live part obeys does nothing without power. -/
theorem exec_of_liveEvent_unpowered {c : Instr} {f : State → State} (settled : s.settled) (power : s.chassis.power = false)
    (meaning : exec c s = .next (s.liveEvent f)) : exec c s = .next { s with out := .none } := by
  have notLive : ¬ s.fresh.live = true := by simp [State.live, power]
  exact exec_of_unmoved settled meaning (if_neg notLive)

/-- Without power every command but COLD_RESET does nothing: it acts on a live part alone, or its own test asks for power first. -/
theorem exec_unpowered {c : Instr} (notCold : ∀ resetN pins, c ≠ .coldReset resetN pins) (power : s.chassis.power = false)
    (settled : s.settled) : exec c s = .next { s with out := .none } := by
  have off : ¬ s.fresh.chassis.power = true := Bool.eq_false_iff.1 power
  have off_and (test : Bool) : ¬ (s.fresh.chassis.power && test) = true := fun both => off (Bool.and_eq_true_iff.1 both).1
  cases c
  case coldReset resetN pins => exact absurd rfl (notCold resetN pins)
  case resetNRise pins => exact exec_of_unmoved settled rfl (if_neg (off_and _))
  case lookupRead a => exact exec_of_unmoved settled rfl (if_neg (off_and _))
  case maintenanceRead a => exact exec_of_unmoved settled rfl (if_neg (off_and _))
  case maintenanceWrite a data mask => exact exec_of_unmoved settled rfl (if_neg (off_and _))
  case arbiterGrant => exact exec_of_unmoved settled rfl (if_neg off)
  case readResponse status data => exact exec_of_unmoved settled rfl (if_neg off)
  case peerPresentChange level => exact exec_of_unmoved settled rfl (if_neg (off_and _))
  case ejectEvent => exact exec_of_unmoved settled rfl (if_neg (off_and _))
  case ejectFall => exact exec_of_unmoved settled rfl (if_neg (off_and _))
  case takeEnFall => exact exec_of_unmoved settled rfl (if_neg (off_and _))
  case takeEnRise => exact exec_of_unmoved settled rfl (if_neg (off_and _))
  case pwrGoodFall => exact exec_of_unmoved settled rfl (if_neg off)
  all_goals exact exec_of_liveEvent_unpowered settled power rfl

/-- Settles O9: the fall itself, and then every command but COLD_RESET. -/
theorem powerFallReleasesEverything : Obligations.PowerFallReleasesEverything := by
  refine ⟨fun s power => ?_, fun _ _ notCold power settled => exec_unpowered notCold power settled⟩
  exact ⟨_, exec_pwrGoodFall power, by simp, by simp, State.notify_unpowered (by simp), by simp⟩

end Sys2Proof.Machine
end


section
/-! PROOFS. What a step does with a waiting queue (O1). -/

namespace Sys2Proof.Machine

open Sys2Proof

variable {s : State} {c : Instr} {rest : List Instr}

/-- The step of a state with a command in front is that command's meaning, on the state that has it taken off the queue (log 31). -/
theorem step_of_front (front : s.pending = c :: rest) : step s = exec c { s with pending := rest } := by
  rw [step, front]

/-- Settles O1: the state is given with `c` in front, and taking `c` off writes the queue again. -/
theorem stepRunsTheFrontCommand : Obligations.StepRunsTheFrontCommand := fun c rest s =>
  step_of_front (s := { s with pending := c :: rest }) rfl

end Sys2Proof.Machine
end

section
/-! PROOFS. What every command ends with: whatever a command has left, its end leaves a settled state (O4). -/

namespace Sys2Proof.Machine

open Sys2Proof

variable (s : State)

/-! ### A command is one whole event -/

/-- Every command is an event: the outputs taken away, its effect, and what every command ends with. -/
theorem exec_is_event (c : Instr) : ∃ f, exec c s = .next (s.event f) := by
  cases c <;> exact ⟨_, rfl⟩

/-! ### The state frames at the end (R149) -/

/-- An INSTEP just placed at the queue's end is the last step. -/
theorem State.enqueue_instep_lastStep : (s.enqueue .instep).lastStep = .instep :=
  State.lastStep_of_newest _ (q := s.feed.queue) (f := .instep) rfl rfl

/-- An offer that has been made is not to be made again. -/
theorem State.offerInstep_instepTest : s.offerInstep.instepTest = false := by
  unfold State.offerInstep
  split
  · simp [State.instepTest, State.enqueue_instep_lastStep]
  · simp [State.instepTest]

/-- An offer that waits is made with no segment DIRTY or OPEN. -/
theorem State.instepTest_counts {s : State} (h : s.instepTest = true) : s.dirtyCount = 0 ∧ s.openCount = 0 := by
  simp only [State.instepTest, Bool.and_eq_true, beq_iff_eq] at h
  obtain ⟨⟨⟨⟨⟨⟨-, dirty⟩, -⟩, opened⟩, -⟩, -⟩, -⟩ := h
  exact ⟨dirty, opened⟩

@[simp] theorem State.instepStage_dirtyCount : s.instepStage.dirtyCount = s.dirtyCount := by simp [State.dirtyCount]
@[simp] theorem State.instepStage_openCount : s.instepStage.openCount = s.openCount := by simp [State.openCount]

/-- After the test of R149 no INSTEP is to be offered, and one that waits stands with no segment DIRTY or OPEN. -/
theorem State.instepStage_done : s.instepStage.instepTest = false
    ∧ (s.instepStage.feed.instepWaiting = true → s.dirtyCount = 0 ∧ s.openCount = 0) := by
  unfold State.instepStage
  split
  · next cancel =>
    have left : ¬ (s.dirtyCount = 0 ∧ s.openCount = 0) := by simp at cancel; omega
    refine ⟨Bool.eq_false_iff.2 fun test => ?_, fun waiting => by simp at waiting⟩
    have counts := State.instepTest_counts test
    exact left counts
  · next stays =>
    unfold State.tryInstep
    split
    · next test => exact ⟨s.offerInstep_instepTest, fun _ => State.instepTest_counts test⟩
    · next noTest =>
      refine ⟨Bool.eq_false_iff.2 noTest, fun waiting => ?_⟩
      simpa [waiting] using stays

/-! ### The wait runs at the end (R15) -/

@[simp] theorem WaitRuns.get_build (f : Requester → Nat) (r : Requester) : (WaitRuns.build f).get r = f r := by
  cases r <;> rfl

/-- The run a requester is left with: its own while it waits at level 0 to 3, else 0. -/
theorem State.clearRuns_get (r : Requester) : s.clearRuns.path.waitRuns.get r =
    if s.waits r && decide (s.settings.level r ≤ 3) then s.path.waitRuns.get r else 0 := by simp [State.clearRuns]

/-- A report that starts makes nobody stop waiting. -/
theorem State.waits_of_serveReport {s : State} {r : Requester} (h : s.serveReport.waits r = false) : s.waits r = false := by
  unfold State.serveReport at h
  split at h
  · split at h
    · exact h
    · next idle =>
      cases r
      case report => simp [State.waits, State.isReady, State.offer, State.reportOffer, idle]
      all_goals exact h
  · exact h

/-- The start of a report leaves what the INSTEP test looks at. -/
theorem State.serveReport_kept : s.serveReport.instepTest = s.instepTest ∧ s.serveReport.feed = s.feed
    ∧ s.serveReport.dirtyCount = s.dirtyCount ∧ s.serveReport.openCount = s.openCount := by
  unfold State.serveReport
  split
  · split <;> exact ⟨rfl, rfl, rfl, rfl⟩
  · exact ⟨rfl, rfl, rfl, rfl⟩

/-! ### The statement -/

/-- The end of a command leaves a settled state, whatever it finds. -/
theorem State.settle_settled : s.settle.settled := by
  let u := s.examineHeld.staleStage
  obtain ⟨test, waiting⟩ := u.instepStage_done
  obtain ⟨test', feed', dirty', opened'⟩ := u.instepStage.clearRuns.serveReport_kept
  refine ⟨rfl, test'.trans test, fun hw => ?_, fun r hr => ?_⟩
  · have counts := waiting ((congrArg Feed.instepWaiting feed').symm.trans hw)
    exact ⟨dirty'.trans ((u.instepStage_dirtyCount).trans counts.1), opened'.trans ((u.instepStage_openCount).trans counts.2)⟩
  · change u.instepStage.clearRuns.serveReport.path.waitRuns.get r = 0
    rw [State.serveReport_path, State.clearRuns_get]
    refine if_neg fun both => ?_
    simp only [Bool.and_eq_true, decide_eq_true_eq] at both
    rcases hr with idle | high
    · have : u.instepStage.waits r = false := State.waits_of_serveReport (s := u.instepStage.clearRuns) idle
      simp [this] at both
    · have : s.settle.settings.level r = u.instepStage.settings.level r := by simp [u]
      omega

/-- Settles O4: every command is an event, and an event ends with `State.settle`. -/
theorem everyCommandEndsSettled : Obligations.EveryCommandEndsSettled := by
  intro c s t ht
  obtain ⟨f, event⟩ := exec_is_event s c
  cases event.symm.trans ht
  exact State.settle_settled _

end Sys2Proof.Machine
end

section
/-! PROOFS. The cold reset, and the state of the machine at reset (O5, O6, O59). -/

namespace Sys2Proof.Machine

open Sys2Proof

variable (s : State)

/-! ### The cold start (R17, R164, R182) -/

/-- Without a report asked for, nothing is left to do after a cold start. -/
theorem State.settle_cold (resetN : Bool) (pins : Pins) (waiting : List Instr) :
    State.settle { State.cold resetN pins with pending := waiting } = { State.cold resetN pins with pending := waiting } := by
  cases resetN <;> rfl

/-- With RESET_N high the first report starts, its snapshot showing the cold state. -/
theorem State.settle_coldStart (pins : Pins) :
    (s.coldStart true pins).settle = (State.startReport { State.cold true pins with pending := s.pending }) := rfl

/-- COLD_RESET leaves the cold values, and with RESET_N high the first report started. -/
theorem exec_coldReset (resetN : Bool) (pins : Pins) : exec (.coldReset resetN pins) s = .next
    (let cold : State := { State.cold resetN pins with pending := s.pending }
     if resetN then cold.startReport else cold) := by
  cases resetN
  · exact congrArg Host.Outcome.next (State.settle_cold false pins s.pending)
  · exact congrArg Host.Outcome.next (s.fresh.settle_coldStart pins)

/-- Settles O5: both levels of RESET_N, block by block. -/
theorem coldResetGivesResetValues : Obligations.ColdResetGivesResetValues := by
  intro resetN pins s
  refine ⟨_, exec_coldReset s resetN pins, ?_⟩
  cases resetN <;> simp [State.startReport, State.cold, Chassis.atCold, Report.reset, nextGeneration, Config.top32]

/-! ### The machine at reset (R182, R187) -/

/-- The first report after a cold reset with every pin low is the one the reset state is writing. -/
theorem startReport_cold : (State.cold true Pins.reset).startReport = State.reset := by rfl

/-- Settles O6: no word of a report shows the waiting commands. -/
theorem resetStateIsAColdReset : Obligations.ResetStateIsAColdReset := by
  intro s
  have words : ({ State.cold true Pins.reset with pending := s.pending } : State).startReport
      = { (State.cold true Pins.reset).startReport with pending := s.pending } := rfl
  rw [exec_coldReset, ← startReport_cold]
  exact congrArg Host.Outcome.next words

/-- No list of the reset state holds anything, and no window frame is out. -/
theorem reset_lists : State.reset.bounded ∧ State.reset.overlayDistinct ∧ State.reset.faultsDistinct ∧ State.reset.windowFits := by
  refine ⟨⟨?_, ?_, ?_, ?_, ?_⟩, List.nodup_nil, List.nodup_nil, ?_, ?_⟩ <;> exact Nat.zero_le _

/-- The reset state stands in IDLE without a session. -/
theorem reset_legal : State.reset.legal :=
  State.legal_of_idle rfl rfl rfl fun _ => rfl

/-- Settles O59: the report alone waits, at a level that has no wait run. -/
theorem resetStateIsSafe : Obligations.ResetStateIsSafe := by
  obtain ⟨bounded, overlay, faults, window⟩ := reset_lists
  obtain ⟨state, throttle, map, link⟩ := reset_legal
  refine ⟨⟨bounded, overlay, faults, window, throttle, state, map, link⟩, rfl, rfl, fun _ => ⟨rfl, rfl⟩, fun r _ => ?_⟩
  cases r <;> rfl

end Sys2Proof.Machine
end

section
/-! PROOFS. What an operation of the part leaves alone: the frame that most operations keep, and the lists that none lets outgrow their
places. -/

namespace Sys2Proof.Machine

open Sys2Proof

variable {s t u : State}

/-! ### The relations -/

/-- From `s` to `t` no bounded list outgrows its places, and addresses and fault entries stay distinct (R76, R89, R108, R126). -/
structure Lists (s t : State) : Prop where
  queue : s.feed.queue.length ≤ Config.queuePlaces → t.feed.queue.length ≤ Config.queuePlaces
  buffer : s.take.buffer.length ≤ Config.receiveSlots → t.take.buffer.length ≤ Config.receiveSlots
  faults : s.faults.list.length ≤ Config.faultPlaces → t.faults.list.length ≤ Config.faultPlaces
  overlay : s.freeze.entries.length ≤ Config.overlayPlaces → t.freeze.entries.length ≤ Config.overlayPlaces
  overlayDistinct : s.overlayDistinct → t.overlayDistinct
  faultsDistinct : s.faultsDistinct → t.faultsDistinct

/-- And the window stays counted in the credits in use (R79). -/
structure Within (s t : State) : Prop extends Lists s t where
  window : s.windowFits → t.windowFits

/-- What no command moves but a reset, TAKE_EN's fall, and the streams' reads and responses. -/
structure SameCore (s t : State) : Prop where
  pending : t.pending = s.pending
  msize : t.chassis.msize = s.chassis.msize
  slotId : t.chassis.slotId = s.chassis.slotId
  lockout : t.session.lockout = s.session.lockout
  engine : t.out.engine = s.out.engine

/-- What an operation keeps that is no grant, no reset and no directive, and belongs to no request of the streams. -/
structure Kept (s t : State) : Prop extends SameCore s t, Lists s t where
  settings : t.settings = s.settings
  regions : t.regions = s.regions
  interrupted : t.take.interrupted = s.take.interrupted
  returns : t.path.returns = s.path.returns
  lookup : t.path.lookup = s.path.lookup
  waitRuns : t.path.waitRuns = s.path.waitRuns
  directive : t.directive = s.directive
  enable : t.notices.enable = s.notices.enable
  report : t.report = s.report
  mem : t.out.mem = s.out.mem

/-- The frame, the lists and the window together. -/
structure Moves (s t : State) : Prop extends Kept s t, Within s t

/-- And no frame is sent. -/
structure Silent (s t : State) : Prop extends Moves s t where
  sent : t.out.link = s.out.link

theorem Lists.trans (h : Lists s t) (h' : Lists t u) : Lists s u where
  queue := h'.queue ∘ h.queue
  buffer := h'.buffer ∘ h.buffer
  faults := h'.faults ∘ h.faults
  overlay := h'.overlay ∘ h.overlay
  overlayDistinct := h'.overlayDistinct ∘ h.overlayDistinct
  faultsDistinct := h'.faultsDistinct ∘ h.faultsDistinct

theorem Within.trans (h : Within s t) (h' : Within t u) : Within s u :=
  { h.toLists.trans h'.toLists with window := h'.window ∘ h.window }

theorem SameCore.trans (h : SameCore s t) (h' : SameCore t u) : SameCore s u where
  pending := h'.pending.trans h.pending
  msize := h'.msize.trans h.msize
  slotId := h'.slotId.trans h.slotId
  lockout := h'.lockout.trans h.lockout
  engine := h'.engine.trans h.engine

theorem Kept.trans (h : Kept s t) (h' : Kept t u) : Kept s u :=
  { h.toSameCore.trans h'.toSameCore, h.toLists.trans h'.toLists with
    settings := h'.settings.trans h.settings
    regions := h'.regions.trans h.regions
    interrupted := h'.interrupted.trans h.interrupted
    returns := h'.returns.trans h.returns
    lookup := h'.lookup.trans h.lookup
    waitRuns := h'.waitRuns.trans h.waitRuns
    directive := h'.directive.trans h.directive
    enable := h'.enable.trans h.enable
    report := h'.report.trans h.report
    mem := h'.mem.trans h.mem }

theorem Moves.trans (h : Moves s t) (h' : Moves t u) : Moves s u :=
  { h.toKept.trans h'.toKept, h.toWithin.trans h'.toWithin with }

theorem Silent.trans (h : Silent s t) (h' : Silent t u) : Silent s u :=
  { h.toMoves.trans h'.toMoves with sent := h'.sent.trans h.sent }

/-- The lists where each is as it was. -/
theorem Within.of_eq (queue : t.feed.queue = s.feed.queue) (buffer : t.take.buffer = s.take.buffer) (faults : t.faults.list = s.faults.list)
    (entries : t.freeze.entries = s.freeze.entries) (window : t.feed.window = s.feed.window)
    (sentTotal : t.feed.sentTotal = s.feed.sentTotal) (freedTotal : t.feed.freedTotal = s.feed.freedTotal) : Within s t where
  queue := by rw [queue]; exact id
  buffer := by rw [buffer]; exact id
  faults := by rw [faults]; exact id
  overlay := by rw [entries]; exact id
  overlayDistinct := by simp only [State.overlayDistinct, entries]; exact id
  faultsDistinct := by simp only [State.faultsDistinct, faults]; exact id
  window := by simp only [State.windowFits, Feed.credits, window, sentTotal, freedTotal]; exact id

/-- An operation that rewrites these blocks, with what they hold of the frame and the lists as it was. -/
theorem Silent.update (s : State) (chassis : Chassis) (path : Path) (map : SegMap) (walker : Walker) (freeze : Freeze) (feed : Feed)
    (link : Link) (take : Take) (faults : Faults) (review : Review) (session : Session) (notices : Notices) (signals : Signals)
    (msize : chassis.msize = s.chassis.msize) (slotId : chassis.slotId = s.chassis.slotId)
    (returns : path.returns = s.path.returns) (lookup : path.lookup = s.path.lookup) (waitRuns : path.waitRuns = s.path.waitRuns)
    (entries : freeze.entries = s.freeze.entries)
    (queue : feed.queue = s.feed.queue) (window : feed.window = s.feed.window)
    (sentTotal : feed.sentTotal = s.feed.sentTotal) (freedTotal : feed.freedTotal = s.feed.freedTotal)
    (buffer : take.buffer = s.take.buffer) (interrupted : take.interrupted = s.take.interrupted)
    (list : faults.list = s.faults.list) (lockout : session.lockout = s.session.lockout)
    (enable : notices.enable = s.notices.enable) :
    Silent s { s with chassis, path, map, walker, freeze, feed, link, take, faults, review, session, notices, signals } :=
  { Within.of_eq (s := s) (t := { s with chassis, path, map, walker, freeze, feed, link, take, faults, review, session, notices, signals })
      queue buffer list entries window sentTotal freedTotal with
    pending := rfl, msize, slotId, lockout, engine := rfl, settings := rfl, regions := rfl, interrupted, returns, lookup, waitRuns
    directive := rfl, enable, report := rfl, mem := rfl, sent := rfl }

theorem Silent.refl (s : State) : Silent s s := by apply Silent.update <;> rfl

theorem Silent.foldl {α : Type} (f : State → α → State) (h : ∀ s a, Silent s (f s a)) (l : List α) (s : State) :
    Silent s (l.foldl f s) := by
  induction l generalizing s with
  | nil => exact .refl s
  | cons a l ih => exact (h s a).trans (ih (f s a))

theorem Silent.ite (c : Prop) [Decidable c] (ht : c → Silent s t) (hu : ¬ c → Silent s u) : Silent s (if c then t else u) := by
  split
  · next h => exact ht h
  · next h => exact hu h

theorem Moves.ite (c : Prop) [Decidable c] (ht : c → Moves s t) (hu : ¬ c → Moves s u) : Moves s (if c then t else u) := by
  split
  · next h => exact ht h
  · next h => exact hu h

/-! ### Flags, faults, the map -/

@[simp] theorem Notices.enable_set (ns : Notices) (k : NoticeKind) (n : Notice) : (ns.set k n).enable = ns.enable := by
  cases k <;> rfl

namespace Silent

variable (s)

theorem requestReport : Silent s s.requestReport := by apply update <;> rfl
theorem reexamine : Silent s s.reexamine := by apply update <;> rfl
theorem toldDirty (b : Bool) : Silent s (s.toldDirty b) := by apply update <;> rfl

theorem raise (k : NoticeKind) : Silent s (s.raise k) := by
  apply update <;> first | rfl | exact Notices.enable_set ..

theorem recordFault (f : SessFault) : Silent s (s.recordFault f) := (raise s .fault).trans (by apply update <;> rfl)

end Silent

/-- A new key at the end of a list of distinct keys. -/
theorem nodup_keys_append {κ α : Type} {l : List (κ × α)} {k : κ} {a : α} (distinct : (l.map Prod.fst).Nodup)
    (new : k ∉ l.map Prod.fst) : ((l ++ [(k, a)]).map Prod.fst).Nodup := by
  rw [List.map_append]
  exact distinct.append (List.nodup_singleton k) (List.disjoint_singleton.2 new)

/-- An entry of the fault list is made: the list keeps within its places, and holds no segment twice (R109). -/
theorem Faults.enter_fits (fs : Faults) (n : Segment) (c : Cause) :
    (fs.list.length ≤ Config.faultPlaces → (fs.enter n c).list.length ≤ Config.faultPlaces)
      ∧ ((fs.list.map Prod.fst).Nodup → ((fs.enter n c).list.map Prod.fst).Nodup) := by
  unfold Faults.enter
  split
  · have same : ((fs.list.map fun e => if e.1 = n then (n, c) else e).map Prod.fst) = fs.list.map Prod.fst := by
      rw [List.map_map]
      refine List.map_congr_left fun e _ => ?_
      simp only [Function.comp]
      split
      · next h => exact h.symm
      · rfl
    exact ⟨fun h => by simpa using h, fun h => same.symm ▸ h⟩
  · next absent =>
    have new : n ∉ fs.list.map Prod.fst := by simpa using absent
    split
    · next room => exact ⟨fun _ => by simp; omega, fun h => nodup_keys_append h new⟩
    · next full =>
      have tail : (fs.list.tail.map Prod.fst).Sublist (fs.list.map Prod.fst) := (List.tail_sublist _).map _
      refine ⟨fun h => ?_, fun h => nodup_keys_append (h.sublist tail) fun h => new (tail.subset h)⟩
      simp only [List.length_append, List.length_tail, List.length_singleton]
      simp only [Config.faultPlaces] at h full ⊢
      omega

/-- The lists where only the fault list moves, and keeps its bounds. -/
theorem Within.of_faults (length : s.faults.list.length ≤ Config.faultPlaces → t.faults.list.length ≤ Config.faultPlaces)
    (distinct : s.faultsDistinct → t.faultsDistinct) (queue : t.feed = s.feed) (buffer : t.take.buffer = s.take.buffer)
    (entries : t.freeze = s.freeze) : Within s t where
  queue := by rw [queue]; exact id
  buffer := by rw [buffer]; exact id
  faults := length
  overlay := by rw [entries]; exact id
  overlayDistinct := by simp only [State.overlayDistinct, entries]; exact id
  faultsDistinct := distinct
  window := by simp only [State.windowFits, queue]; exact id

namespace Silent

variable (s)

theorem enterFault (n : Segment) (c : Cause) : Silent s (s.enterFault n c) := by
  have fits := s.faults.enter_fits n c
  have raised := raise s .fault
  exact { raised with toWithin := .of_faults fits.1 fits.2 rfl rfl rfl, sent := raised.sent }

end Silent

end Sys2Proof.Machine
end

section
/-! PROOFS. The operations of the session, of the queue, the window and the overlay, and of the streams keep the frame and the lists. -/

namespace Sys2Proof.Machine

open Sys2Proof

variable {s t u : State}

namespace Silent

variable (s)

/-! ### One block rewritten -/

/-- The feed rewritten, its queue within its places and its window in its credits. -/
theorem feed (f : Feed) (queue : s.feed.queue.length ≤ Config.queuePlaces → f.queue.length ≤ Config.queuePlaces)
    (window : s.windowFits → f.window.length ≤ f.credits ∧ f.credits ≤ Config.receiveSlots) : Silent s { s with feed := f } :=
  { Silent.refl s with queue, window }

/-- The overlay rewritten within its places. -/
theorem freeze (f : Freeze) (overlay : s.freeze.entries.length ≤ Config.overlayPlaces → f.entries.length ≤ Config.overlayPlaces)
    (overlayDistinct : s.overlayDistinct → (f.entries.map OverlayEntry.addr).Nodup) : Silent s { s with freeze := f } :=
  { Silent.refl s with overlay, overlayDistinct }

/-- The take rewritten, its buffer within its slots. -/
theorem take (k : Take) (buffer : s.take.buffer.length ≤ Config.receiveSlots → k.buffer.length ≤ Config.receiveSlots)
    (interrupted : k.interrupted = s.take.interrupted) : Silent s { s with take := k } :=
  { Silent.refl s with buffer, interrupted }

/-! ### Faults, the map, time -/

theorem clearFault (n : Segment) : Silent s (s.clearFault n) := by
  unfold State.clearFault
  refine ite _ (fun _ => ?_) fun _ => .refl s
  have shorter : (s.faults.list.filter fun e => e.1 ≠ n).Sublist s.faults.list := List.filter_sublist
  exact { requestReport s with
    toWithin := .of_faults (fun h => shorter.length_le.trans h) (fun h => h.sublist (shorter.map _)) rfl rfl rfl }

theorem verifyFailed (n : Segment) (c : Cause) : Silent s (s.verifyFailed n c) :=
  ((enterFault s n c).trans (recordFault _ _)).trans (by apply update <;> rfl)

theorem changeSeg (n : Segment) (f : SegState → SegState) : Silent s (s.changeSeg n f) := by apply update <;> rfl
theorem unsentToDirty : Silent s s.unsentToDirty := by apply update <;> rfl
theorem clearMap : Silent s s.clearMap := by apply update <;> rfl
theorem takeUse : Silent s s.takeUse := by apply update <;> rfl
theorem startPass (n : Nat) : Silent s (s.startPass n) := by apply update <;> rfl
theorem dropBuffers : Silent s s.dropBuffers := by apply update <;> rfl

theorem advance (n : Nat) : Silent s (s.advance n) := by
  unfold State.advance
  refine ite _ (fun _ => ?_) fun _ => ite _ (fun _ => ?_) fun _ => .refl s
  · apply update <;> rfl
  · apply update <;> rfl

theorem reopen (b : Option Buffer) : Silent s (s.reopen b) := by
  cases b with
  | none => exact .refl s
  | some b => exact changeSeg s b.segment _

/-! ### The session state and the throttle -/

theorem setState (st : SessState) : Silent s (s.setState st) := by
  unfold State.setState
  exact ite _ (fun _ => .refl s) fun _ => ((raise s .state).trans (reexamine _)).trans (by apply update <;> rfl)

theorem setThrottle (n : Nat) : Silent s (s.setThrottle n) :=
  (ite (u := s.reexamine) _ (fun _ => .refl s) fun _ => reexamine s).trans (by apply update <;> rfl)

theorem enterHandover : Silent s s.enterHandover := (setState s _).trans (by apply update <;> rfl)
theorem enterSteady : Silent s s.enterSteady := ((setState s _).trans (setThrottle _ _)).trans (by apply update <;> rfl)
theorem enterFreeze : Silent s s.enterFreeze := (setState s _).trans (by apply update <;> rfl)

theorem endReplay : Silent s s.endReplay :=
  ite _ (fun _ => (enterSteady s).trans (ite _ (fun _ => enterHandover _) fun _ => .refl _)) fun _ => .refl s

theorem requestHandover : Silent s s.requestHandover := by
  unfold State.requestHandover
  refine ite _ (fun _ => ?_) fun _ => .refl s
  split
  · exact enterHandover s
  · exact .refl s
  · apply update <;> rfl

/-! ### The link -/

theorem heard : Silent s s.heard := ite _ (fun _ => by apply update <;> rfl) fun _ => .refl s

theorem discardFrame : Silent s s.discardFrame := by
  have counted : Silent s s.countDiscard := by apply update <;> rfl
  exact ite _ (fun _ => .refl s) fun _ => counted.trans (ite _ (fun _ => by apply update <;> rfl) fun _ => .refl _)

theorem retrain : Silent s s.retrain := by apply update <;> rfl

theorem startNumberingTake : Silent s s.startNumberingTake :=
  (take s { s.take with rx := .inOrder, expected := 0, freed := 0, ackSeq := none, buffer := [] } (fun _ => Nat.zero_le _) rfl).trans
    (by apply update <;> rfl)

/-- With the window empty and both totals 0 no credit is in use. -/
theorem startNumberingFeed : Silent s s.startNumberingFeed :=
  (feed s { s.feed with nextNumber := 0, window := [], sentTotal := 0, freedTotal := 0, rewound := none, peerFail := 0, peerState := none }
    id fun _ => ⟨Nat.zero_le _, (by decide : (0#8 - 0#8).toNat ≤ 8)⟩).trans (by apply update <;> rfl)

/-! ### The send queue -/

/-- The queue and the two waiting offers rewritten. -/
theorem requeue (q : List SeqFrame) (instep stale : Bool)
    (fits : s.feed.queue.length ≤ Config.queuePlaces → q.length ≤ Config.queuePlaces) :
    Silent s { s with feed := { s.feed with queue := q, instepWaiting := instep }
                      session := { s.session with stalePending := stale } } :=
  (feed s { s.feed with queue := q, instepWaiting := instep } fits id).trans (by apply update <;> rfl)

/-- A place free, one more frame fits. -/
theorem queue_room {s : State} (room : s.feed.hasPlace = true) (f : SeqFrame) :
    s.feed.queue.length ≤ Config.queuePlaces → (s.feed.queue ++ [f]).length ≤ Config.queuePlaces := fun _ => by
  simpa [Feed.hasPlace] using room

theorem enqueue (f : SeqFrame) (room : s.feed.hasPlace = true) : Silent s (s.enqueue f) :=
  requeue s _ s.feed.instepWaiting s.session.stalePending (queue_room room f)

theorem offerInstep : Silent s s.offerInstep :=
  ite _ (enqueue s .instep) fun _ => requeue s s.feed.queue true s.session.stalePending id

theorem tryInstep : Silent s s.tryInstep := ite _ (fun _ => offerInstep s) fun _ => .refl s

theorem offerStale : Silent s s.offerStale := by
  refine ite _ (fun room => ?_) fun _ => requeue s s.feed.queue s.feed.instepWaiting true id
  exact requeue s _ s.feed.instepWaiting false (queue_room (Bool.and_eq_true_iff.1 room).1 _)

theorem takeInstep : Silent s s.takeInstep := by
  refine ite _ (fun room => ?_) fun _ => .refl s
  exact requeue s _ false s.session.stalePending (queue_room (Bool.and_eq_true_iff.1 room).2 _)

theorem takeStale : Silent s s.takeStale := by
  refine ite _ (fun room => ?_) fun _ => .refl s
  exact requeue s _ s.feed.instepWaiting false (queue_room (Bool.and_eq_true_iff.1 room).2 _)

/-- A mirror record is appended to the last frame, or put into a new one where a place is free (R77). -/
theorem placeRecord_fits {q q' : List SeqFrame} {r : MirrorRecord} (placed : placeRecord q r = some q')
    (fits : q.length ≤ Config.queuePlaces) : q'.length ≤ Config.queuePlaces := by
  unfold placeRecord at placed
  split at placed
  · next appended =>
    cases placed
    have some_last : q ≠ [] := fun empty => by simp [empty] at appended
    have := List.length_pos_iff.2 some_last
    simp only [List.length_append, List.length_dropLast, List.length_singleton]
    omega
  · split at placed
    · next room => cases placed; simpa using room
    · cases placed

theorem offerMirror (w : WriteReq) : Silent s (s.offerMirror w) := by
  unfold State.offerMirror
  split
  · next placed => exact requeue s _ s.feed.instepWaiting s.session.stalePending (placeRecord_fits placed)
  · exact (changeSeg s _ _).trans (by apply update <;> rfl)

theorem placeReplay (e : OverlayEntry) : Silent s (s.placeReplay e) := by
  unfold State.placeReplay
  split
  · next placed => exact requeue s _ s.feed.instepWaiting s.session.stalePending (placeRecord_fits placed)
  · exact .refl s

/-! ### The window -/

theorem withdrawAll (frames left : List SeqFrame) : Silent s (s.withdrawAll frames left) := by
  rw [OnlyCells.withdrawAll s frames left]
  apply update <;> rfl

theorem emptyQueues : Silent s s.emptyQueues :=
  feed s { s.feed with queue := [], window := [], instepWaiting := false } (fun _ => Nat.zero_le _)
    fun fits => ⟨Nat.zero_le _, fits.2⟩

/-- The oldest frames are retired: the window shortens, the credits stay (R80). -/
theorem retire (n : Nat) : Silent s (s.retire n) := by
  refine (feed s { s.feed with window := s.feed.window.drop n } id fun fits => ⟨?_, fits.2⟩).trans ?_
  · exact (List.drop_sublist ..).length_le.trans fits.1
  · rw [State.retire, OnlyRetired.retireAll _ _ _]
    apply update <;> rfl

/-- Withdrawn frames take their credits with them (R86). -/
theorem withdrawn_window (d : Nat) (fits : s.windowFits) :
    (s.feed.window.take d).length ≤ (s.feed.sentTotal - BitVec.ofNat 8 (s.feed.window.drop d).length - s.feed.freedTotal).toNat
      ∧ (s.feed.sentTotal - BitVec.ofNat 8 (s.feed.window.drop d).length - s.feed.freedTotal).toNat ≤ Config.receiveSlots := by
  obtain ⟨counted, within⟩ := fits
  have parts : (s.feed.window.take d).length + (s.feed.window.drop d).length = s.feed.window.length := by
    rw [← List.length_append, List.take_append_drop]
  simp only [Feed.credits, Config.receiveSlots] at counted within ⊢
  generalize (s.feed.window.take d).length = kept at parts ⊢
  generalize (s.feed.window.drop d).length = gone at parts ⊢
  bv_omega

theorem afterWithdrawal (frames : List SeqFrame) : Silent s (s.afterWithdrawal frames) :=
  ite _ (fun _ => by apply update <;> rfl) fun _ => ite _ (fun _ => offerStale s) fun _ => .refl s

theorem withdrawFrom (d : Nat) (e : Seq) : Silent s (s.withdrawFrom d e) := by
  refine Silent.trans ?_ (afterWithdrawal _ _)
  refine Silent.trans (Silent.trans ?_ (withdrawAll _ _ _)) (by apply update <;> rfl)
  refine feed s _ id fun fits => ?_
  simpa only [Feed.credits, List.length_map] using withdrawn_window s d fits

/-! ### The overlay -/

/-- Every entry becomes FLUSHING, each in its place (R138). -/
theorem beginFlush : Silent s s.beginFlush :=
  freeze s _ (fun h => by simpa using h) fun h => by simpa [State.overlayDistinct, Function.comp_def] using h

theorem flushContinuing : Silent s s.flushContinuing :=
  ((foldl _ (fun s e => changeSeg s _ _) _ _).trans (beginFlush _)).trans (by apply update <;> rfl)

/-- What a granted write leaves of an entry keeps its address. -/
theorem supersede_addr {w : WriteReq} {e o : OverlayEntry} (h : e.supersede w = some o) : o.addr = e.addr := by
  unfold OverlayEntry.supersede at h
  split at h
  · dsimp only at h
    split at h
    · cases h
    · cases h; rfl
  · cases h; rfl

/-- The addresses left by a granted write are among those of before, in their order (R140). -/
theorem supersede_addrs (w : WriteReq) (es : List OverlayEntry) :
    ((es.filterMap (OverlayEntry.supersede w)).map OverlayEntry.addr).Sublist (es.map OverlayEntry.addr) := by
  induction es with
  | nil => exact .slnil
  | cons e es ih =>
    rw [List.filterMap_cons]
    split
    · exact ih.cons _
    · next o left =>
      rw [List.map_cons, List.map_cons, supersede_addr left]
      exact ih.cons_cons _

theorem supersede (w : WriteReq) : Silent s (s.supersede w) := by
  have addrs := supersede_addrs w s.freeze.entries
  have shorter := addrs.length_le
  simp only [List.length_map] at shorter
  have told (v : State) (hv : Silent s v) (same : v.freeze = s.freeze) :
      Silent s { v with freeze := { v.freeze with entries := s.freeze.entries.filterMap (OverlayEntry.supersede w) } } := by
    refine hv.trans (freeze v _ ?_ ?_)
    · rw [same]; exact shorter.trans
    · rw [State.overlayDistinct, same]; exact fun h => h.sublist addrs
  unfold State.supersede
  dsimp only
  split
  · exact told _ (reexamine s) rfl
  · exact told s (.refl s) rfl

theorem dropEntry (a : Addr) : Silent s (s.dropEntry a) :=
  (reexamine s).trans (freeze _ _ (fun h => (List.length_filter_le ..).trans h) fun h => h.sublist (List.filter_sublist.map _))

/-! ### A write at the port -/

theorem admitWrite (w : WriteReq) : Silent s (s.admitWrite w) :=
  ite _ (fun _ => by apply update <;> rfl) fun _ => .refl s

/-- A write that meets no hold finds its entry or a free place: the overlay absorbs it within its places (R8, R127, R128). -/
theorem capture_fits {w : WriteReq} (absorbed : s.absorbs w = true) (free : s.holds w = false) :
    (s.freeze.entries.length ≤ Config.overlayPlaces → (s.freeze.capture w).entries.length ≤ Config.overlayPlaces)
      ∧ (s.overlayDistinct → ((s.freeze.capture w).entries.map OverlayEntry.addr).Nodup) := by
  cases found : s.freeze.find w.addr with
  | some e =>
    have addrs := Freeze.capture_addrs_of_found s.freeze w found
    refine ⟨fun h => ?_, fun h => addrs.symm ▸ h⟩
    have := congrArg List.length addrs
    simp only [List.length_map] at this
    omega
  | none =>
    rw [Freeze.capture_of_not_found s.freeze w found]
    have room : s.freeze.entries.length < Config.overlayPlaces := by
      simp only [State.absorbs, found, Bool.and_eq_true, Bool.or_eq_true, Option.isSome_none, Bool.false_eq_true, and_false,
        or_false] at absorbed
      obtain ⟨feed, state, mirror⟩ := absorbed
      simpa [State.holds, State.overlayHolds, Freeze.fullFor, feed, state, mirror, found] using
        (Bool.or_eq_false_iff.1 (Bool.or_eq_false_iff.1 free).1).2
    have absent : w.addr ∉ s.freeze.entries.map OverlayEntry.addr := by
      simpa [Freeze.find] using found
    refine ⟨fun _ => by simp; omega, fun h => ?_⟩
    simp only [List.map_append]
    exact List.Nodup.append h (List.nodup_singleton _) (List.disjoint_singleton.2 absent)

theorem examineWrite (w : WriteReq) : Silent s (s.examineWrite w) := by
  unfold State.examineWrite
  refine ite _ (fun _ => by apply update <;> rfl) fun _ => ite _ (fun _ => by apply update <;> rfl) fun _ =>
    ite _ (fun _ => by apply update <;> rfl) fun free => ite _ (fun absorbed => ?_) fun _ =>
    (admitWrite s w).trans (by apply update <;> rfl)
  obtain ⟨length, distinct⟩ := capture_fits s absorbed (Bool.eq_false_iff.2 free)
  have same : (s.admitWrite w).freeze = s.freeze := s.admitWrite_freeze w
  refine (admitWrite s w).trans (Silent.trans (freeze _ ((s.admitWrite w).freeze.capture w) ?_ ?_) (by apply update <;> rfl))
  · rwa [same]
  · simpa only [State.overlayDistinct, same] using distinct

theorem examineHeld : Silent s s.examineHeld := by
  unfold State.examineHeld
  refine ite _ (fun _ => ?_) fun _ => .refl s
  split
  · exact examineWrite s _
  · exact .refl s

/-! ### The end of a command, up to its wait runs and report -/

theorem staleStage : Silent s s.staleStage := ite _ (fun _ => offerStale s) fun _ => .refl s

theorem instepStage : Silent s s.instepStage :=
  ite _ (fun _ => requeue s s.feed.queue false s.session.stalePending id) fun _ => tryInstep s

end Silent

end Sys2Proof.Machine
end

section
/-! PROOFS. The ends and losses of sessions, the walker, the apply and fill units, the review and the transmitter keep the frame and the
lists. -/

namespace Sys2Proof.Machine

open Sys2Proof

variable {s t u : State}

/-! ### Session ends (R157, R162) -/

/-- A CLOSE is sent or not: nothing but the link's output and its idle time moves. -/
theorem Moves.sendClose (s : State) (close : Option CloseReason) : Moves s (s.sendClose close) := by
  unfold State.sendClose
  refine .ite _ (fun _ => ?_) fun _ => (Silent.refl s).toMoves
  split
  · exact { Silent.refl s with }
  · exact (Silent.refl s).toMoves

theorem Moves.closeLink (s : State) (close : Option CloseReason) : Moves s (s.closeLink close) :=
  (sendClose s close).trans (Silent.toMoves (by apply Silent.update <;> rfl))

/-- A feed session's end sends nothing before and after the link's own end. -/
theorem State.endFeed_around (close : Option CloseReason) (s : State) :
    ∃ v : State, Silent s v ∧ Silent (v.closeLink close) (s.endFeed close) := by
  refine ⟨(s.beginFlush.clearMap.dropBuffers.emptyQueues).setThrottle 0, ?_, ?_⟩
  · exact (Silent.beginFlush s).trans ((Silent.clearMap _).trans ((Silent.dropBuffers _).trans ((Silent.emptyQueues _).trans
      (Silent.setThrottle _ 0))))
  · exact Silent.trans (by apply Silent.update <;> rfl) (Silent.setState _ .idle)

/-- A take session's end sends nothing before and after the link's own end. -/
theorem State.endTake_around (close : Option CloseReason) (s : State) :
    ∃ v : State, Silent s v ∧ Silent (v.closeLink close) (s.endTake close) := by
  refine ⟨s.dropWork, Silent.take s _ (fun _ => Nat.zero_le _) rfl, ?_⟩
  exact Silent.trans (by apply Silent.update <;> rfl) (Silent.setState _ .idle)

theorem Moves.endFeed (s : State) (close : Option CloseReason) : Moves s (s.endFeed close) := by
  obtain ⟨v, before, after⟩ := s.endFeed_around close
  exact before.toMoves.trans ((closeLink v close).trans after.toMoves)

theorem Moves.endTake (s : State) (close : Option CloseReason) : Moves s (s.endTake close) := by
  obtain ⟨v, before, after⟩ := s.endTake_around close
  exact before.toMoves.trans ((closeLink v close).trans after.toMoves)

theorem Moves.endSession (s : State) (close : Option CloseReason) : Moves s (s.endSession close) :=
  .ite _ (fun _ => endFeed s close) fun _ => .ite _ (fun _ => endTake s close) fun _ => (Silent.refl s).toMoves

namespace Silent

variable (s)

/-- The link's end with no reason to give sends nothing. -/
theorem closeLink_none : Silent s (s.closeLink none) := by
  unfold State.closeLink
  rw [State.sendClose_none]
  apply update <;> rfl

theorem endFeed_none : Silent s (s.endFeed none) := by
  obtain ⟨v, before, after⟩ := s.endFeed_around none
  exact before.trans ((closeLink_none v).trans after)

theorem endTake_none : Silent s (s.endTake none) := by
  obtain ⟨v, before, after⟩ := s.endTake_around none
  exact before.trans ((closeLink_none v).trans after)

theorem endSession_none : Silent s (s.endSession none) :=
  ite _ (fun _ => endFeed_none s) fun _ => ite _ (fun _ => endTake_none s) fun _ => .refl s

theorem powerDown : Silent s s.powerDown := (closeLink_none s).trans (by apply update <;> rfl)

/-! ### Link losses (R39, R68, R152, R160) -/

theorem loseFrames : Silent s s.loseFrames :=
  (reopen s _).trans ((reopen _ _).trans ((dropBuffers _).trans ((emptyQueues _).trans ((withdrawAll _ _ _).trans
    (flushContinuing _)))))

theorem suspend (kind : GreetKind) : Silent s (s.suspend kind) :=
  Silent.trans (by apply update <;> rfl) (setState _ .suspended)

/-- The lost frames' credits are forgotten with them (R68). -/
theorem lostLink : Silent s s.lostLink := by
  refine ((loseFrames s).trans (retrain _)).trans (feed _ _ id fun _ => ⟨?_, (by decide : (0#8 - 0#8).toNat ≤ 8)⟩)
  simp

theorem loseLinkFeed : Silent s s.loseLinkFeed := by
  rw [State.loseLinkFeed_eq]
  refine (lostLink s).trans (ite _ (fun _ => ?_) fun _ => .refl _)
  exact Silent.trans (by apply update <;> rfl) (suspend _ _)

theorem dropWork : Silent s s.dropWork := take s _ (fun _ => Nat.zero_le _) rfl

theorem enterHeld : Silent s s.enterHeld := (dropWork s).trans (Silent.trans (by apply update <;> rfl) (setState _ .held))

theorem enterDetached : Silent s s.enterDetached :=
  (dropWork s).trans (Silent.trans (by apply update <;> rfl) (setState _ .detached))

theorem loseLinkTake : Silent s s.loseLinkTake := by
  obtain same | held | dropped := s.loseLinkTake_cases
  · rw [same]; exact retrain s
  · rw [held]; exact (retrain s).trans (enterHeld _)
  · rw [dropped]; exact (retrain s).trans (dropWork _)

theorem loseLink : Silent s s.loseLink :=
  ite _ (fun _ => ite _ (fun _ => loseLinkFeed s) fun _ => ite _ (fun _ => loseLinkTake s) fun _ => .refl s) fun _ => .refl s

theorem filterPeer : Silent s s.filterPeer :=
  Silent.trans ((raise s .line).trans (by apply update <;> rfl)) (ite _ (fun _ => loseLink _) fun _ => .refl _)

/-! ### The walker and its buffers -/

theorem takeIfWaiting : Silent s s.takeIfWaiting := by
  rw [State.takeIfWaiting_eq]
  apply update <;> rfl

theorem walkStep : Silent s s.walkStep := by
  rw [State.walkStep_eq]
  apply update <;> rfl

theorem sourceFault (second : Bool) (n : Segment) : Silent s (s.sourceFault second n) :=
  (changeSeg s n _).trans (Silent.trans (by apply update <;> rfl) ((enterFault _ n _).trans ((recordFault _ _).trans (takeIfWaiting _))))

theorem stagingResponse (second : Bool) (i use : Nat) (status : Status) (data : Word) :
    Silent s (s.stagingResponse second i use status data) := by
  unfold State.stagingResponse
  split
  · exact .refl s
  · refine ite _ (fun _ => ite _ (fun _ => ?_) fun _ => ite _ (fun _ => sourceFault s _ _) fun _ => ?_) fun _ => .refl s
    · apply update <;> rfl
    · apply update <;> rfl

theorem queueSeg : Silent s s.queueSeg := by
  unfold State.queueSeg
  refine ite _ (fun room => ?_) fun _ => .refl s
  split
  · exact .refl s
  · split
    · exact .refl s
    · simp only [Bool.and_eq_true] at room
      exact (enqueue s _ room.1.1.2).trans ((changeSeg _ _ _).trans (Silent.trans (by apply update <;> rfl) (takeIfWaiting _)))

/-! ### The apply and fill units -/

theorem beginRecords (limit : Nat) (rs : List MirrorRecord) (s : State) : Silent s (s.beginRecords limit rs) := by
  induction rs generalizing s with
  | nil => exact take s _ id rfl
  | cons r rs ih =>
    refine ite _ (fun _ => ih s) fun _ => ite _ (fun _ => ?_) fun _ => (verifyFailed s _ _).trans (ih _)
    apply update <;> rfl

theorem beginSeg (n : Segment) (words : Vector Word 64) : Silent s (s.beginSeg n words) :=
  ite _ (fun _ => by apply update <;> rfl) fun _ => verifyFailed s n _

theorem failInFinal (f : SeqFrame) : Silent s (s.failInFinal f) := by
  cases f with
  | seg n ws => exact verifyFailed s _ _
  | mir rs => exact foldl _ (fun s r => verifyFailed s _ _) rs s
  | _ => exact .refl s

/-- The head's slot is freed (R92). -/
theorem completeHead : Silent s s.completeHead := by
  unfold State.completeHead
  split
  · exact .refl s
  · next q f rest buffer =>
    refine (take s { s.take with buffer := rest, ackSeq := some q, freed := s.take.freed + 1, apply := none } ?_ rfl).trans
      (by apply update <;> rfl)
    rw [buffer]
    exact Nat.le_of_succ_le

theorem beginFrame (f : SeqFrame) : Silent s (s.beginFrame f) := by
  cases f with
  | seg n ws => exact beginSeg s _ ws
  | mir rs => exact beginRecords _ rs s
  | instep => exact (setState s _).trans (raise _ _)
  | stale => exact (setState s _).trans (raise _ _)
  | handover => exact setState s _

theorem beginApply (n : Nat) (s : State) : Silent s (s.beginApply n) := by
  induction n generalizing s with
  | zero => exact .refl s
  | succ n ih =>
    unfold State.beginApply
    refine ite _ (fun _ => .refl s) fun _ => ?_
    split
    · exact .refl s
    · next f _ _ =>
      refine ite _ (fun _ => (beginFrame s f).trans (ite _ (fun _ => .refl _) fun _ => (completeHead _).trans (ih _))) fun _ => ?_
      exact ite _ (fun _ => (failInFinal s f).trans ((completeHead _).trans (ih _))) fun _ => .refl s

theorem applyOn : Silent s s.applyOn := beginApply _ s

theorem applyOutcome (a : ApplyWork) (ok : Bool) : Silent s (s.applyOutcome a ok) := by
  cases ok with
  | false => exact verifyFailed s _ _
  | true =>
    unfold State.applyOutcome
    cases a.kind with
    | seg => exact clearFault s _
    | _ => exact .refl s

theorem endApply (a : ApplyWork) (ok : Bool) : Silent s (s.endApply a ok) :=
  (applyOutcome s a ok).trans ((beginRecords _ _ _).trans (ite _ (fun _ => .refl _) fun _ => (completeHead _).trans (applyOn _)))

theorem applyResponse (use : Nat) (status : Status) (data : Word) : Silent s (s.applyResponse use status data) := by
  unfold State.applyResponse
  split
  · exact .refl s
  · next a _ =>
    refine ite _ (fun _ => ?_) fun _ => .refl s
    split
    · exact take s _ id rfl
    · exact endApply s a true
    · exact endApply s a false

theorem fillsFinished : Silent s s.fillsFinished :=
  Silent.trans (by apply update <;> rfl) ((startNumberingTake _).trans (setState _ .receiving))

theorem fillFrom (place : Nat) : Silent s (s.fillFrom place) := by
  unfold State.fillFrom
  split
  · exact fillsFinished s
  · apply update <;> rfl

theorem endFill (f : FillWork) (ok : Bool) : Silent s (s.endFill f ok) :=
  (ite (u := s.verifyFailed f.segment .fill) _ (fun _ => clearFault s _) fun _ => verifyFailed s _ _).trans (fillFrom _ _)

theorem fillResponse (use : Nat) (status : Status) (data : Word) : Silent s (s.fillResponse use status data) := by
  unfold State.fillResponse
  split
  · exact .refl s
  · next f _ =>
    refine ite _ (fun _ => ?_) fun _ => .refl s
    split
    · exact take s _ id rfl
    · exact endFill s f true
    · exact endFill s f false

/-! ### The review and the freeze -/

theorem enterReplay : Silent s s.enterReplay :=
  (freeze s { s.freeze with timer := none } id id).trans ((setState _ .replay).trans (endReplay _))

theorem raiseAtAbandon : Silent s s.raiseAtAbandon := ite _ (fun _ => setThrottle s _) fun _ => .refl s

theorem abandonFreeze : Silent s s.abandonFreeze :=
  (freeze s { s.freeze with timer := none } id id).trans ((flushContinuing _).trans ((raiseAtAbandon _).trans ((setState _ .catchup).trans
    ((startPass _ _).trans (recordFault _ _)))))

theorem freezeExpired : Silent s s.freezeExpired := by
  unfold State.freezeExpired
  refine ite _ (fun _ => ?_) fun _ => .refl s
  split
  · exact .refl s
  · exact (advance s _).trans (abandonFreeze _)

end Silent

theorem Moves.actOnReview (s : State) (dec : Decision) : Moves s (s.actOnReview dec) := by
  cases dec
  case steady =>
    exact ((Silent.enterSteady s).trans ((Silent.tryInstep _).trans (.ite _ (fun _ => .enterHandover _) fun _ => .refl _))).toMoves
  case abandon => exact (Silent.recordFault s _).toMoves.trans (.endFeed _ _)
  case nextPass => exact ((Silent.setState s _).trans (.startPass _ _)).toMoves
  case none => exact (Silent.refl s).toMoves
  all_goals exact (Silent.enterFreeze s).toMoves

theorem Moves.runReview (s : State) : Moves s s.runReview :=
  (Silent.toMoves ((Silent.trans (by apply Silent.update <;> rfl) (.ite _ (fun _ => .setThrottle _ _) fun _ => .refl _)))).trans
    ((actOnReview _ _).trans (Silent.raise _ _).toMoves)

theorem Moves.endPass (s : State) : Moves s s.endPass := .ite _ (fun _ => runReview s) fun _ => (Silent.refl s).toMoves

theorem Moves.handoverExpired (s : State) : Moves s s.handoverExpired := by
  unfold State.handoverExpired
  refine .ite _ (fun _ => ?_) fun _ => (Silent.refl s).toMoves
  split
  · exact (Silent.refl s).toMoves
  · exact ((Silent.advance s _).trans (.recordFault _ _)).toMoves.trans (endFeed _ _)

/-! ### The transmitter (R78) -/

theorem Moves.send (s : State) (f : TxFrame) : Moves s (s.send f) := { Silent.refl s with }

/-- A frame that is due is sent, and is due no more. -/
theorem Moves.sendDue (s : State) (f : TxFrame) (l : Link) (rewound : Option Seq) :
    Moves s (({ s with link := l, feed := { s.feed with rewound := rewound } } : State).send f) :=
  (Silent.toMoves (by apply Silent.update <;> rfl)).trans (send _ f)

/-- The head of the queue is sent while a credit is free: it leaves the queue, and the window and the credits in use rise by 1 (R78, R79). -/
theorem Moves.sendHead {s : State} (ready : s.headReady = true) : Moves s s.sendHead := by
  obtain ⟨-, -, -, some_head, free⟩ := s.headReady_iff.1 ready
  obtain ⟨f, rest, queue⟩ := List.exists_cons_of_ne_nil some_head
  have taken : Silent s { s with
      feed := { s.feed with queue := rest, window := s.feed.window ++ [(s.feed.nextNumber, f)], nextNumber := s.feed.nextNumber + 1,
                            sentTotal := s.feed.sentTotal + 1 } } := by
    refine .feed s _ (fun h => ?_) fun fits => ?_
    · rw [queue] at h
      exact Nat.le_of_succ_le h
    · obtain ⟨counted, -⟩ := fits
      simp only [Feed.credits, Config.receiveSlots, List.length_append, List.length_singleton] at counted ⊢
      bv_omega
  have enable : (if (stepOf f).isSome then s.notices.set .step (raised s.report.generation) else s.notices).enable
      = s.notices.enable := by split <;> simp
  rw [State.sendHead_eq queue]
  exact { taken with enable }

theorem Moves.transmitFeed (s : State) : Moves s s.transmitFeed :=
  .ite _ (fun _ => sendDue s _ s.link _) fun _ => .ite _ (fun _ => sendDue s _ _ s.feed.rewound) fun _ =>
    .ite _ (fun _ => sendDue s _ _ s.feed.rewound) fun _ => .ite _ (fun _ => sendDue s _ _ s.feed.rewound) fun _ =>
    .ite _ sendHead fun _ => .ite _ (fun _ => send s _) fun _ => (Silent.refl s).toMoves

theorem Moves.transmitTake (s : State) : Moves s s.transmitTake := by
  unfold State.transmitTake State.sendReadyOrAck
  refine .ite _ (fun _ => sendDue s _ _ s.feed.rewound) fun _ => .ite _ (fun _ => sendDue s _ _ s.feed.rewound) fun _ =>
    .ite _ (fun _ => ?_) fun _ => (Silent.refl s).toMoves
  split
  · exact sendDue s _ _ s.feed.rewound
  · exact .ite _ (fun _ => sendDue s _ _ s.feed.rewound) fun _ => .ite _ (fun _ => sendDue s _ _ s.feed.rewound) fun _ =>
      (Silent.refl s).toMoves

theorem Moves.transmit (s : State) : Moves s s.transmit :=
  .ite _ (fun _ => transmitFeed s) fun _ => .ite _ (fun _ => transmitTake s) fun _ => (Silent.refl s).toMoves

end Sys2Proof.Machine
end

section
/-! PROOFS. The timers, the chassis lines and the arriving frames keep the frame and the lists. -/

namespace Sys2Proof.Machine

open Sys2Proof

variable {s t u : State}

namespace Silent

variable (s)

/-! ### Timers -/

/-- The clock is carried to an interval's end, and the link marks what is due. -/
theorem tick (c : Prop) [Decidable c] (n : Nat) (l : Link → Link) :
    Silent s (if c then { s.advance n with link := l (s.advance n).link } else s) :=
  ite _ (fun _ => (advance s n).trans (by apply update <;> rfl)) fun _ => .refl s

theorem trainTick : Silent s s.trainTick :=
  tick s _ _ fun l => { l with trainTimer := 0, trainDue := (s.advance (Config.ticks10us - s.link.trainTimer)).chassis.peerFiltered }

theorem greetTick : Silent s s.greetTick := tick s _ _ fun l => { l with greetTimer := 0, greetDue := true }
theorem layoutTick : Silent s s.layoutTick := tick s _ _ fun l => { l with layoutTimer := 0, layoutDue := true }
theorem rewindTick : Silent s s.rewindTick := tick s _ _ fun l => { l with rewindTimer := 0, rewindDue := true }
theorem keepAlive : Silent s s.keepAlive := (advance s _).trans (by apply update <;> rfl)

theorem silenceExpired : Silent s s.silenceExpired := ite _ (fun _ => (advance s _).trans (loseLink _)) fun _ => .refl s

theorem bringupExpired : Silent s s.bringupExpired := by
  unfold State.bringupExpired
  split
  · exact .refl s
  · exact (advance s _).trans ((recordFault _ _).trans (endSession_none _))

theorem feedHoldExpired : Silent s s.feedHoldExpired := by
  unfold State.feedHoldExpired
  refine ite _ (fun _ => ?_) fun _ => .refl s
  split
  · exact .refl s
  · exact (advance s _).trans ((recordFault _ _).trans (endFeed_none _))

theorem takeHoldExpired : Silent s s.takeHoldExpired := by
  unfold State.takeHoldExpired
  refine ite _ (fun _ => ?_) fun _ => .refl s
  split
  · exact .refl s
  · exact (advance s _).trans ((recordFault _ _).trans (enterDetached _))

theorem spacingPassed : Silent s s.spacingPassed := by
  unfold State.spacingPassed
  refine ite _ (fun _ => ?_) fun _ => .refl s
  split
  · exact .refl s
  · exact (advance s _).trans (reexamine _)

/-! ### Lines (R145) -/

theorem changePeer (level : Bool) : Silent s (s.changePeer level) :=
  ite _ (fun _ => by apply update <;> rfl) fun _ => .refl s

theorem peerHeldOut : Silent s s.peerHeldOut := ite _ (fun _ => (advance s _).trans (filterPeer _)) fun _ => .refl s

theorem setEject (level : Bool) : Silent s (s.setEject level) :=
  Silent.trans (by apply update <;> rfl) (ite _ (fun _ => raise _ _) fun _ => .refl { s with chassis := _ })

theorem takeEnLift : Silent s s.takeEnLift :=
  ite _ (fun _ => Silent.trans (by apply update <;> rfl) (ite _ (fun _ => raise _ _) fun _ => .refl (s.setTakeEn true))) fun _ =>
    .refl s

/-! ### Arriving frames -/

theorem feedReceives (f : State → State) (hf : Silent s (f s)) : Silent s (s.feedReceives f) :=
  ite _ (fun _ => .refl s) fun _ => ite _ (fun _ => discardFrame s) fun _ => ite _ (fun _ => hf) fun _ => .refl s

theorem takeReceives (f : State → State) (hf : Silent s (f s)) : Silent s (s.takeReceives f) :=
  ite _ (fun _ => .refl s) fun _ => ite _ (fun _ => discardFrame s) fun _ => ite _ (fun _ => hf) fun _ => .refl s

theorem handled (f : State → State) (hf : ∀ u, Silent u (f u)) : Silent s (s.handled f) :=
  ite _ (fun _ => (heard s).trans (hf _)) fun _ => .refl s

theorem trainOn (lane : BitVec 2) : Silent s (s.trainOn lane) := by
  rw [State.trainOn_eq]
  apply update <;> rfl

theorem oppositeTrain (lane : BitVec 2) : Silent s (s.oppositeTrain lane) := by
  unfold State.oppositeTrain
  split
  · exact .refl s
  · exact trainOn s lane
  · exact ite _ (fun _ => (loseLink s).trans (trainOn _ lane)) fun _ => by apply update <;> rfl

theorem trainArrives (lane : BitVec 2) (role : LinkRole) (slot : BitVec 1) : Silent s (s.trainArrives lane role slot) :=
  ite _ (fun _ => .refl s) fun _ => ite _ (fun _ => discardFrame s) fun _ => ite _ (fun _ => .refl s) fun _ =>
    ite _ (fun _ => (recordFault s _).trans (endSession_none _)) fun _ => oppositeTrain s lane

theorem giveVerdict (v : Verdict) (id : BitVec 16) (size : BitVec 2) : Silent s (s.giveVerdict v id size) := by
  cases v with
  | new => exact Silent.trans (by apply update <;> rfl) (setState _ .bringup)
  | resumed => exact Silent.trans (by apply update <;> rfl) ((startNumberingTake _).trans (setState _ .receiving))
  | refused => exact .refl s

theorem answerGreet (kind : GreetKind) (id : BitVec 16) (size : BitVec 2) : Silent s (s.answerGreet kind id size) := by
  unfold State.answerGreet
  split
  · apply update <;> rfl
  · exact (giveVerdict s _ _ _).trans (by apply update <;> rfl)

theorem greetArrives (kind : GreetKind) (id : BitVec 16) (size : BitVec 2) (slot : BitVec 1) :
    Silent s (s.greetArrives kind id size slot) :=
  ite _ (fun _ => discardFrame s) fun _ => handled s _ fun u => answerGreet u kind id size

theorem echoNew : Silent s s.echoNew := Silent.trans (by apply update <;> rfl) (setState _ .install)

theorem echoResumed : Silent s s.echoResumed := by
  have stopped : Silent s s.stopGreeting := by apply update <;> rfl
  exact stopped.trans ((startNumberingFeed _).trans ((unsentToDirty _).trans (Silent.trans (by apply update <;> rfl)
    ((setState _ .catchup).trans (startPass _ 1)))))

theorem firstEcho (v : Verdict) : Silent s (s.firstEcho v) := by
  unfold State.firstEcho
  split
  · exact echoNew s
  · exact ite _ (fun _ => echoNew s) fun _ => .refl s
  · exact ite _ (fun _ => echoResumed s) fun _ => .refl s
  · exact (recordFault s _).trans (endFeed_none _)
  · exact (recordFault s _).trans (endFeed_none _)
  · exact .refl s

theorem echoArrives (id : BitVec 16) (v : Verdict) : Silent s (s.echoArrives id v) :=
  ite _ (fun _ => discardFrame s) fun _ => handled s _ fun u => ite _ (fun _ => firstEcho u v) fun _ => .refl u

theorem readyAtFeed : Silent s s.readyAtFeed :=
  ite _ (fun _ => (startNumberingFeed s).trans ((setState _ .sweep).trans (startPass _ 1))) fun _ => .refl s

/-- A frame is accepted into a free slot (R82). -/
theorem acceptSeq (q : Seq) (f : SeqFrame) (room : s.take.buffer.length < Config.receiveSlots) : Silent s (s.acceptSeq q f) := by
  have accepted := take s.heard { s.heard.take with buffer := s.heard.take.buffer ++ [(q, f)], expected := s.heard.take.expected + 1 }
    (fun _ => by simpa using room) rfl
  exact (heard s).trans (accepted.trans (applyOn _))

theorem seqArrives (q : Seq) (f : SeqFrame) : Silent s (s.seqArrives q f) := by
  refine ite _ (fun accepted => acceptSeq s q f ?_) fun _ => discardFrame s
  simp only [State.acceptsSeq, Bool.and_eq_true, decide_eq_true_eq] at accepted
  exact accepted.2.2

theorem rewoundAtTake (e : Seq) : Silent s (s.rewoundAtTake e) :=
  ite _ (fun _ => ite _ (fun _ => ite _ (fun _ => by apply update <;> rfl) fun _ => .refl s) fun _ => loseLink s) fun _ => .refl s

theorem closeAtFeed (r : CloseReason) : Silent s (s.closeAtFeed r) :=
  (ite (u := s.recordFault .closedByPeer) _ (fun _ => .refl s) fun _ => recordFault s _).trans (endFeed_none _)

theorem closeAtTake (r : CloseReason) : Silent s (s.closeAtTake r) :=
  ite _ (fun _ => retrain s) fun _ => (enterDetached s).trans
    ((ite (u := s.enterDetached) _ (fun _ => recordFault _ _) fun _ => .refl _).trans (retrain _))

theorem closeArrives (r : CloseReason) : Silent s (s.closeArrives r) :=
  ite _ (fun _ => .refl s) fun _ =>
    ite _ (fun _ => ite _ (fun _ => handled s _ fun u => closeAtFeed u r) fun _ => discardFrame s) fun _ =>
    ite _ (fun _ => ite _ (fun _ => handled s _ fun u => closeAtTake u r) fun _ => discardFrame s) fun _ => .refl s

end Silent

/-! ### The frames that may end a session with a CLOSE -/

namespace Moves

variable (s)

theorem feedReceives (f : State → State) (hf : Moves s (f s)) : Moves s (s.feedReceives f) :=
  ite _ (fun _ => (Silent.refl s).toMoves) fun _ => ite _ (fun _ => (Silent.discardFrame s).toMoves) fun _ =>
    ite _ (fun _ => hf) fun _ => (Silent.refl s).toMoves

theorem handled (f : State → State) (hf : ∀ u, Moves u (f u)) : Moves s (s.handled f) :=
  ite _ (fun _ => (Silent.heard s).toMoves.trans (hf _)) fun _ => (Silent.refl s).toMoves

theorem rewindAtFeed (e : Seq) : Moves s (s.rewindAtFeed e) :=
  ite _ (fun _ => ite _ (fun _ => (Silent.withdrawFrom s _ e).toMoves) fun _ => ite _ (fun _ => Silent.toMoves (by
    apply Silent.update <;> rfl)) fun _ => (Silent.recordFault s _).toMoves.trans (endFeed _ _)) fun _ => (Silent.refl s).toMoves

theorem ejectRise : Moves s s.ejectRise := by
  refine ite _ (fun _ => (Silent.setEject s true).toMoves.trans (ite _ (fun _ => ?_) fun _ => (Silent.refl _).toMoves)) fun _ =>
    (Silent.refl s).toMoves
  exact ite _ (fun _ => endTake _ _) fun _ => (Silent.requestHandover _).toMoves

end Moves

/-! ### The ACK (R79, R80) -/

/-- The figures of an ACK, and its freed total, are the feed's own. -/
theorem Kept.keepFigures (s : State) (freed : BitVec 8) (fails : BitVec 16) (st : SessState) : Kept s (s.keepFigures freed fails st) := by
  have raised : Kept s (if s.feed.peerFail = fails.toNat then s else s.raise .fault) :=
    (Silent.ite _ (fun _ => .refl s) fun _ => .raise s _).toKept
  exact { raised with }

theorem Kept.takeAck (s : State) (n : Nat) (freed : BitVec 8) (fails : BitVec 16) (st : SessState) :
    Kept s (s.takeAck n freed fails st) := by
  have figures := (Silent.retire s n).toKept.trans (keepFigures _ freed fails st)
  unfold State.takeAck
  dsimp only
  split
  · exact figures.trans (Moves.endFeed _ _).toKept
  · split
    · exact figures.trans (Silent.loseLink _).toKept
    · exact figures

theorem Kept.ackAtFeed (s : State) (k : Option Seq) (freed : BitVec 8) (fails : BitVec 16) (st : SessState) :
    Kept s (s.ackAtFeed k freed fails st) := by
  unfold State.ackAtFeed
  split
  · split
    · exact (Silent.loseLink s).toKept
    · exact takeAck s 0 freed fails st
    · exact takeAck s _ freed fails st
  · exact (Silent.refl s).toKept

/-- The lists after an ACK whose freed total leaves the frames that it does not retire counted. -/
theorem Within.takeAck (s : State) (n : Nat) (freed : BitVec 8) (fails : BitVec 16) (st : SessState)
    (counted : s.feed.window.length - n ≤ (s.feed.sentTotal - freed).toNat)
    (given : (s.feed.sentTotal - freed).toNat ≤ s.feed.credits) : Within s (s.takeAck n freed fails st) := by
  have figures : Within s ((s.retire n).keepFigures freed fails st) := by
    rw [State.acked_eq]
    refine { Within.of_eq (s := s) (t := s) rfl rfl rfl rfl rfl rfl rfl with window := fun fits => ⟨?_, given.trans fits.2⟩ }
    exact List.length_drop.le.trans counted
  unfold State.takeAck
  dsimp only
  split
  · exact figures.trans (Moves.endFeed _ _).toWithin
  · split
    · exact figures.trans (Silent.loseLink _).toWithin
    · exact figures

/-- The lists after an ACK that agrees with the frames it retires (R79, R80). -/
theorem Within.ackAtFeed (s : State) (k : Option Seq) (freed : BitVec 8) (fails : BitVec 16) (st : SessState)
    (agrees : s.ackAgrees k freed) : Within s (s.ackAtFeed k freed fails st) := by
  obtain ⟨counted, given⟩ := agrees
  unfold State.ackAtFeed
  split
  · split
    · exact (Silent.loseLink s).toWithin
    · next case => simp only [case] at counted; exact takeAck s 0 freed fails st counted given
    · next n case => simp only [case] at counted; exact takeAck s n freed fails st counted given
  · exact (Silent.refl s).toWithin

end Sys2Proof.Machine
end

section
/-! PROOFS. The arbiter's choice (R14, R15). -/

namespace Sys2Proof.Machine

open Sys2Proof

variable (s : State)

/-! ### The first of the highest level -/

/-- Requester `r` is chosen before `q`: its level is higher, or the levels are equal and it stands first in the order of R14. -/
def Settings.ahead (c : Settings) (r q : Requester) : Prop :=
  c.level q < c.level r ∨ (c.level q = c.level r ∧ Requester.order.idxOf r < Requester.order.idxOf q)

/-- Of two requesters at most one is ahead of the other. -/
theorem Settings.ahead_asymm {c : Settings} {r q : Requester} (h : c.ahead r q) : ¬ c.ahead q r := by
  unfold Settings.ahead at *
  omega

/-- The order of R14 lists each requester behind those before it. -/
theorem order_pairwise : Requester.order.Pairwise fun r q => Requester.order.idxOf r < Requester.order.idxOf q := by decide

theorem mem_order (r : Requester) : r ∈ Requester.order := by cases r <;> decide

/-- Nobody is the top of an empty list alone. -/
theorem topOf_eq_none {c : Settings} {rs : List Requester} : topOf c rs = none ↔ rs = [] := by
  cases rs with
  | nil => exact iff_of_true rfl rfl
  | cons r rs =>
    refine iff_of_false (fun none => ?_) (List.cons_ne_nil r rs)
    rw [topOf] at none
    split at none
    · cases none
    · split at none <;> cases none

theorem topOf_mem {c : Settings} {rs : List Requester} {r : Requester} (top : topOf c rs = some r) : r ∈ rs := by
  induction rs with
  | nil => cases top
  | cons x rs ih =>
    rw [topOf] at top
    split at top
    · cases top; exact List.mem_cons_self
    · next q rest =>
      split at top
      · cases top; exact List.mem_cons_of_mem x (ih rest)
      · cases top; exact List.mem_cons_self

/-- In a list that keeps the order of R14 the top is ahead of every other. -/
theorem topOf_ahead {c : Settings} {rs : List Requester} {r : Requester}
    (ordered : rs.Pairwise fun r q => Requester.order.idxOf r < Requester.order.idxOf q) (top : topOf c rs = some r) :
    ∀ q ∈ rs, q ≠ r → c.ahead r q := by
  induction rs generalizing r with
  | nil => cases top
  | cons x rs ih =>
    obtain ⟨first, ordered⟩ := List.pairwise_cons.1 ordered
    intro q hq other
    rw [topOf] at top
    split at top
    · next none =>
      cases top
      rw [topOf_eq_none.1 none] at hq
      exact absurd (List.mem_singleton.1 hq) other
    · next y rest =>
      have best := ih ordered rest
      unfold Settings.ahead at best ⊢
      split at top
      · next lower =>
        cases top
        obtain rfl | inRest := List.mem_cons.1 hq
        · exact .inl lower
        · exact best q inRest other
      · next higher =>
        cases top
        have inRest := (List.mem_cons.1 hq).resolve_left other
        have before := first q inRest
        by_cases same : q = y
        · subst same; omega
        · have := best q inRest same; omega

/-- The top of those with a property is the one of them that is ahead of all others. -/
theorem topOf_filter_eq_some {c : Settings} {p : Requester → Bool} {r : Requester} :
    topOf c (Requester.order.filter fun q => p q) = some r ↔ p r = true ∧ ∀ q, p q = true → q ≠ r → c.ahead r q := by
  have ordered := order_pairwise.sublist (List.filter_sublist (p := fun q => p q))
  have listed (q : Requester) : q ∈ Requester.order.filter (fun q => p q) ↔ p q = true := by simp [mem_order]
  constructor
  · exact fun top => ⟨(listed r).1 (topOf_mem top), fun q hq => topOf_ahead ordered top q ((listed q).2 hq)⟩
  · rintro ⟨hr, best⟩
    cases top : topOf c (Requester.order.filter fun q => p q) with
    | none => exact absurd ((listed r).2 hr) (by simp [topOf_eq_none.1 top])
    | some x =>
      by_cases same : x = r
      · rw [same]
      · have ahead := topOf_ahead ordered top r ((listed r).2 hr) (Ne.symm same)
        exact absurd (best x ((listed x).1 (topOf_mem top)) same) (Settings.ahead_asymm ahead)

theorem topOf_filter_eq_none {c : Settings} {p : Requester → Bool} :
    topOf c (Requester.order.filter fun q => p q) = none ↔ ∀ q, p q = false := by
  simp [topOf_eq_none, List.filter_eq_nil_iff, mem_order]

/-! ### The winner (R14, R15) -/

/-- A requester owed the next grant wins where it is ahead of all others that are owed. -/
theorem State.winner_eq_owed {r : Requester} :
    s.winner = some (.owed r) ↔ s.owed r = true ∧ ∀ q, s.owed q = true → q ≠ r → s.settings.ahead r q := by
  rw [← topOf_filter_eq_some (p := s.owed)]
  unfold State.winner
  split
  · next top => simp [top]
  · next none =>
    rw [none]
    refine iff_of_false (fun owed => ?_) (by simp)
    repeat' split at owed
    all_goals cases owed

/-- With one owed the grant goes to an owed one. -/
theorem State.winner_of_owed (h : ∃ q, s.owed q = true) : ∃ r, s.winner = some (.owed r) := by
  unfold State.winner
  split
  · exact ⟨_, rfl⟩
  · next none =>
    obtain ⟨q, owed⟩ := h
    rw [topOf_filter_eq_none.1 none q] at owed
    cases owed

/-- With none owed the choice is R14's. -/
theorem State.winner_of_none_owed (h : ∀ q, s.owed q = false) : s.winner =
    match topOf s.settings (Requester.order.filter fun r => s.waits r) with
    | some r => if s.upstreamWaits && decide (s.settings.level r ≤ 3) then some .upstream else some (.byLevel r)
    | none => if s.upstreamWaits then some .upstream else none := by
  unfold State.winner
  rw [topOf_filter_eq_none.2 h] <;> rfl

/-- The level of the top is the highest. -/
theorem topOf_level {c : Settings} {p : Requester → Bool} {r : Requester}
    (top : topOf c (Requester.order.filter fun q => p q) = some r) (q : Requester) (hq : p q = true) : c.level q ≤ c.level r := by
  by_cases same : q = r
  · rw [same]
  · obtain lower | ⟨equal, -⟩ := (topOf_filter_eq_some.1 top).2 q hq same
    · exact lower.le
    · exact equal.le

section NoneOwed

variable {s} (h : ∀ q, s.owed q = false)
include h

theorem State.winner_eq_none : s.winner = none ↔ s.upstreamWaits = false ∧ ∀ q, s.waits q = false := by
  rw [s.winner_of_none_owed h]
  split
  · next r top =>
    refine iff_of_false (by split <;> simp) fun nobody => ?_
    have := (topOf_filter_eq_some.1 top).1
    rw [nobody.2 r] at this
    cases this
  · next none => simp [topOf_filter_eq_none.1 none]

theorem State.winner_eq_upstream :
    s.winner = some .upstream ↔ s.upstreamWaits = true ∧ ∀ q, s.waits q = true → s.settings.level q ≤ 3 := by
  rw [s.winner_of_none_owed h]
  split
  · next r top =>
    have waits := (topOf_filter_eq_some.1 top).1
    by_cases low : s.settings.level r ≤ 3
    · have all : ∀ q, s.waits q = true → s.settings.level q ≤ 3 := fun q hq => (topOf_level top q hq).trans low
      cases up : s.upstreamWaits
      · simp [low]
      · simpa [low] using all
    · refine iff_of_false (by simp [low]) fun ⟨_, all⟩ => low (all r waits)
  · next none => simp [topOf_filter_eq_none.1 none]

theorem State.winner_eq_byLevel (r : Requester) : s.winner = some (.byLevel r) ↔
    s.waits r = true ∧ (s.upstreamWaits = true → 4 ≤ s.settings.level r) ∧ ∀ q, s.waits q = true → q ≠ r → s.settings.ahead r q := by
  have chosen : s.winner = some (.byLevel r) ↔ topOf s.settings (Requester.order.filter fun r => s.waits r) = some r
      ∧ (s.upstreamWaits = true → 4 ≤ s.settings.level r) := by
    rw [s.winner_of_none_owed h]
    split
    · next x top =>
      cases up : s.upstreamWaits
      · simp [top]
      · by_cases low : s.settings.level x ≤ 3
        · simp only [top, low, Bool.true_and, decide_true, if_true, Option.some.injEq, reduceCtorEq, false_iff, not_and]
          rintro rfl
          simpa using Nat.lt_succ_of_le low
        · simp only [top, low, Bool.true_and, decide_false, Bool.false_eq_true, if_false, Option.some.injEq, Winner.byLevel.injEq,
            forall_const]
          exact ⟨fun same => ⟨same, by subst same; omega⟩, And.left⟩
    · next none => simp [none]
  rw [chosen, topOf_filter_eq_some]
  tauto

theorem State.winner_ne_owed (r : Requester) : s.winner ≠ some (.owed r) := by
  rw [Ne, State.winner_eq_owed, h r]
  simp

end NoneOwed

/-! ### A winner waits -/

/-- A part requester that wins waits. -/
theorem State.waits_of_winner {s : State} {r : Requester} (h : s.winner = some (.owed r) ∨ s.winner = some (.byLevel r)) :
    s.waits r = true := by
  obtain owed | level := h
  · have owed := (s.winner_eq_owed.1 owed).1
    simp only [State.owed, Bool.and_eq_true] at owed
    exact owed.1.1
  · by_cases some_owed : ∃ q, s.owed q = true
    · obtain ⟨q, other⟩ := s.winner_of_owed some_owed
      rw [other] at level
      cases level
    · exact ((State.winner_eq_byLevel (by simpa using some_owed) r).1 level).1

/-- When UPSTREAM wins, a stream's candidate is ready. -/
theorem State.upstreamWaits_of_winner {s : State} (h : s.winner = some .upstream) : s.upstreamWaits = true := by
  by_cases some_owed : ∃ q, s.owed q = true
  · obtain ⟨q, other⟩ := s.winner_of_owed some_owed
    rw [other] at h
    cases h
  · exact ((State.winner_eq_upstream (by simpa using some_owed)).1 h).1

/-- A requester that waits offers a request, and a read only with room in the return list (R12). -/
theorem State.offer_of_waits {s : State} {r : Requester} (h : s.waits r = true) :
    ∃ q, s.offer r = some q ∧ ∀ a, q = .read a → s.path.returns.length < Config.returnPlaces := by
  unfold State.waits State.isReady at h
  cases offer : s.offer r with
  | none => simp [offer] at h
  | some q =>
    refine ⟨q, rfl, fun a read => ?_⟩
    simpa [offer, read, State.ready, State.returnRoom] using h

end Sys2Proof.Machine
end

section
/-! PROOFS. What the directives leave alone, by kind, and the CLOSE that leaves as a session ends. -/

namespace Sys2Proof.Machine

open Sys2Proof

variable {s t u : State}

/-! ### The wait runs and the settings (R15) -/

/-- From `s` to `u` the wait runs stay as long as the settings do, and are reset where the yield count or a level changes. -/
structure Yields (s u : State) : Prop where
  same : u.settings = s.settings → u.path.waitRuns = s.path.waitRuns
  runs : u.path.waitRuns = .reset ∨ (u.path.waitRuns = s.path.waitRuns ∧ u.settings.yieldCount = s.settings.yieldCount
    ∧ ∀ r, u.settings.level r = s.settings.level r)

theorem Kept.yields (h : Kept s u) : Yields s u where
  same := fun _ => h.waitRuns
  runs := .inr ⟨h.waitRuns, by rw [h.settings], fun r => by rw [h.settings]⟩

/-- Settings that agree in yield count and levels agree in every level. -/
theorem Settings.level_of_sameArbiter {a b : Settings} (h : a.sameArbiter b = true) :
    b.yieldCount = a.yieldCount ∧ ∀ r, b.level r = a.level r := by
  simp only [Settings.sameArbiter, Bool.and_eq_true, beq_iff_eq] at h
  obtain ⟨⟨⟨⟨⟨yield, walk⟩, fill⟩, apply⟩, replay⟩, report⟩ := h
  refine ⟨yield.symm, fun r => ?_⟩
  cases r <;> simp [Settings.level, *]

/-! ### What a directive leaves alone -/

/-- What a directive of kind `k` leaves alone: the blocks that only SETUP, REGION, TAKE and NOTICES write, each for every other kind, and
what no directive writes. -/
structure Obeys (k : DirKind) (s u : State) : Prop extends SameCore s u, Within s u where
  returns : u.path.returns = s.path.returns
  lookup : u.path.lookup = s.path.lookup
  maint : u.path.maint = s.path.maint
  report : u.report = s.report
  mem : u.out.mem = s.out.mem
  settings : k ≠ .setup → u.settings = s.settings
  regions : k ≠ .region → u.regions = s.regions
  interrupted : k ≠ .take → u.take.interrupted = s.take.interrupted
  enable : k ≠ .notices → u.notices.enable = s.notices.enable
  yields : Yields s u

/-- An operation that keeps the whole frame is like any directive. -/
theorem Obeys.of_moves (k : DirKind) (h : Moves s u) (maint : u.path.maint = s.path.maint) : Obeys k s u :=
  { h with maint, settings := fun _ => h.settings, regions := fun _ => h.regions, interrupted := fun _ => h.interrupted
           enable := fun _ => h.enable, yields := h.yields }

/-- What follows a directive's effect and keeps the frame changes nothing of it. -/
theorem Obeys.then {k : DirKind} (h : Obeys k s t) (h' : Moves t u) (maint : u.path.maint = t.path.maint) : Obeys k s u :=
  { h.toSameCore.trans h'.toSameCore, h.toWithin.trans h'.toWithin with
    returns := h'.returns.trans h.returns
    lookup := h'.lookup.trans h.lookup
    maint := maint.trans h.maint
    report := h'.report.trans h.report
    mem := h'.mem.trans h.mem
    settings := fun other => h'.settings.trans (h.settings other)
    regions := fun other => h'.regions.trans (h.regions other)
    interrupted := fun other => h'.interrupted.trans (h.interrupted other)
    enable := fun other => h'.enable.trans (h.enable other)
    yields := {
      same := fun same => h'.waitRuns.trans (h.yields.same (h'.settings.symm.trans same))
      runs := by rw [h'.waitRuns, h'.settings]; exact h.yields.runs } }

@[simp] theorem State.loseLink_path (s : State) : s.loseLink.path = s.path := by
  unfold State.loseLink
  split
  · split
    · rw [State.loseLinkFeed_eq_blocks]
    · split
      · obtain same | held | dropped := s.loseLinkTake_cases
        · simp [same]
        · simp [held]
        · simp [dropped]
      · rfl
  · rfl

@[simp] theorem State.filterPeer_path (s : State) : s.filterPeer.path = s.path := by
  unfold State.filterPeer
  dsimp only
  split
  · exact State.loseLink_path _
  · rfl

/-- SETUP replaces the settings, with the wait runs where the arbiter's change, and may then take the peer's level (R15, R170). -/
theorem Obeys.doSetup (s : State) : Obeys .setup s s.doSetup := by
  let c := setupSettings (s.directive.word 1) (s.directive.word 2)
  let v : State := { s with settings := c, path := if s.settings.sameArbiter c then s.path else { s.path with waitRuns := .reset } }
  have replaced : Obeys .setup s v := by
    by_cases same : s.settings.sameArbiter c = true
    · have path : v.path = s.path := if_pos same
      obtain ⟨yield, level⟩ := Settings.level_of_sameArbiter same
      exact { (Silent.refl s) with
        returns := by rw [path], lookup := by rw [path], maint := by rw [path], settings := fun h => absurd rfl h, regions := fun _ => rfl
        interrupted := fun _ => rfl, enable := fun _ => rfl
        yields := { same := fun _ => by rw [path], runs := .inr ⟨by rw [path], yield, level⟩ } }
    · have path : v.path = { s.path with waitRuns := .reset } := if_neg same
      exact { (Silent.refl s) with
        returns := by rw [path], lookup := by rw [path], maint := by rw [path], settings := fun h => absurd rfl h, regions := fun _ => rfl
        interrupted := fun _ => rfl, enable := fun _ => rfl
        yields := { same := fun equal => absurd (show s.settings.sameArbiter c = true by
          rw [show c = s.settings from equal]; simp [Settings.sameArbiter]) same
                    runs := .inl (by rw [path]) } }
  have level : Silent v s.doSetup := .ite _ (fun _ => .filterPeer v) fun _ => .refl v
  have kept : s.doSetup.path = v.path :=
    (apply_ite State.path _ v.filterPeer v).trans ((congrArg (ite _ · _) v.filterPeer_path).trans (ite_self _))
  exact replaced.then level.toMoves (by rw [kept])

theorem Obeys.doRegion (s : State) : Obeys .region s s.doRegion := by
  unfold State.doRegion
  split
  · exact .of_moves _ (Silent.refl s).toMoves rfl
  · exact { Silent.refl s with
      maint := rfl, settings := fun _ => rfl, regions := fun h => absurd rfl h, interrupted := fun _ => rfl, enable := fun _ => rfl
      yields := { same := fun _ => rfl, runs := .inr ⟨rfl, rfl, fun _ => rfl⟩ } }

/-- A session starts with an empty fault list (R108). -/
theorem Within.start (s : State) (feed : Feed) (faults : Faults) (take : Take) (queue : feed.queue = s.feed.queue)
    (window : feed.window = s.feed.window) (sentTotal : feed.sentTotal = s.feed.sentTotal)
    (freedTotal : feed.freedTotal = s.feed.freedTotal) (empty : faults.list = []) (buffer : take.buffer = s.take.buffer) :
    Within s { s with feed, faults, take } :=
  { Within.of_eq (s := s) (t := { s with feed, take }) queue buffer rfl rfl window sentTotal freedTotal with
    faults := fun _ => by simp [empty]
    faultsDistinct := fun _ => by simp [State.faultsDistinct, empty] }

theorem Moves.doFeed (s : State) : Moves s s.doFeed := by
  have started := Within.start s { s.feed with rewound := none, instepWaiting := false, peerFail := 0, peerState := none, rewinds := 0 }
    .start s.take rfl rfl rfl rfl rfl rfl
  let v : State := { s with
    map := SegMap.start s.regions
    link := s.link.start
    feed := { s.feed with rewound := none, instepWaiting := false, peerFail := 0, peerState := none, rewinds := 0 }
    faults := .start
    review := .reset
    session := { s.session with role := .feed, id := feedSession (s.directive.word 1), handoverPending := false,
                                stalePending := false, retiredStep := .stale, resumeKind := .fresh, hold := none } }
  have begun : Moves s v := { started, Silent.refl s with faults := started.faults, faultsDistinct := started.faultsDistinct }
  exact begun.trans (Silent.setState v .bringup).toMoves

theorem Obeys.doTake (s : State) : Obeys .take s s.doTake := by
  let k : Take := { s.take.inactive with failTotal := 0, rewinds := 0, interrupted := none, awaitingLayout := false }
  have started := Within.start s s.feed .start k rfl rfl rfl rfl rfl rfl
  let v : State := { s with
    path := { s.path with blocked := 0 }
    link := s.link.start
    take := k
    faults := .start
    session := { s.session with role := .take, id := 0, sizeClass := 0, hold := none, greeted := none, layoutInstalled := false } }
  have begun : Obeys .take s v :=
    { started, Silent.refl s with
      maint := rfl, settings := fun _ => rfl, regions := fun _ => rfl, interrupted := fun h => absurd rfl h, enable := fun _ => rfl
      yields := { same := fun _ => rfl, runs := .inr ⟨rfl, rfl, fun _ => rfl⟩ } }
  exact begun.then (Silent.setState v .bringup).toMoves (congrArg Path.maint (State.setState_path ..))

theorem Obeys.doDirective (k : DirKind) (s : State) : Obeys k s (s.doDirective k) := by
  cases k with
  | setup => exact .doSetup s
  | region => exact .doRegion s
  | feed => exact .of_moves _ (.doFeed s) (by simp [State.doDirective, State.doFeed])
  | take => exact .doTake s
  | handover => exact .of_moves _ (Silent.requestHandover s).toMoves (by simp [State.doDirective])
  | release => exact .of_moves _ (.endFeed s _) (by simp [State.doDirective])
  | abort => exact .of_moves _ (.endSession s _) (by simp [State.doDirective])
  | adopt => exact .of_moves _ (.endTake s _) (by simp [State.doDirective])
  | notices =>
    exact { Silent.refl s with
      maint := rfl, settings := fun _ => rfl, regions := fun _ => rfl, interrupted := fun _ => rfl, enable := fun h => absurd rfl h
      yields := { same := fun _ => rfl, runs := .inr ⟨rfl, rfl, fun _ => rfl⟩ } }
  | acknowledge =>
    exact { Silent.refl s with
      maint := rfl, settings := fun _ => rfl, regions := fun _ => rfl, interrupted := fun _ => rfl
      enable := fun _ => Notices.acknowledge_enable .., yields := { same := fun _ => rfl, runs := .inr ⟨rfl, rfl, fun _ => rfl⟩ } }
  | refresh => exact .of_moves _ (Silent.refl s).toMoves rfl

/-- The directive unit's own record is none of it. -/
theorem Obeys.of_directive {k : DirKind} {d : Directive} (h : Obeys k { s with directive := d } u) : Obeys k s u :=
  { h with yields := { h.yields with } }

theorem Obeys.obey (k : DirKind) (o : DirOutcome) (s : State) : Obeys k s (s.obey k o) := by
  unfold State.obey
  split
  · exact .doDirective k s
  · exact .of_moves _ (Silent.refl s).toMoves rfl

theorem Silent.finishDirective (s : State) (k : DirKind) : Silent s (s.finishDirective k) :=
  ite _ (fun _ => requestReport s) fun _ => raise s _

/-- A trigger of kind `k` that is handled. -/
theorem Obeys.handleTrigger (k : DirKind) (n : Byte) (s : State) : Obeys k s (s.handleTrigger n k.code) := by
  rw [State.handleTrigger_kind]
  have recorded : Obeys k s ((s.recordDirective n k.code (s.judge k.code)).obey k (s.judge k.code)) :=
    (Obeys.obey k _ (s.recordDirective n k.code (s.judge k.code))).of_directive
  refine recorded.then (Silent.finishDirective _ k).toMoves ?_
  rw [State.finishDirective_eq]

/-- The kind that a code names has that code. -/
theorem code_of_kindOfCode {code : Byte} {k : DirKind} (h : kindOfCode code = some k) : k.code = code := by
  simpa using List.find?_some h

/-- A trigger whose code names no kind is recorded, and DIRECTIVE is raised (R169). -/
theorem State.handleTrigger_unknown (n : Byte) {code : Byte} (h : kindOfCode code = none) (s : State) :
    s.handleTrigger n code = (s.recordDirective n code (s.judge code)).raise .directive := by
  simp [State.handleTrigger, h, State.recordDirective]

theorem Obeys.handleTrigger_unknown (k : DirKind) (n : Byte) {code : Byte} (h : kindOfCode code = none) (s : State) :
    Obeys k s (s.handleTrigger n code) := by
  rw [State.handleTrigger_unknown n h]
  exact (Obeys.of_moves k (Silent.raise (s.recordDirective n code (s.judge code)) .directive).toMoves rfl).of_directive

/-- A word snooped that is no trigger writes the directive unit alone. -/
theorem Obeys.of_directive_only (k : DirKind) (s : State) (d : Directive) : Obeys k s { s with directive := d } :=
  (Obeys.of_moves k (Silent.refl { s with directive := d }).toMoves rfl).of_directive

/-- The command that is a trigger of kind `k`. -/
theorem Obeys.trigger (k : DirKind) (n : Byte) (s : State) : Obeys k s (s.trigger n k.code) := by
  by_cases expected : n = s.directive.expected
  · rw [expected, State.trigger_expected]
    exact .handleTrigger k _ s
  · rw [State.trigger_of_ne s n _ expected]
    exact .of_directive_only k s _

/-- Whatever word of the slot is written, it is like the directive of some kind. -/
theorem Obeys.snoop (offset : Nat) (data : Word) (mask : Mask) (s : State) : ∃ k, Obeys k s (s.snoop offset data mask) := by
  unfold State.snoop
  split
  · unfold State.snoopTrigger
    split
    · cases kind : kindOfCode (byteOf data 2) with
      | none => exact ⟨.refresh, .handleTrigger_unknown _ _ kind s⟩
      | some k => exact ⟨k, code_of_kindOfCode kind ▸ .handleTrigger k _ s⟩
    · exact ⟨.refresh, .of_directive_only _ s _⟩
  · exact ⟨.refresh, .of_directive_only _ s _⟩

/-! ### The CLOSE at a session's end (R75; log 7) -/

/-- From `s` to `u` nothing is sent, or the one CLOSE of a session's end whose link was UP. -/
def Closes (s u : State) : Prop :=
  u.out.link = s.out.link
    ∨ ∃ r, u.out.link = s.out.link ++ [.close r] ∧ s.link.state = .up ∧ u.link.state = .off ∧ u.session.state = .idle

theorem Closes.of_silent (h : Silent s u) : Closes s u := .inl h.sent

/-- What comes before the end sends nothing and leaves the link's state. -/
theorem Closes.after (sent : t.out.link = s.out.link) (link : t.link.state = s.link.state) (h : Closes t u) : Closes s u := by
  simpa only [Closes, sent, link] using h

/-- What comes after the end sends nothing, leaves the link's state, and stays in IDLE. -/
theorem Closes.then (h : Closes s t) (sent : u.out.link = t.out.link) (link : u.link.state = t.link.state)
    (idle : t.session.state = .idle → u.session.state = .idle) : Closes s u := by
  obtain none | ⟨r, close, up, off, ended⟩ := h
  · exact .inl (sent.trans none)
  · exact .inr ⟨r, sent.trans close, up, link.trans off, idle ended⟩

theorem Closes.endFeed (s : State) (close : Option CloseReason) : Closes s (s.endFeed close) := by
  cases close with
  | none => exact .of_silent (.endFeed_none s)
  | some r =>
    by_cases up : s.link.state = .up
    · refine .inr ⟨r, by simp [State.endFeed_out_link, up], up, (State.endFeed_link _ s).1, ?_⟩
      rw [State.endFeed_session]
    · exact .inl (by simp [State.endFeed_out_link, up])

theorem Closes.endTake (s : State) (close : Option CloseReason) : Closes s (s.endTake close) := by
  cases close with
  | none => exact .of_silent (.endTake_none s)
  | some r =>
    by_cases up : s.link.state = .up
    · refine .inr ⟨r, by simp [State.endTake_out_link, up], up, (State.endTake_link _ s).1, ?_⟩
      rw [State.endTake_session]
    · exact .inl (by simp [State.endTake_out_link, up])

theorem Closes.ite (c : Prop) [Decidable c] (ht : c → Closes s t) (hu : ¬ c → Closes s u) : Closes s (if c then t else u) := by
  split
  · next h => exact ht h
  · next h => exact hu h

theorem Closes.refl (s : State) : Closes s s := .inl rfl

theorem Closes.endSession (s : State) (close : Option CloseReason) : Closes s (s.endSession close) :=
  ite _ (fun _ => endFeed s close) fun _ => ite _ (fun _ => endTake s close) fun _ => refl s

theorem Closes.doDirective (k : DirKind) (s : State) : Closes s (s.doDirective k) := by
  cases k with
  | setup =>
    let c := setupSettings (s.directive.word 1) (s.directive.word 2)
    let v : State := { s with settings := c, path := if s.settings.sameArbiter c then s.path else { s.path with waitRuns := .reset } }
    have level : Silent v s.doSetup := .ite _ (fun _ => .filterPeer v) fun _ => .refl v
    exact .inl level.sent
  | region => exact .inl (by unfold State.doDirective State.doRegion; dsimp only; split <;> rfl)
  | feed => exact .inl (by simp [State.doDirective, State.doFeed])
  | take => exact .inl (by simp [State.doDirective, State.doTake])
  | handover => exact .of_silent (.requestHandover s)
  | release => exact endFeed s _
  | abort => exact endSession s _
  | adopt => exact endTake s _
  | notices => exact .inl rfl
  | acknowledge => exact .inl rfl
  | refresh => exact refl s

theorem Closes.handleTrigger (n code : Byte) (s : State) : Closes s (s.handleTrigger n code) := by
  cases kind : kindOfCode code with
  | none =>
    rw [State.handleTrigger_unknown n kind]
    exact .inl rfl
  | some k =>
    rw [← code_of_kindOfCode kind, State.handleTrigger_kind]
    have obeyed : Closes s ((s.recordDirective n k.code (s.judge k.code)).obey k (s.judge k.code)) :=
      .ite (s := s) _ (fun _ => .after rfl rfl (doDirective k (s.recordDirective n k.code (s.judge k.code)))) fun _ => .inl rfl
    rw [State.finishDirective_eq]
    exact obeyed.then rfl rfl id

theorem Closes.snoop (offset : Nat) (data : Word) (mask : Mask) (s : State) : Closes s (s.snoop offset data mask) :=
  ite _ (fun _ => ite _ (fun _ => handleTrigger _ _ s) fun _ => .inl rfl) fun _ => .inl rfl

theorem Closes.actOnReview (s : State) (dec : Decision) : Closes s (s.actOnReview dec) := by
  cases dec
  case steady =>
    exact .of_silent ((Silent.enterSteady s).trans ((Silent.tryInstep _).trans (.ite _ (fun _ => .enterHandover _) fun _ => .refl _)))
  case abandon => exact .after rfl rfl (endFeed (s.recordFault .convergeFail) _)
  case nextPass => exact .of_silent ((Silent.setState s _).trans (.startPass _ _))
  case none => exact refl s
  all_goals exact .of_silent (Silent.enterFreeze s)

theorem Closes.endPass (s : State) : Closes s s.endPass := by
  refine .ite _ (fun _ => ?_) fun _ => .refl s
  obtain ⟨v, reviewed, same, -⟩ := s.runReview_eq
  rw [reviewed]
  exact (Closes.after (by rw [same]) (by rw [same]) (actOnReview v _)).then rfl rfl id

theorem Closes.handoverExpired (s : State) : Closes s s.handoverExpired := by
  unfold State.handoverExpired
  refine .ite _ (fun _ => ?_) fun _ => .refl s
  split
  · exact .refl s
  · exact .after (by simp) (by simp [State.advance_link_state]) (endFeed _ _)

theorem Closes.feedReceives (s : State) (f : State → State) (hf : Closes s (f s)) : Closes s (s.feedReceives f) :=
  ite _ (fun _ => .refl s) fun _ => ite _ (fun _ => .of_silent (.discardFrame s)) fun _ => ite _ (fun _ => hf) fun _ => .refl s

theorem Closes.takeReceives (s : State) (f : State → State) (hf : Closes s (f s)) : Closes s (s.takeReceives f) :=
  ite _ (fun _ => .refl s) fun _ => ite _ (fun _ => .of_silent (.discardFrame s)) fun _ => ite _ (fun _ => hf) fun _ => .refl s

theorem Closes.handled (s : State) (f : State → State) (hf : ∀ u, Closes u (f u)) : Closes s (s.handled f) :=
  ite _ (fun _ => .after (by simp) (by simp) (hf s.heard)) fun _ => .refl s

theorem Closes.takeAck (s : State) (n : Nat) (freed : BitVec 8) (fails : BitVec 16) (st : SessState) :
    Closes s (s.takeAck n freed fails st) := by
  have sent : ((s.retire n).keepFigures freed fails st).out.link = s.out.link := by rw [State.acked_eq]
  have link : ((s.retire n).keepFigures freed fails st).link.state = s.link.state := by rw [State.acked_eq]
  refine .ite _ (fun _ => ?_) fun _ => .ite _ (fun _ => ?_) fun _ => .inl sent
  · exact .after sent link (endFeed _ _)
  · exact .after sent link (.of_silent (.loseLink _))

theorem Closes.ackAtFeed (s : State) (k : Option Seq) (freed : BitVec 8) (fails : BitVec 16) (st : SessState) :
    Closes s (s.ackAtFeed k freed fails st) := by
  unfold State.ackAtFeed
  split
  · split
    · exact .of_silent (.loseLink s)
    · exact takeAck s 0 freed fails st
    · exact takeAck s _ freed fails st
  · exact .refl s

theorem Closes.rewindAtFeed (s : State) (e : Seq) : Closes s (s.rewindAtFeed e) :=
  ite _ (fun _ => ite _ (fun _ => .of_silent (.withdrawFrom s _ e)) fun _ => ite _ (fun _ => .inl rfl) fun _ =>
    .after rfl rfl (endFeed (s.recordFault .protocol) _)) fun _ => .refl s

theorem Closes.ejectRise (s : State) : Closes s s.ejectRise := by
  have line := Silent.setEject s true
  have link : (s.setEject true).link.state = s.link.state := by unfold State.setEject; dsimp only; split <;> rfl
  refine .ite _ (fun _ => .after line.sent link (ite _ (fun _ => ?_) fun _ => .refl _)) fun _ => .refl s
  exact ite _ (fun _ => endTake _ _) fun _ => .of_silent (.requestHandover _)

end Sys2Proof.Machine
end

section
/-! PROOFS. What every grant of the arbiter leaves alone. -/

namespace Sys2Proof.Machine

open Sys2Proof

variable {s t u : State}

/-- What a grant leaves alone: the core, the lists and the window, the read return list's places, the rule of the wait runs, and the link
but for a CLOSE. -/
structure Granted (s u : State) : Prop extends SameCore s u, Within s u where
  returns : s.path.returns.length ≤ Config.returnPlaces → u.path.returns.length ≤ Config.returnPlaces
  yields : Yields s u
  closes : Closes s u

theorem Granted.of_silent (h : Silent s u) : Granted s u :=
  { h with returns := by rw [h.returns]; exact id, yields := h.yields, closes := .of_silent h }

theorem Granted.of_obeys {k : DirKind} (h : Obeys k s u) (closes : Closes s u) : Granted s u :=
  { h with returns := by rw [h.returns]; exact id, closes }

theorem Granted.before (h : Silent s t) (link : t.link.state = s.link.state) (h' : Granted t u) : Granted s u :=
  { h.toSameCore.trans h'.toSameCore, h.toWithin.trans h'.toWithin with
    returns := by rw [← h.returns]; exact h'.returns
    yields := { same := fun same => (h'.yields.same (same.trans h.settings.symm)).trans h.waitRuns
                runs := by rw [← h.waitRuns, ← h.settings]; exact h'.yields.runs }
    closes := h'.closes.after h.sent link }

theorem Granted.then (h : Granted s t) (h' : Silent t u) (link : u.link.state = t.link.state)
    (idle : t.session.state = .idle → u.session.state = .idle) : Granted s u :=
  { h.toSameCore.trans h'.toSameCore, h.toWithin.trans h'.toWithin with
    returns := by rw [h'.returns]; exact h.returns
    yields := { same := fun same => h'.waitRuns.trans (h.yields.same (h'.settings.symm.trans same))
                runs := by rw [h'.waitRuns, h'.settings]; exact h.yields.runs }
    closes := h.closes.then h'.sent link idle }

/-- The request passed to memory is none of it. -/
theorem Granted.passed (r : MemRequest) (h : Granted (s.toMemory r) u) : Granted s u :=
  { h with yields := { h.yields with } }

/-- Nor are the streams' candidates, which stand in the path. -/
theorem Granted.of_candidates {lookup : Option Addr} {maint : MaintSlot}
    (h : Granted { s with path := { s.path with lookup, maint } } u) : Granted s u :=
  { h with yields := { h.yields with } }

/-- A read that joins the return list had a place there. -/
theorem Granted.issueRead (r : ReadFor) (a : Addr) (s : State) (room : s.path.returns.length < Config.returnPlaces) :
    Granted s (s.issueRead r a) :=
  .passed (.read a) {
    Silent.refl (s.toMemory (.read a)) with
    returns := fun _ => by simpa [State.issueRead] using room
    yields := { same := fun _ => rfl, runs := .inr ⟨rfl, rfl, fun _ => rfl⟩ }
    closes := .refl _ }

theorem Granted.toMemory (r : MemRequest) (s : State) : Granted s (s.toMemory r) := .passed r (.of_silent (.refl _))

/-! ### UPSTREAM (R9, R10, R29, R51) -/

theorem Silent.patchStaging (s : State) (w : WriteReq) : Silent s (s.patchStaging w) := by apply Silent.update <;> rfl

theorem Silent.patchWrite (s : State) (w : WriteReq) : Silent s (s.patchWrite w) := ite _ (fun _ => patchStaging s w) fun _ => refl s

theorem Silent.mapMirror (s : State) (w : WriteReq) : Silent s (s.mapMirror w) := by
  unfold State.mapMirror
  split
  · exact ite _ (fun _ => changeSeg s _ _) fun _ => offerMirror s w
  · exact offerMirror s w
  · exact refl s

theorem Silent.mapSnapshot (s : State) (w : WriteReq) : Silent s (s.mapSnapshot w) := by
  unfold State.mapSnapshot
  split
  · apply Silent.update <;> rfl
  · apply Silent.update <;> rfl
  · exact refl s

theorem Silent.mapWrite (s : State) (w : WriteReq) : Silent s (s.mapWrite w) := by
  refine ite _ (fun _ => ?_) fun _ => refl s
  cases s.classOf w.addr with
  | mirror => exact mapMirror s w
  | snapshot => exact mapSnapshot s w
  | localOnly => exact refl s
  | fill => exact refl s

/-- What a granted write changes in the overlay. -/
theorem State.supersede_eq (w : WriteReq) (s : State) :
    s.supersede w = { s with freeze := (s.supersede w).freeze, signals := (s.supersede w).signals } := by
  unfold State.supersede
  dsimp only
  split <;> rfl

/-- What it changes in the staging buffers. -/
theorem State.patchWrite_eq (w : WriteReq) (s : State) : s.patchWrite w = { s with walker := (s.patchWrite w).walker } := by
  unfold State.patchWrite
  split <;> rfl

/-- What it changes at the map. -/
theorem State.mapWrite_eq (w : WriteReq) (s : State) :
    s.mapWrite w = { s with map := (s.mapWrite w).map, feed := (s.mapWrite w).feed, signals := (s.mapWrite w).signals } := by
  unfold State.mapWrite State.mapMirror State.mapSnapshot State.offerMirror
  (repeat' split) <;> rfl

/-- What the overlay, the buffers and the map do with a granted write touches no link state. -/
theorem State.noted_link (w : WriteReq) (s : State) : (((s.supersede w).patchWrite w).mapWrite w).link.state = s.link.state := by
  rw [State.mapWrite_eq, State.patchWrite_eq, State.supersede_eq]

theorem Granted.snoopWrite (w : WriteReq) (s : State) : Granted s (s.snoopWrite w) := by
  unfold State.snoopWrite
  cases slotOffset s.chassis.msize w.addr with
  | none => exact .of_silent (.refl s)
  | some i =>
    obtain ⟨k, obeys⟩ := Obeys.snoop i w.data w.mask s
    exact .of_obeys obeys (.snoop i w.data w.mask s)

theorem Granted.endReplay (h : Granted s t) : Granted s t.endReplay := by
  refine h.then (Silent.endReplay t) (by simp) fun idle => ?_
  rw [t.endReplay_of_ne (by simp [idle]), idle]

theorem Granted.grantUpstreamWrite (w : WriteReq) (s : State) : Granted s (s.grantUpstreamWrite w) := by
  refine .passed (.write w.addr w.data w.mask) ?_
  unfold State.grantUpstreamWrite
  dsimp only
  split
  · have noted : Silent (s.toMemory (.write w.addr w.data w.mask))
        ((((s.toMemory (.write w.addr w.data w.mask)).supersede w).patchWrite w).mapWrite w) :=
      ((Silent.supersede _ w).trans (.patchWrite _ w)).trans (.mapWrite _ w)
    exact (Granted.snoopWrite w _).endReplay.before noted (State.noted_link w _)
  · exact .of_silent (.refl _)

theorem Granted.grantUpstream (s : State) (waits : s.upstreamWaits = true) : Granted s s.grantUpstream := by
  unfold State.grantUpstream
  split
  · next ready =>
    cases lookup : s.path.lookup with
    | none => exact .of_silent (.refl s)
    | some a =>
      refine .of_candidates (lookup := none) (maint := s.path.maint) (.issueRead _ _ _ ?_)
      simpa [State.isReady, State.lookupOffer, lookup, State.ready, State.returnRoom] using ready
  · next busy =>
    cases maint : s.path.maint with
    | read a =>
      refine .of_candidates (lookup := s.path.lookup) (maint := .empty) (.issueRead _ _ _ ?_)
      rw [State.upstreamWaits, Bool.eq_false_iff.2 busy] at waits
      simpa [State.isReady, State.maintOffer, maint, State.ready, State.returnRoom] using waits
    | write w => exact .of_candidates (lookup := s.path.lookup) (maint := .empty) (.grantUpstreamWrite w _)
    | held w => exact .of_silent (.refl s)
    | empty => exact .of_silent (.refl s)

/-! ### The part requesters (R49, R94, R105, R133, R139, R178) -/

/-- What a part requester that wins offers is a write, or a read for which the return list has room. -/
theorem Granted.grantWalk (s : State) (waits : s.waits .walk = true) : Granted s s.grantWalk := by
  obtain ⟨q, offer, room⟩ := State.offer_of_waits waits
  unfold State.offer at offer
  split at offer
  · simp only [State.walkOffer] at offer
    unfold State.grantWalk
    cases offering : s.walker.offering with
    | none => exact .of_silent (.refl s)
    | some second =>
      dsimp only
      cases buf : s.walker.buf second with
      | none => exact .of_silent (.refl s)
      | some b =>
        simp only [offering, buf, Option.map_some, Option.some.injEq] at offer
        have read : Silent s { s with walker := s.walker.setBuf second (some b.grantRead) } := by apply Silent.update <;> rfl
        exact .before read rfl (.issueRead _ _ _ (room _ offer.symm))
  · cases offer

/-- A job's grant: its write, or its read with room. -/
theorem Granted.grantJob (r : ReadFor) (j : VerifyJob) (s : State)
    (room : ∀ a, j.offer = some (.read a) → s.path.returns.length < Config.returnPlaces) : Granted s (s.grantJob r j) := by
  unfold State.grantJob
  split
  · next a read => exact .issueRead r a s (room a read)
  · exact .toMemory _ s
  · exact .of_silent (.refl s)

theorem Granted.grantApply (s : State) (waits : s.waits .apply = true) : Granted s s.grantApply := by
  obtain ⟨q, offer, room⟩ := State.offer_of_waits waits
  unfold State.offer at offer
  split at offer
  · simp only [State.applyOffer] at offer
    unfold State.grantApply
    cases apply : s.take.apply with
    | none => exact .of_silent (.refl s)
    | some a =>
      split at offer
      · have taken : Silent s { s with take := { s.take with apply := some { a with job := a.job.granted } } } := by
          apply Silent.update <;> rfl
        refine .before taken rfl (.grantJob _ _ _ fun addr read => room addr ?_)
        simpa [apply, read] using offer.symm
      · cases offer
  · cases offer

theorem Granted.grantFill (s : State) (waits : s.waits .fill = true) : Granted s s.grantFill := by
  obtain ⟨q, offer, room⟩ := State.offer_of_waits waits
  unfold State.offer at offer
  split at offer
  · simp only [State.fillOffer] at offer
    unfold State.grantFill
    cases fill : s.take.fill with
    | none => exact .of_silent (.refl s)
    | some f =>
      split at offer
      · have taken : Silent s { s with take := { s.take with fill := some { f with job := f.job.granted } } } := by
          apply Silent.update <;> rfl
        refine .before taken rfl (.grantJob _ _ _ fun addr read => room addr ?_)
        simpa [fill, read] using offer.symm
      · cases offer
  · cases offer

theorem Granted.grantReplay (s : State) : Granted s s.grantReplay := by
  unfold State.grantReplay
  cases s.overlayOffer with
  | none => exact .of_silent (.refl s)
  | some e =>
    refine .endReplay (.passed (.write e.addr e.data e.mask) (.of_silent ?_))
    exact (Silent.ite (s := s.toMemory _) (e.flushing = true) (fun _ => .refl _) fun _ => .placeReplay _ e).trans (.dropEntry _ _)

/-- The report block is none of it. -/
theorem Granted.of_report {r : Report} (h : Granted { s with report := r } u) : Granted s u :=
  { h with yields := { h.yields with } }

theorem Granted.grantReportWord (s : State) : Granted s s.grantReportWord := by
  unfold State.grantReportWord
  cases s.reportOffer with
  | none => exact .of_silent (.refl s)
  | some r =>
    refine .passed r ?_
    unfold State.grantReport
    dsimp only
    split
    · exact .of_report (r := { s.report with nextWord := s.report.nextWord + 1 }) (.of_silent (.refl _))
    · refine .of_report (r := { s.report with writing := false, nextWord := Config.reportLength, again := false }) (.of_silent ?_)
      exact .ite _ (fun _ => .requestReport _) fun _ => .refl _

theorem Granted.grantPart (r : Requester) (s : State) (waits : s.waits r = true) : Granted s (s.grantPart r) := by
  cases r with
  | report => exact .grantReportWord s
  | replay => exact .grantReplay s
  | apply => exact .grantApply s waits
  | fill => exact .grantFill s waits
  | walk => exact .grantWalk s waits

/-- Whoever wins: what the grant leaves, once the wait runs have followed it. -/
theorem Granted.grantTo {win : Winner} (h : s.winner = some win) :
    Granted { s with path := { s.path with waitRuns := s.runsAfter win } }
      (({ s with path := { s.path with waitRuns := s.runsAfter win } } : State).grantTo win) := by
  cases win with
  | upstream => exact .grantUpstream _ (show s.upstreamWaits = true from State.upstreamWaits_of_winner h)
  | owed r => exact .grantPart r _ (show s.waits r = true from State.waits_of_winner (.inl h))
  | byLevel r => exact .grantPart r _ (show s.waits r = true from State.waits_of_winner (.inr h))

/-- A requester's run grows at UPSTREAM's grants alone, and stops at the yield count (R15). -/
theorem State.runsAfter_le (s : State) (win : Winner) (r : Requester) (h : s.path.waitRuns.get r ≤ s.settings.yieldCount) :
    (s.runsAfter win).get r ≤ s.settings.yieldCount := by
  simp only [State.runsAfter, WaitRuns.get_build, runAfter]
  split
  · exact Nat.zero_le _
  · cases win with
    | upstream => exact Nat.min_le_left ..
    | owed q =>
      dsimp only
      split
      · exact Nat.zero_le _
      · exact h
    | byLevel q => exact Nat.zero_le _

end Sys2Proof.Machine
end

section
/-! PROOFS. What every command leaves alone: one case per command (O3, O57, O60). -/

namespace Sys2Proof.Machine

open Sys2Proof

variable {s t u : State} {c : Instr}

/-! ### The relations -/

/-- What command `c` leaves alone, from the state its event finds to the one it makes, and to the one the event's end makes of that. -/
structure Effect (c : Instr) (s u : State) : Prop extends Lists s u where
  pending : u.pending = s.pending
  window : (∀ k freed fails st, c = .ackReceived k freed fails st → s.ackAgrees k freed) → s.windowFits → u.windowFits
  places : s.path.returns.length ≤ Config.returnPlaces → u.path.returns.length ≤ Config.returnPlaces
  mem : c ≠ .arbiterGrant → u.out.mem = s.out.mem
  closes : c ≠ .transmitFrame → Closes s u
  engine : (∀ a, c ≠ .lookupRead a ∧ c ≠ .maintenanceRead a) → (∀ st d, c ≠ .readResponse st d) → u.out.engine = s.out.engine
  settings : (∀ r p, c ≠ .coldReset r p) → c ≠ .warmReset → c ≠ .arbiterGrant → (∀ n, c ≠ .setup n) → u.settings = s.settings
  regions : (∀ r p, c ≠ .coldReset r p) → c ≠ .warmReset → c ≠ .arbiterGrant → (∀ n, c ≠ .region n) → (∀ e, c ≠ .layoutReceived e) →
    u.regions = s.regions
  interrupted : (∀ r p, c ≠ .coldReset r p) → c ≠ .warmReset → c ≠ .arbiterGrant → (∀ n, c ≠ .take n) →
    u.take.interrupted = s.take.interrupted
  returns : (∀ r p, c ≠ .coldReset r p) → c ≠ .warmReset → c ≠ .arbiterGrant → (∀ st d, c ≠ .readResponse st d) →
    u.path.returns = s.path.returns
  straps : (∀ r p, c ≠ .coldReset r p) → (∀ p, c ≠ .resetNRise p) →
    u.chassis.msize = s.chassis.msize ∧ u.chassis.slotId = s.chassis.slotId
  lockout : (∀ r p, c ≠ .coldReset r p) → c ≠ .takeEnFall → u.session.lockout = s.session.lockout
  latched : (∀ r p, c ≠ .coldReset r p) → s.session.lockout = true → u.session.lockout = true
  directive : (∀ r p, c ≠ .coldReset r p) → c ≠ .warmReset → c ≠ .arbiterGrant → (∀ i d m, c ≠ .shadowWrite i d m) →
    (∀ d m, c ≠ .strayTrigger d m) → (∀ n code, c ≠ .unknownKind n code) → (∀ k n, c ≠ DirKind.command k n) → u.directive = s.directive
  enable : (∀ r p, c ≠ .coldReset r p) → c ≠ .warmReset → c ≠ .arbiterGrant → (∀ n, c ≠ .notices n) →
    u.notices.enable = s.notices.enable
  lookup : (∀ r p, c ≠ .coldReset r p) → c ≠ .arbiterGrant → (∀ a, c ≠ .lookupRead a) → u.path.lookup = s.path.lookup

/-- And what becomes of the wait runs before the event's end, at every command but a grant: they follow the settings, or are reset by a
command that leaves nobody waiting. -/
structure Event (c : Instr) (s u : State) : Prop extends Effect c s u where
  runs : c ≠ .arbiterGrant → (Yields s u ∧ u.report = s.report)
    ∨ (u.path.waitRuns = .reset ∧ (s.live = false ∨ u.live = false ∨ ∃ r p, c = .coldReset r p))

/-! ### Commands that keep the frame -/

theorem Event.moves (h : Moves s u) (closes : c ≠ .transmitFrame → Closes s u) : Event c s u where
  toLists := h.toLists
  pending := h.pending
  window := fun _ => h.window
  places := by rw [h.returns]; exact id
  mem := fun _ => h.mem
  closes := closes
  engine := fun _ _ => h.engine
  settings := fun _ _ _ _ => h.settings
  regions := fun _ _ _ _ _ => h.regions
  interrupted := fun _ _ _ _ => h.interrupted
  returns := fun _ _ _ _ => h.returns
  straps := fun _ _ => ⟨h.msize, h.slotId⟩
  lockout := fun _ _ => h.lockout
  latched := fun _ => h.lockout.trans
  directive := fun _ _ _ _ _ _ _ => h.directive
  enable := fun _ _ _ _ => h.enable
  lookup := fun _ _ _ => h.lookup
  runs := fun _ => .inl ⟨h.yields, h.report⟩

theorem Event.silent (h : Silent s u) : Event c s u := .moves h.toMoves fun _ => .of_silent h

theorem Event.refl (c : Instr) (s : State) : Event c s s := .silent (.refl s)

theorem Event.ite (p : Prop) [Decidable p] (h : p → Event c s u) : Event c s (if p then u else s) := by
  split
  · next holds => exact h holds
  · exact .refl c s

/-! ### Directives -/

/-- A directive of kind `k`, or a word of the slot that is like it. -/
theorem Event.of_obeys {k : DirKind} (h : Obeys k s u) (closes : Closes s u)
    (setup : k = .setup → ∃ n, c = .setup n) (region : k = .region → ∃ n, c = .region n) (take : k = .take → ∃ n, c = .take n)
    (notices : k = .notices → ∃ n, c = .notices n)
    (snooped : (∃ i d m, c = .shadowWrite i d m) ∨ (∃ d m, c = .strayTrigger d m) ∨ (∃ n code, c = .unknownKind n code)
      ∨ ∃ n, c = DirKind.command k n) : Event c s u where
  toLists := h.toLists
  pending := h.pending
  window := fun _ => h.window
  places := by rw [h.returns]; exact id
  mem := fun _ => h.mem
  closes := fun _ => closes
  engine := fun _ _ => h.engine
  settings := fun _ _ _ other => h.settings fun same => (setup same).elim fun n eq => other n eq
  regions := fun _ _ _ other _ => h.regions fun same => (region same).elim fun n eq => other n eq
  interrupted := fun _ _ _ other => h.interrupted fun same => (take same).elim fun n eq => other n eq
  returns := fun _ _ _ _ => h.returns
  straps := fun _ _ => ⟨h.msize, h.slotId⟩
  lockout := fun _ _ => h.lockout
  latched := fun _ => h.lockout.trans
  directive := fun _ _ _ shadow stray unknown command => by
    obtain ⟨i, d, m, eq⟩ | ⟨d, m, eq⟩ | ⟨n, code, eq⟩ | ⟨n, eq⟩ := snooped
    · exact absurd eq (shadow i d m)
    · exact absurd eq (stray d m)
    · exact absurd eq (unknown n code)
    · exact absurd eq (command k n)
  enable := fun _ _ _ other => h.enable fun same => (notices same).elim fun n eq => other n eq
  lookup := fun _ _ _ => h.lookup
  runs := fun _ => .inl ⟨h.yields, h.report⟩

theorem Event.command (k : DirKind) (n : Byte) (s : State) : Event (k.command n) s (s.trigger n k.code) := by
  refine .of_obeys (.trigger k n s) (.snoop 0 _ _ s) ?_ ?_ ?_ ?_ (.inr (.inr (.inr ⟨n, rfl⟩))) <;>
    exact fun same => ⟨n, by rw [same]; rfl⟩

/-- A word of the slot that is no directive is like REFRESH, which changes the directive unit alone. -/
theorem Event.snooped (h : Obeys .refresh s u) (closes : Closes s u)
    (snooped : (∃ i d m, c = .shadowWrite i d m) ∨ (∃ d m, c = .strayTrigger d m) ∨ (∃ n code, c = .unknownKind n code)) :
    Event c s u :=
  .of_obeys h closes nofun nofun nofun nofun (by simpa only [or_assoc] using Or.imp_right (Or.imp_right .inl) snooped)

theorem Event.shadowWrite (i : Fin 7) (d : Word) (m : Mask) (s : State) :
    Event (.shadowWrite i d m) s (if m = 0 then s else s.snoop (i.val + 1) d m) := by
  split
  · exact .refl _ s
  · have shadow : s.snoop (i.val + 1) d m = { s with directive := (s.snoop (i.val + 1) d m).directive } := by
      rw [State.snoop, if_neg (Nat.succ_ne_zero _)]
      rfl
    rw [shadow]
    exact .snooped (.of_directive_only _ s _) (.inl rfl) (.inl ⟨i, d, m, rfl⟩)

theorem Event.strayTrigger (d : Word) (m : Mask) (s : State) :
    Event (.strayTrigger d m) s (if m = 0 ∨ s.validTrigger d m then s else s.snoop 0 d m) := by
  split
  · exact .refl _ s
  · next invalid =>
    have stray : s.snoop 0 d m = { s with directive := (s.snoop 0 d m).directive } := by
      rw [not_or] at invalid
      rw [State.snoop, if_pos rfl, State.snoopTrigger, if_neg invalid.2]
      rfl
    rw [stray]
    exact .snooped (.of_directive_only _ s _) (.inl rfl) (.inr (.inl ⟨d, m, rfl⟩))

theorem Event.unknownKind (n code : Byte) (s : State) :
    Event (.unknownKind n code) s (if kindOfCode code = none then s.trigger n code else s) := by
  refine .ite _ fun unknown => .snooped ?_ (.snoop 0 _ _ s) (.inr (.inr ⟨n, code, rfl⟩))
  by_cases expected : n = s.directive.expected
  · rw [expected, State.trigger_expected]
    exact .handleTrigger_unknown _ _ unknown s
  · rw [State.trigger_of_ne s n code expected]
    exact .of_directive_only _ s _

/-! ### The streams (R3, R12) -/

@[simp] theorem Path.setReads_kept (p : Path) (st : Stream) (rs : List PendingRead) :
    (p.setReads st rs).returns = p.returns ∧ (p.setReads st rs).waitRuns = p.waitRuns ∧ (p.setReads st rs).lookup = p.lookup
      ∧ (p.setReads st rs).maint = p.maint ∧ (p.setReads st rs).blocked = p.blocked := by
  cases st <;> exact ⟨rfl, rfl, rfl, rfl, rfl⟩

/-- What a read changes is in the path, and in what the engine is told. -/
theorem Event.at_port {p : Path} {told : List (Stream × ReadResult)} (waitRuns : p.waitRuns = s.path.waitRuns)
    (places : s.path.returns.length ≤ Config.returnPlaces → p.returns.length ≤ Config.returnPlaces)
    (returns : (∀ st d, c ≠ .readResponse st d) → p.returns = s.path.returns)
    (lookup : (∀ a, c ≠ .lookupRead a) → p.lookup = s.path.lookup)
    (engine : (∀ a, c ≠ .lookupRead a ∧ c ≠ .maintenanceRead a) → (∀ st d, c ≠ .readResponse st d) → told = s.out.engine) :
    Event c s { s with path := p, out := { s.out with engine := told } } :=
  { Event.refl c s with
    window := fun _ => id
    places
    closes := fun _ => .inl rfl
    engine
    returns := fun _ _ _ => returns
    lookup := fun _ _ => lookup
    runs := fun _ => .inl ⟨{ same := fun _ => waitRuns, runs := .inr ⟨waitRuns, rfl, fun _ => rfl⟩ }, rfl⟩ }

/-- The answers returned in order leave the rest of the path. -/
theorem State.returnAnswers_eq (st : Stream) (s : State) : ∃ rs told,
    s.returnAnswers st = { s with path := s.path.setReads st rs, out := { s.out with engine := told } } := ⟨_, _, rfl⟩

theorem Path.setReads_setReads (p : Path) (st : Stream) (rs rs' : List PendingRead) : (p.setReads st rs).setReads st rs' = p.setReads st rs' := by
  cases st <;> rfl

/-- A read is answered at once, or joins its stream's reads as its candidate. -/
theorem State.examineRead_cases (st : Stream) (a : Addr) (s : State) :
    (∃ r, s.examineRead st a = s.answerRead st r) ∨ s.examineRead st a = s.readCandidate st a := by
  unfold State.examineRead
  split
  · exact .inr rfl
  · split
    · exact .inl ⟨_, rfl⟩
    · split
      · split
        · exact .inl ⟨_, rfl⟩
        · exact .inr rfl
      · exact .inr rfl

/-- The command of a stream's read. -/
def Stream.read (a : Addr) : Stream → Instr
  | .lookup => .lookupRead a
  | .maintenance => .maintenanceRead a

theorem Event.examineRead (st : Stream) (a : Addr) (s : State) : Event (st.read a) s (s.examineRead st a) := by
  have told {told : List (Stream × ReadResult)} (other : ∀ b, st.read a ≠ .lookupRead b ∧ st.read a ≠ .maintenanceRead b) :
      told = s.out.engine := by
    cases st with
    | lookup => exact absurd rfl (other a).1
    | maintenance => exact absurd rfl (other a).2
  obtain ⟨r, answered⟩ | candidate := s.examineRead_cases st a
  · obtain ⟨rs, engine, eq⟩ := State.returnAnswers_eq st { s with path := s.path.setReads st (s.path.reads st ++ [.answered r]) }
    rw [answered, State.answerRead, eq]
    exact .at_port (by simp) (by simp) (by simp) (by simp) fun other _ => told other
  · rw [candidate]
    cases st with
    | lookup => exact .at_port (told := s.out.engine) rfl id (fun _ => rfl) (fun other => absurd rfl (other a)) fun _ _ => rfl
    | maintenance => exact .at_port (told := s.out.engine) rfl id (fun _ => rfl) (fun _ => rfl) fun _ _ => rfl

theorem Event.upstreamResponse (status : Status) (data : Word) (st : Stream) (r : ReadResult) (s : State) (rest : List ReturnEntry)
    (e : ReturnEntry) (oldest : s.path.returns = e :: rest) :
    Event (.readResponse status data) s (({ s with path := { s.path with returns := rest } } : State).upstreamResponse st r) := by
  let p : Path := { s.path with returns := rest }
  obtain ⟨rs, engine, eq⟩ := State.returnAnswers_eq st { s with path := p.setReads st (fixOldest r (p.reads st)) }
  rw [State.upstreamResponse, eq]
  exact .at_port (by simp [p]) (by simp [p, oldest]; omega) (fun other => absurd rfl (other status data)) (by simp [p])
    fun _ other => absurd rfl (other status data)

/-- A response that is no answer of the engine's leaves the return list, and the block it belongs to keeps the frame. -/
theorem Event.of_response (status : Status) (data : Word) (rest : List ReturnEntry) (e : ReturnEntry)
    (oldest : s.path.returns = e :: rest) (h : Silent { s with path := { s.path with returns := rest } } u) :
    Event (.readResponse status data) s u :=
  { Event.silent (c := .readResponse status data) h with
    places := fun fits => by
      rw [h.returns]
      rw [oldest] at fits
      exact (Nat.le_succ _).trans fits
    returns := fun _ _ _ other => absurd rfl (other status data)
    runs := fun _ => .inl ⟨{ h.yields with }, h.report⟩ }

theorem Event.readAnswer (status : Status) (data : Word) (s : State) : Event (.readResponse status data) s (s.readAnswer status data) := by
  unfold State.readAnswer
  cases oldest : s.path.returns with
  | nil => exact .refl _ s
  | cons e rest =>
    dsimp only
    split
    · exact .upstreamResponse status data _ _ s rest e oldest
    · exact .of_response status data rest e oldest (.stagingResponse _ _ _ _ _ _)
    · exact .of_response status data rest e oldest (.applyResponse _ _ _ _)
    · exact .of_response status data rest e oldest (.fillResponse _ _ _ _)

/-! ### The resets (R17, R18, R164) -/

/-- A reset empties the lists. -/
theorem Lists.of_empty (queue : u.feed.queue = []) (buffer : u.take.buffer = []) (faults : u.faults.list = [])
    (entries : u.freeze.entries = []) : Lists s u where
  queue := fun _ => by simp [queue]
  buffer := fun _ => by simp [buffer]
  faults := fun _ => by simp [faults]
  overlay := fun _ => by simp [entries]
  overlayDistinct := fun _ => by simp [State.overlayDistinct, entries]
  faultsDistinct := fun _ => by simp [State.faultsDistinct, faults]

theorem State.windowFits_of_reset (feed : u.feed = .reset) : u.windowFits := by
  simp only [State.windowFits, feed]
  decide

/-- The first report is requested by a signal alone. -/
theorem State.coldStart_eq (r : Bool) (p : Pins) (s : State) :
    s.coldStart r p = { State.cold r p with pending := s.pending, signals := (s.coldStart r p).signals } := by
  unfold State.coldStart
  dsimp only
  split <;> rfl

theorem Event.coldStart (r : Bool) (p : Pins) (s : State) : Event (.coldReset r p) s.fresh (s.fresh.coldStart r p) := by
  rw [State.coldStart_eq]
  exact
    { Lists.of_empty (s := s.fresh) (u := { State.cold r p with pending := s.pending, signals := (s.fresh.coldStart r p).signals })
        rfl rfl rfl rfl with
      pending := rfl
      window := fun _ _ => State.windowFits_of_reset rfl
      places := fun _ => Nat.zero_le _
      mem := fun _ => rfl
      closes := fun _ => .inl rfl
      engine := fun _ _ => rfl
      settings := fun other => absurd rfl (other r p)
      regions := fun other => absurd rfl (other r p)
      interrupted := fun other => absurd rfl (other r p)
      returns := fun other => absurd rfl (other r p)
      straps := fun other => absurd rfl (other r p)
      lockout := fun other => absurd rfl (other r p)
      latched := fun other => absurd rfl (other r p)
      directive := fun other => absurd rfl (other r p)
      enable := fun other => absurd rfl (other r p)
      lookup := fun other => absurd rfl (other r p)
      runs := fun _ => .inr ⟨rfl, .inr (.inr ⟨r, p, rfl⟩)⟩ }

theorem Event.warmStart (s : State) : Event .warmReset s s.warmStart :=
  { Lists.of_empty (s := s) (u := s.warmStart) rfl rfl rfl rfl with
    pending := rfl
    window := fun _ _ => State.windowFits_of_reset rfl
    places := fun fits => (List.length_map _).le.trans fits
    mem := fun _ => rfl
    closes := fun _ => .inl rfl
    engine := fun _ _ => rfl
    settings := fun _ other => absurd rfl other
    regions := fun _ other => absurd rfl other
    interrupted := fun _ other => absurd rfl other
    returns := fun _ other => absurd rfl other
    straps := fun _ _ => ⟨rfl, rfl⟩
    lockout := fun _ _ => rfl
    latched := fun _ => id
    directive := fun _ other => absurd rfl other
    enable := fun _ other => absurd rfl other
    lookup := fun _ _ _ => rfl
    runs := fun _ => .inr ⟨rfl, .inr (.inl (by simp [State.live, State.warmStart, Chassis.warm]))⟩ }

theorem State.riseStart_eq (p : Pins) (s : State) : s.riseStart p = { s with
    chassis := s.chassis.rise p, path := s.path.rise, notices := (s.riseStart p).notices, signals := (s.riseStart p).signals } := by
  unfold State.riseStart
  dsimp only
  split <;> rfl

theorem State.riseStart_enable (p : Pins) (s : State) : (s.riseStart p).notices.enable = s.notices.enable := by
  unfold State.riseStart
  dsimp only
  split
  · exact (Silent.raise _ .line).enable
  · rfl

theorem Event.riseStart (p : Pins) (s : State) (reset : s.live = false) : Event (.resetNRise p) s (s.riseStart p) := by
  have enable := s.riseStart_enable p
  rw [State.riseStart_eq]
  exact
    { Event.refl (.resetNRise p) s with
      closes := fun _ => .inl rfl
      straps := fun _ other => absurd rfl (other p)
      enable := fun _ _ _ _ => enable
      runs := fun _ => .inr ⟨rfl, .inl reset⟩ }

/-! ### The layout, the ACK and TAKE_EN (R80, R102, R159) -/

/-- A region table replaced, and then the frame kept. -/
theorem Event.of_regions (es : Vector LayoutEntry 16) {r : Vector Region 16} (h : Moves { s with regions := r } u)
    (closes : Closes s u) : Event (.layoutReceived es) s u :=
  { Event.moves (c := .layoutReceived es) h fun _ => closes with
    regions := fun _ _ _ _ other => absurd rfl (other es)
    runs := fun _ => .inl ⟨{ h.yields with }, h.report⟩ }

theorem Event.awaitedLayout (es : Vector LayoutEntry 16) (s : State) : Event (.layoutReceived es) s (s.awaitedLayout es) := by
  unfold State.awaitedLayout
  split
  · exact .silent (.discardFrame s)
  · split
    · have fault := (Silent.heard s).trans (Silent.recordFault s.heard .layoutMisfit)
      exact .moves (fault.toMoves.trans (.endTake _ _)) fun _ => .after fault.sent (by simp) (.endTake _ _)
    · let v : State := { s.heard with
        regions := layoutTable es
        take := { s.heard.take with awaitingLayout := false }
        session := { s.heard.session with layoutInstalled := true } }
      have noted : Silent s.heard { v with regions := s.heard.regions } := by apply Silent.update <;> rfl
      have table : Silent { s with regions := layoutTable es } v := { (Silent.heard s).trans noted with regions := rfl }
      have installed := table.trans ((Silent.setState v .install).trans (.fillFrom _ 0))
      exact .of_regions es installed.toMoves (.inl installed.sent)

theorem Event.layoutArrives (es : Vector LayoutEntry 16) (s : State) : Event (.layoutReceived es) s (s.layoutArrives es) := by
  unfold State.layoutArrives
  split
  · exact .silent (.discardFrame s)
  · split
    · exact .awaitedLayout es s
    · split
      · exact .silent (.heard s)
      · split
        · exact .silent ((Silent.heard s).trans (by apply Silent.update <;> rfl))
        · exact .silent (.discardFrame s)

theorem Event.takeReceives (f : State → State) (h : Event c s (f s)) : Event c s (s.takeReceives f) := by
  unfold State.takeReceives
  split
  · exact .refl c s
  · split
    · exact .silent (.discardFrame s)
    · exact .ite _ fun _ => h

/-- An ACK keeps the frame, and the window's credits where it agrees with the frames it retires. -/
theorem Event.ackReceived (k : Option Seq) (freed : BitVec 8) (fails : BitVec 16) (st : SessState) (s : State) :
    Event (.ackReceived k freed fails st) s (s.feedReceives (State.handled (State.ackAtFeed k freed fails st))) := by
  have kept : Kept s (s.handled (State.ackAtFeed k freed fails st)) := by
    unfold State.handled
    split
    · exact (Silent.heard s).toKept.trans (.ackAtFeed _ k freed fails st)
    · exact (Silent.refl s).toKept
  have window (agrees : s.ackAgrees k freed) : Within s (s.handled (State.ackAtFeed k freed fails st)) := by
    unfold State.handled
    split
    · refine (Silent.heard s).toWithin.trans (.ackAtFeed _ k freed fails st ?_)
      simpa only [State.ackAgrees, State.heard_feed] using agrees
    · exact (Silent.refl s).toWithin
  have closes : Closes s (s.handled (State.ackAtFeed k freed fails st)) := .handled s _ fun u => .ackAtFeed u k freed fails st
  have event : Event (.ackReceived k freed fails st) s (s.handled (State.ackAtFeed k freed fails st)) := {
    kept.toLists with
    pending := kept.pending
    window := fun agrees => (window (agrees k freed fails st rfl)).window
    places := by rw [kept.returns]; exact id
    mem := fun _ => kept.mem
    closes := fun _ => closes
    engine := fun _ _ => kept.engine
    settings := fun _ _ _ _ => kept.settings
    regions := fun _ _ _ _ _ => kept.regions
    interrupted := fun _ _ _ _ => kept.interrupted
    returns := fun _ _ _ _ => kept.returns
    straps := fun _ _ => ⟨kept.msize, kept.slotId⟩
    lockout := fun _ _ => kept.lockout
    latched := fun _ => kept.lockout.trans
    directive := fun _ _ _ _ _ _ _ => kept.directive
    enable := fun _ _ _ _ => kept.enable
    lookup := fun _ _ _ => kept.lookup
    runs := fun _ => .inl ⟨kept.yields, kept.report⟩ }
  unfold State.feedReceives
  split
  · exact .refl _ s
  · split
    · exact .silent (.discardFrame s)
    · exact .ite _ fun _ => event

/-- The lockout is latched, and then the frame kept. -/
theorem Event.of_lockout (h : Moves { s with session := { s.session with lockout := true } } u) (closes : Closes s u) :
    Event .takeEnFall s u :=
  { Event.moves (c := .takeEnFall) h fun _ => closes with
    lockout := fun _ other => absurd rfl other
    latched := fun _ _ => h.lockout
    runs := fun _ => .inl ⟨{ h.yields with }, h.report⟩ }

theorem Event.takeEnDrop (s : State) : Event .takeEnFall s s.takeEnDrop := by
  unfold State.takeEnDrop
  refine .ite _ fun _ => ?_
  dsimp only
  have lowered : Silent s (s.setTakeEn false) := by apply Silent.update <;> rfl
  split
  · have raised := lowered.trans (Silent.raise (s.setTakeEn false) .line)
    split
    · let v : State := (s.setTakeEn false).raise .line
      let w : State := { v with session := { v.session with lockout := true } }
      have latched : Silent { s with session := { s.session with lockout := true } } w := { raised with lockout := rfl }
      have fault := latched.trans (Silent.recordFault w .lockoutTrip)
      exact .of_lockout (fault.toMoves.trans (.endTake _ _)) (.after fault.sent rfl (.endTake (w.recordFault .lockoutTrip) _))
    · exact .silent raised
  · exact .silent (lowered.trans (by apply Silent.update <;> rfl))

/-! ### Every command -/

/-- A drained queue has a place (R155). -/
theorem State.hasPlace_of_handoverDrained (h : s.handoverDrained = true) : s.feed.hasPlace = true := by
  simp only [State.handoverDrained, State.drained, Bool.and_eq_true] at h
  obtain ⟨⟨⟨⟨-, ⟨⟨-, empty⟩, -⟩⟩, -⟩, -⟩, -⟩ := h
  simp [Feed.hasPlace, List.isEmpty_iff.1 empty, Config.queuePlaces]

/-- A grant: what it leaves, the wait runs set apart. -/
theorem Event.grant (s : State) : Event .arbiterGrant s s.grant := by
  unfold State.grant
  cases win : s.winner with
  | none => exact .refl _ s
  | some win' =>
    have granted := Granted.grantTo win
    exact {
      granted.toLists with
      pending := granted.pending
      window := fun _ => granted.window
      places := granted.returns
      mem := fun other => absurd rfl other
      closes := fun _ => granted.closes
      engine := fun _ _ => granted.engine
      settings := fun _ _ other => absurd rfl other
      regions := fun _ _ other => absurd rfl other
      interrupted := fun _ _ other => absurd rfl other
      returns := fun _ _ other => absurd rfl other
      straps := fun _ _ => ⟨granted.msize, granted.slotId⟩
      lockout := fun _ _ => granted.lockout
      latched := fun _ => granted.lockout.trans
      directive := fun _ _ other => absurd rfl other
      enable := fun _ _ other => absurd rfl other
      lookup := fun _ other => absurd rfl other
      runs := fun other => absurd rfl other }

/-- What a command does while the part has power and RESET_N is high: nothing else while not. -/
theorem Event.live (f : State → State) (h : Event c s (f s)) : Event c s (if s.live then f s else s) := .ite _ fun _ => h

/-- Every command, from the state its event finds. -/
theorem exec_event (c : Instr) (s : State) : ∃ u, exec c s = .next u.settle ∧ Event c s.fresh u := by
  have directive (k : DirKind) (n : Byte) : ∃ u, exec (k.command n) s = .next u.settle ∧ Event (k.command n) s.fresh u :=
    ⟨_, exec_command s k n, .live _ (.command k n _)⟩
  cases c with
  | coldReset r p => exact ⟨_, rfl, .coldStart r p s⟩
  | warmReset => exact ⟨_, rfl, .live _ (.warmStart _)⟩
  | resetNRise p =>
    refine ⟨_, rfl, .ite _ fun reset => .riseStart p _ ?_⟩
    obtain ⟨-, low⟩ := Bool.and_eq_true_iff.1 reset
    have low : s.chassis.resetN = false := by simpa using low
    simp [State.live, low]
  | lookupRead a => exact ⟨_, rfl, .ite _ fun _ => .examineRead .lookup a _⟩
  | maintenanceRead a => exact ⟨_, rfl, .ite _ fun _ => .examineRead .maintenance a _⟩
  | maintenanceWrite a d m => exact ⟨_, rfl, .ite _ fun _ => .silent (.examineWrite _ _)⟩
  | throttleSpacingPassed => exact ⟨_, rfl, .live _ (.silent (.spacingPassed _))⟩
  | arbiterGrant => exact ⟨_, rfl, .ite _ fun _ => .grant _⟩
  | shadowWrite i d m => exact ⟨_, rfl, .live (fun u => if m = 0 then u else u.snoop (i.val + 1) d m) (.shadowWrite i d m _)⟩
  | strayTrigger d m => exact ⟨_, rfl, .live (fun u => if m = 0 ∨ u.validTrigger d m then u else u.snoop 0 d m) (.strayTrigger d m _)⟩
  | unknownKind n code => exact ⟨_, rfl, .live _ (.unknownKind n code _)⟩
  | setup n => exact directive .setup n
  | region n => exact directive .region n
  | feed n => exact directive .feed n
  | take n => exact directive .take n
  | handover n => exact directive .handover n
  | release n => exact directive .release n
  | abort n => exact directive .abort n
  | adopt n => exact directive .adopt n
  | notices n => exact directive .notices n
  | acknowledge n => exact directive .acknowledge n
  | refresh n => exact directive .refresh n
  | readResponse status data => exact ⟨_, rfl, .ite _ fun _ => .readAnswer status data _⟩
  | segFrameQueued => exact ⟨_, rfl, .live _ (.silent (.queueSeg _))⟩
  | walkerStep => exact ⟨_, rfl, .live _ (.silent (.walkStep _))⟩
  | passEnd => exact ⟨_, rfl, .live _ (.moves (.endPass _) fun _ => .endPass _)⟩
  | drainComplete => exact ⟨_, rfl, .live _ (.ite _ fun _ => .silent (.enterReplay _))⟩
  | freezeAbandon => exact ⟨_, rfl, .live _ (.silent (.freezeExpired _))⟩
  | instepQueued => exact ⟨_, rfl, .live _ (.silent (.takeInstep _))⟩
  | staleQueued => exact ⟨_, rfl, .live _ (.silent (.takeStale _))⟩
  | handoverDrainComplete => exact ⟨_, rfl, .live _ (.ite _ fun drained => .silent (.enqueue _ _ (State.hasPlace_of_handoverDrained drained)))⟩
  | handoverOverrun => exact ⟨_, rfl, .live _ (.moves (.handoverExpired _) fun _ => .handoverExpired _)⟩
  | transmitFrame => exact ⟨_, rfl, .live _ (.moves (.transmit _) fun other => absurd rfl other)⟩
  | trainDue => exact ⟨_, rfl, .live _ (.silent (.trainTick _))⟩
  | greetRepeatDue => exact ⟨_, rfl, .live _ (.silent (.greetTick _))⟩
  | layoutRepeatDue => exact ⟨_, rfl, .live _ (.silent (.layoutTick _))⟩
  | rewindRepeatDue => exact ⟨_, rfl, .live _ (.silent (.rewindTick _))⟩
  | pulseDue => exact ⟨_, rfl, .live _ (.ite _ fun _ => .silent (.keepAlive _))⟩
  | keepaliveAckDue => exact ⟨_, rfl, .live _ (.ite _ fun _ => .silent (.keepAlive _))⟩
  | silenceTimeout => exact ⟨_, rfl, .live _ (.silent (.silenceExpired _))⟩
  | bringupTimeout => exact ⟨_, rfl, .live _ (.silent (.bringupExpired _))⟩
  | feedHoldTimeout => exact ⟨_, rfl, .live _ (.silent (.feedHoldExpired _))⟩
  | takeHoldTimeout => exact ⟨_, rfl, .live _ (.silent (.takeHoldExpired _))⟩
  | frameDiscarded bytes => exact ⟨_, rfl, .live _ (.ite _ fun _ => .silent (.discardFrame _))⟩
  | trainReceived lane role slot => exact ⟨_, rfl, .live _ (.silent (.trainArrives _ lane role slot))⟩
  | greetReceived kind id size slot => exact ⟨_, rfl, .live _ (.silent (.takeReceives _ _ (.greetArrives _ kind id size slot)))⟩
  | greetEchoReceived id v reason => exact ⟨_, rfl, .live _ (.silent (.feedReceives _ _ (.echoArrives _ id v)))⟩
  | layoutReceived es => exact ⟨_, rfl, .live _ (.takeReceives _ (.layoutArrives es _))⟩
  | readyReceived => exact ⟨_, rfl, .live _ (.silent (.feedReceives _ _ (.handled _ _ .readyAtFeed)))⟩
  | sequencedFrameReceived q f => exact ⟨_, rfl, .live _ (.silent (.takeReceives _ _ (.seqArrives _ q f)))⟩
  | ackReceived k freed fails st => exact ⟨_, rfl, .live _ (.ackReceived k freed fails st _)⟩
  | rewindReceived e =>
    exact ⟨_, rfl, .live _ (.moves (.feedReceives _ _ (.handled _ _ fun u => .rewindAtFeed u e)) fun _ =>
      .feedReceives _ _ (.handled _ _ fun u => .rewindAtFeed u e))⟩
  | rewoundReceived e => exact ⟨_, rfl, .live _ (.silent (.takeReceives _ _ (.handled _ _ fun u => .rewoundAtTake u e)))⟩
  | pulseReceived => exact ⟨_, rfl, .live _ (.silent (.takeReceives _ _ (.handled _ _ .refl)))⟩
  | closeReceived reason => exact ⟨_, rfl, .live _ (.silent (.closeArrives _ reason))⟩
  | peerPresentChange level => exact ⟨_, rfl, .silent (.changePeer _ level)⟩
  | peerPresentFiltered => exact ⟨_, rfl, .live _ (.silent (.peerHeldOut _))⟩
  | ejectEvent => exact ⟨_, rfl, .moves (.ejectRise _) fun _ => .ejectRise _⟩
  | ejectFall => exact ⟨_, rfl, .ite _ fun _ => .silent (.setEject _ false)⟩
  | takeEnFall => exact ⟨_, rfl, .takeEnDrop _⟩
  | takeEnRise => exact ⟨_, rfl, .silent (.takeEnLift _)⟩
  | pwrGoodFall => exact ⟨_, rfl, .ite _ fun _ => .silent (.powerDown _)⟩

end Sys2Proof.Machine
end

section
/-! PROOFS. Every command as a whole: it answers a next state, changes what it is named for, and keeps the lists (O3, O57, O60). -/

namespace Sys2Proof.Machine

open Sys2Proof

variable {s t u : State} {c : Instr}

/-! ### The end of a command -/

/-- The end of a command up to the wait runs: the held write and the state frames. -/
def State.examined (s : State) : State := s.examineHeld.staleStage.instepStage

/-- The rest of it writes the wait runs, the report and the signals. -/
theorem State.settle_eq_examined (s : State) : ∃ report, s.settle = { s.examined with
    path := { s.examined.path with waitRuns := s.examined.clearRuns.path.waitRuns }
    report
    signals := .none } := by
  change ∃ report, s.examined.clearRuns.serveReport.clearSignals = _
  unfold State.serveReport
  split
  · split <;> exact ⟨_, rfl⟩
  · exact ⟨_, rfl⟩

theorem Silent.examined (s : State) : Silent s s.examined := ((examineHeld s).trans (staleStage _)).trans (instepStage _)

/-- The end of a command leaves what every command leaves. -/
theorem Effect.settle (h : Effect c s u) : Effect c s u.settle := by
  have stages := Silent.examined u
  have lists : Within u u.settle := by
    obtain ⟨report, settled⟩ := u.settle_eq_examined
    rw [settled]
    exact { stages.toWithin with }
  exact {
    h.toLists.trans lists.toLists with
    pending := by rw [State.settle_pending, h.pending]
    window := fun agrees => lists.window ∘ h.window agrees
    places := by rw [State.settle_path_returns]; exact h.places
    mem := by rw [State.settle_out]; exact h.mem
    closes := fun other => (h.closes other).then (by rw [State.settle_out]) (by rw [State.settle_link])
      (by rw [State.settle_session_state]; exact id)
    engine := by rw [State.settle_out]; exact h.engine
    settings := by rw [State.settle_settings]; exact h.settings
    regions := by rw [State.settle_regions]; exact h.regions
    interrupted := by rw [State.settle_take]; exact h.interrupted
    returns := by rw [State.settle_path_returns]; exact h.returns
    straps := by rw [State.settle_chassis]; exact h.straps
    lockout := by rw [State.settle_session_lockout]; exact h.lockout
    latched := by rw [State.settle_session_lockout]; exact h.latched
    directive := by rw [State.settle_directive]; exact h.directive
    enable := by rw [State.settle_notices]; exact h.enable
    lookup := by rw [State.settle_path_lookup]; exact h.lookup }

/-- What a command leaves alone, from the state before it to the state after, the outputs of the last command taken away first. -/
theorem exec_effect (h : exec c s = .next t) : Effect c s.fresh t := by
  obtain ⟨u, done, event⟩ := exec_event c s
  cases done.symm.trans h
  exact event.toEffect.settle

/-- Settles O3: every command is an event, and none writes the queue of the waiting commands. -/
theorem everyCommandAnswersNext : Obligations.EveryCommandAnswersNext := by
  intro c s
  obtain ⟨u, done, event⟩ := exec_event c s
  exact ⟨_, done, event.toEffect.settle.pending⟩

/-- Settles O60, from what each command leaves alone. -/
theorem onlyTheseCommandsChange : Obligations.OnlyTheseCommandsChange := by
  intro c s t done
  have effect := exec_effect done
  refine ⟨effect.mem, effect.closes, effect.engine, ?_, ?_, ?_, ?_, ?_, ?_⟩
  · split
    · trivial
    · trivial
    · trivial
    · exact ⟨effect.regions nofun nofun nofun nofun nofun, effect.interrupted nofun nofun nofun nofun, effect.returns nofun nofun nofun nofun⟩
    · exact ⟨effect.settings nofun nofun nofun nofun, effect.interrupted nofun nofun nofun nofun, effect.returns nofun nofun nofun nofun⟩
    · exact ⟨effect.settings nofun nofun nofun nofun, effect.interrupted nofun nofun nofun nofun, effect.returns nofun nofun nofun nofun⟩
    · exact ⟨effect.settings nofun nofun nofun nofun, effect.regions nofun nofun nofun nofun nofun, effect.returns nofun nofun nofun nofun⟩
    · exact ⟨effect.settings nofun nofun nofun nofun, effect.regions nofun nofun nofun nofun nofun, effect.interrupted nofun nofun nofun nofun⟩
    · next cold warm grant setup region layout take response =>
      exact ⟨effect.settings cold warm grant setup, effect.regions cold warm grant region layout,
        effect.interrupted cold warm grant take, effect.returns cold warm grant response⟩
  · split
    · trivial
    · trivial
    · next cold rise => exact effect.straps cold rise
  · split
    · next r p =>
      cases (exec_coldReset s r p).symm.trans done
      cases r <;> rfl
    · exact effect.latched nofun
    · next cold fall => exact effect.lockout cold fall
  · split
    case h_18 cold warm grant shadow stray unknown setup region feed take handover release abort adopt notices acknowledge refresh =>
      refine effect.directive cold warm grant shadow stray unknown fun k n => ?_
      cases k
      · exact setup n
      · exact region n
      · exact feed n
      · exact take n
      · exact handover n
      · exact release n
      · exact abort n
      · exact adopt n
      · exact notices n
      · exact acknowledge n
      · exact refresh n
    all_goals trivial
  · split
    · trivial
    · trivial
    · trivial
    · trivial
    · next cold warm grant notices => exact effect.enable cold warm grant notices
  · split
    · trivial
    · trivial
    · trivial
    · next cold grant lookup => exact effect.lookup cold grant lookup

/-! ### The lists (R12, R76, R79, R89, R108, R126) -/

/-- A pace tick with no command waiting keeps the frame. -/
theorem Silent.idleTick (s : State) : Silent s.fresh s.idleTick := .advance _ 1

/-- Settles O57: a command runs on the state with its own place in the queue of commands gone, which none of the lists looks at. -/
theorem everyStepKeepsListsBounded : Obligations.EveryStepKeepsListsBounded := by
  intro s t bounded distinct stepped
  have kept (lists : Lists s t) (places : t.path.returns.length ≤ Config.returnPlaces) :
      t.bounded ∧ t.overlayDistinct ∧ (s.faultsDistinct → t.faultsDistinct) := by
    obtain ⟨-, queue, buffer, faults, overlay⟩ := bounded
    exact ⟨⟨places, lists.queue queue, lists.buffer buffer, lists.faults faults, lists.overlay overlay⟩,
      lists.overlayDistinct distinct, lists.faultsDistinct⟩
  unfold step at stepped
  cases pending : s.pending with
  | nil =>
    rw [pending] at stepped
    cases stepped
    have tick := Silent.idleTick s
    obtain ⟨bounded', distinct', faults⟩ := kept { tick.toLists with } (by rw [tick.returns]; exact bounded.1)
    exact ⟨bounded', distinct', faults, fun fits _ => tick.window fits⟩
  | cons c rest =>
    rw [pending] at stepped
    have effect := exec_effect stepped
    obtain ⟨bounded', distinct', faults⟩ := kept { effect.toLists with } (effect.places bounded.1)
    refine ⟨bounded', distinct', faults, fun fits agrees => effect.window (fun k freed fails st ack => ?_) fits⟩
    exact agrees k freed fails st rest (by rw [ack])

end Sys2Proof.Machine
end

section
/-! PROOFS. The wait runs (O17). -/

namespace Sys2Proof.Machine

open Sys2Proof

variable {s t u : State} {c : Instr}

/-! ### The wait runs at the end of a command -/

/-- The run a requester is left with: the one before the end while it waits at level 0 to 3, else 0. -/
theorem State.settle_get (u : State) (r : Requester) : u.settle.path.waitRuns.get r =
    if u.examined.waits r && decide (u.settings.level r ≤ 3) then u.path.waitRuns.get r else 0 := by
  obtain ⟨report, settled⟩ := u.settle_eq_examined
  have examined := Silent.examined u
  rw [settled, ← examined.settings, ← examined.waitRuns]
  exact State.clearRuns_get u.examined r

theorem WaitRuns.get_reset (r : Requester) : WaitRuns.reset.get r = 0 := by cases r <;> rfl

theorem State.settle_get_of_reset (h : u.path.waitRuns = .reset) (r : Requester) : u.settle.path.waitRuns.get r = 0 := by
  rw [State.settle_get, h, WaitRuns.get_reset, ite_self]

/-- REPORT waits while it writes. -/
theorem State.waits_report : s.waits .report = true ↔ s.live = true ∧ s.report.writing = true ∧ s.report.nextWord < Config.reportLength := by
  unfold State.waits State.offer
  dsimp only [State.reportOffer]
  split
  · next live =>
    split
    · next writes => exact iff_of_true rfl ⟨live, writes⟩
    · next idle => exact iff_of_false Bool.false_ne_true fun h => idle h.2
  · next down => exact iff_of_false Bool.false_ne_true fun h => down h.1

theorem State.live_of_waits {r : Requester} (h : s.waits r = true) : s.live = true := by
  obtain ⟨q, offer, -⟩ := State.offer_of_waits h
  unfold State.offer at offer
  split at offer
  · next live => exact live
  · cases offer

theorem State.settle_live (u : State) : u.settle.live = u.live := by simp [State.live]

/-- Who waits at the end waited before it, but for a report that the end starts. -/
theorem State.examined_waits {r : Requester} (waits : u.settle.waits r = true)
    (writes : r = .report → u.report.writing = true ∧ u.report.nextWord < Config.reportLength) : u.examined.waits r = true := by
  obtain ⟨report, settled⟩ := u.settle_eq_examined
  cases r
  case report =>
    have live := State.live_of_waits waits
    rw [settled] at live
    rw [State.waits_report, (Silent.examined u).report]
    exact ⟨live, writes rfl⟩
  all_goals
    rw [settled] at waits
    exact waits

/-- A requester that waits at the end, at level 0 to 3, keeps the run it had before it. -/
theorem State.settle_get_of_waits {r : Requester} (waits : u.settle.waits r = true) (level : u.settings.level r ≤ 3)
    (writes : r = .report → u.report.writing = true ∧ u.report.nextWord < Config.reportLength) :
    u.settle.path.waitRuns.get r = u.path.waitRuns.get r := by
  rw [State.settle_get, State.examined_waits waits writes]
  simp [level]

/-! ### The wait runs across a command -/

/-- What the end of command finds of the wait runs: none, or runs within the yield count, which then stands as it did, like every level. -/
structure RunsBefore (s u : State) : Prop where
  yieldCount : u.settings.yieldCount = s.settings.yieldCount
  level : ∀ r, u.settings.level r = s.settings.level r
  le : (∀ r, s.path.waitRuns.get r ≤ s.settings.yieldCount) → ∀ r, u.path.waitRuns.get r ≤ s.settings.yieldCount

theorem Yields.before (h : Yields s u) : u.path.waitRuns = .reset ∨ RunsBefore s u :=
  h.runs.imp_right fun ⟨runs, yieldCount, level⟩ => { yieldCount, level, le := by rw [runs]; exact id }

/-- A grant's own change of the runs stays within the yield count. -/
theorem RunsBefore.grant (s : State) : s.grant.path.waitRuns = .reset ∨ RunsBefore s s.grant := by
  unfold State.grant
  cases win : s.winner with
  | none => exact .inr { yieldCount := rfl, level := fun _ => rfl, le := id }
  | some w =>
    refine (Granted.grantTo win).yields.before.imp_right fun before =>
      { yieldCount := before.yieldCount, level := before.level, le := fun bounded => before.le fun r => ?_ }
    exact s.runsAfter_le w r (bounded r)

theorem exec_runs (done : exec c s = .next t) :
    ∃ u, t = u.settle ∧ (u.path.waitRuns = .reset ∨ RunsBefore s u) := by
  by_cases grant : c = .arbiterGrant
  · subst grant
    refine ⟨if s.fresh.chassis.power then s.fresh.grant else s.fresh, (Host.Outcome.next.inj done).symm, ?_⟩
    split
    · exact (RunsBefore.grant s.fresh).imp_right fun before => { before with }
    · exact .inr { yieldCount := rfl, level := fun _ => rfl, le := id }
  · obtain ⟨u, next, event⟩ := exec_event c s
    cases next.symm.trans done
    refine ⟨u, rfl, ?_⟩
    obtain ⟨yields, -⟩ | ⟨reset, -⟩ := event.runs grant
    · exact yields.before.imp_right fun before => { before with }
    · exact .inl reset

/-- Every command keeps the runs within the yield count. -/
theorem exec_runs_le (done : exec c s = .next t) (bounded : ∀ r, s.path.waitRuns.get r ≤ s.settings.yieldCount) (r : Requester) :
    t.path.waitRuns.get r ≤ t.settings.yieldCount := by
  obtain ⟨u, rfl, reset | before⟩ := exec_runs done
  · rw [State.settle_get_of_reset reset]
    exact Nat.zero_le _
  · rw [State.settle_get, State.settle_settings, before.yieldCount]
    split
    · exact before.le bounded r
    · exact Nat.zero_le _

theorem step_runs_le (stepped : step s = .next t) (bounded : ∀ r, s.path.waitRuns.get r ≤ s.settings.yieldCount) (r : Requester) :
    t.path.waitRuns.get r ≤ t.settings.yieldCount := by
  unfold step at stepped
  cases pending : s.pending with
  | nil =>
    rw [pending] at stepped
    cases stepped
    rw [(Silent.idleTick s).waitRuns, (Silent.idleTick s).settings]
    exact bounded r
  | cons c rest =>
    rw [pending] at stepped
    exact exec_runs_le stepped bounded r

/-- A command that changes the yield count or a level leaves no run. -/
theorem exec_runs_changed (done : exec c s = .next t)
    (changed : t.settings.yieldCount ≠ s.settings.yieldCount ∨ ∃ q, t.settings.level q ≠ s.settings.level q) (r : Requester) :
    t.path.waitRuns.get r = 0 := by
  obtain ⟨u, rfl, reset | before⟩ := exec_runs done
  · exact State.settle_get_of_reset reset r
  · rw [State.settle_settings] at changed
    obtain yieldCount | ⟨q, level⟩ := changed
    · exact absurd before.yieldCount yieldCount
    · exact absurd (before.level q) level

/-! ### A run kept (R15) -/

/-- After a cold reset the report alone waits, at level 6. -/
theorem coldReset_waits {b : Bool} {p : Pins} {r : Requester} (done : exec (.coldReset b p) s = .next t) (waits : t.waits r = true) :
    4 ≤ t.settings.level r := by
  cases (exec_coldReset s b p).symm.trans done
  cases b
  · exact absurd (State.live_of_waits waits) (by simp [State.live, State.cold, Chassis.atCold])
  · cases r
    case report => show 4 ≤ 6; decide
    all_goals cases waits

/-- A requester that keeps waiting across a command that is no grant keeps its run. -/
theorem exec_run_kept (done : exec c s = .next t) (other : c ≠ .arbiterGrant) (settled : s.settled) (same : t.settings = s.settings)
    {r : Requester} (before : s.waits r = true) (waits : t.waits r = true) : t.path.waitRuns.get r = s.path.waitRuns.get r := by
  obtain ⟨-, -, -, none⟩ := settled
  have high (level : 4 ≤ s.settings.level r) : t.path.waitRuns.get r = s.path.waitRuns.get r := by
    obtain ⟨f, event⟩ := exec_is_event s c
    cases event.symm.trans done
    obtain ⟨-, -, -, none'⟩ := State.settle_settled (f s.fresh)
    rw [none r (.inr level)]
    exact none' r (.inr (by rw [show (f s.fresh).settle.settings = s.settings from same]; exact level))
  by_cases low : s.settings.level r ≤ 3
  · obtain ⟨u, next, event⟩ := exec_event c s
    cases next.symm.trans done
    rw [State.settle_settings] at same
    obtain ⟨yields, report⟩ | ⟨-, down | down | ⟨b, p, rfl⟩⟩ := event.runs other
    · rw [State.settle_get_of_waits waits (by rw [same]; exact low), yields.same same]
      · rfl
      · rintro rfl
        rw [report]
        exact (State.waits_report.1 before).2
    · exact absurd (State.live_of_waits before) (Bool.eq_false_iff.1 down)
    · exact absurd (State.live_of_waits waits) (by rw [State.settle_live, down]; exact Bool.false_ne_true)
    · exact high (by rw [← same, ← State.settle_settings]; exact coldReset_waits done waits)
  · exact high (by omega)

/-! ### The grant (R15) -/

/-- Only REPORT's own grant writes its block before the command's end. -/
theorem State.grantUpstream_report (s : State) : s.grantUpstream.report = s.report := by
  have write (w : WriteReq) (s : State) : (s.grantUpstreamWrite w).report = s.report := by
    unfold State.grantUpstreamWrite
    dsimp only
    split
    · have snooped (v : State) : (v.snoopWrite w).report = v.report := by
        unfold State.snoopWrite
        cases slotOffset v.chassis.msize w.addr with
        | none => rfl
        | some i =>
          obtain ⟨k, obeys⟩ := Obeys.snoop i w.data w.mask v
          exact obeys.report
      rw [State.endReplay_report, snooped, State.mapWrite_eq, State.patchWrite_eq, State.supersede_eq]
      rfl
    · rfl
  unfold State.grantUpstream
  split
  · split <;> rfl
  · split
    · rfl
    · exact write _ _
    · rfl
    · rfl

theorem State.grantPart_report {r : Requester} (other : r ≠ .report) (s : State) : (s.grantPart r).report = s.report := by
  have job (u : State) (k : ReadFor) (j : VerifyJob) : (u.grantJob k j).report = u.report := by
    unfold State.grantJob
    split <;> rfl
  cases r with
  | report => exact absurd rfl other
  | replay =>
    unfold State.grantPart State.grantReplay
    dsimp only
    split
    · rfl
    · rw [State.endReplay_report, State.dropEntry_report]
      split
      · rfl
      · exact (Silent.placeReplay _ _).report
  | apply =>
    unfold State.grantPart State.grantApply
    dsimp only
    split
    · rfl
    · exact job _ _ _
  | fill =>
    unfold State.grantPart State.grantFill
    dsimp only
    split
    · rfl
    · exact job _ _ _
  | walk =>
    unfold State.grantPart State.grantWalk
    dsimp only
    split
    · rfl
    · split <;> rfl

/-- The requester that is granted has no run. -/
theorem State.runsAfter_own (s : State) (r : Requester) : (s.runsAfter (.owed r)).get r = 0 := by
  simp [State.runsAfter, runAfter]

theorem State.runsAfter_byLevel (s : State) (q r : Requester) : (s.runsAfter (.byLevel q)).get r = 0 := by
  simp [State.runsAfter, runAfter]

theorem State.runsAfter_of_idle {r : Requester} (idle : s.waits r = false ∨ 4 ≤ s.settings.level r) (win : Winner) :
    (s.runsAfter win).get r = 0 := by
  rw [State.runsAfter, WaitRuns.get_build]
  exact if_pos (idle.symm.imp_right fun none => by simp [none])

/-- A grant that leaves REPORT a run leaves its block to it. -/
theorem State.grantTo_report {win : Winner} {v : State} (run : (s.runsAfter win).get .report ≠ 0) : (v.grantTo win).report = v.report := by
  cases win with
  | upstream => exact v.grantUpstream_report
  | owed r =>
    refine State.grantPart_report (fun own => ?_) v
    rw [own] at run
    exact run (s.runsAfter_own .report)
  | byLevel r => exact absurd (s.runsAfter_byLevel r .report) run

/-- The state in which the winner's request is passed to memory: the wait runs have followed the grant. -/
def State.toGrant (win : Winner) (s : State) : State := { s.fresh with path := { s.path with waitRuns := s.runsAfter win } }

theorem exec_arbiterGrant_of_winner {win : Winner} (power : s.chassis.power = true) (won : s.winner = some win) :
    exec .arbiterGrant s = .next ((s.toGrant win).grantTo win).settle := by
  have grant : s.fresh.grant = (s.toGrant win).grantTo win := by
    rw [State.grant, show s.fresh.winner = some win from won]
    rfl
  exact congrArg (fun u : State => Host.Outcome.next u.settle) ((if_pos power).trans grant)

/-- Nobody waiting, there is no grant (R11). -/
theorem exec_arbiterGrant_of_none (idle : s.winner = none) : exec .arbiterGrant s = .next s.fresh.settle := by
  have grant : s.fresh.grant = s.fresh := by
    rw [State.grant, show s.fresh.winner = none from idle]
  exact congrArg (fun u : State => Host.Outcome.next u.settle) ((congrArg (ite _ · _) grant).trans (ite_self _))

/-- At a grant that changes no setting, who waits at level 0 to 3 at its end has the run of R15. -/
theorem exec_arbiterGrant_run {win : Winner} (power : s.chassis.power = true) (won : s.winner = some win) :
    ∃ t, exec .arbiterGrant s = .next t ∧ (t.settings = s.settings →
      ∀ r, t.waits r = true → t.settings.level r ≤ 3 → t.path.waitRuns.get r = (s.runsAfter win).get r) := by
  have granted : Granted (s.toGrant win) ((s.toGrant win).grantTo win) := Granted.grantTo (s := s.fresh) won
  refine ⟨_, exec_arbiterGrant_of_winner power won, fun same r waits level => ?_⟩
  rw [State.settle_settings] at same level
  have runs : ((s.toGrant win).grantTo win).path.waitRuns = s.runsAfter win := granted.yields.same same
  by_cases started : r = .report ∧ (s.runsAfter win).get r = 0
  · rw [State.settle_get, runs, started.2, ite_self]
  · rw [State.settle_get_of_waits waits level, runs]
    rintro rfl
    have run : (s.runsAfter win).get .report ≠ 0 := fun none => started ⟨rfl, none⟩
    rw [State.grantTo_report run]
    by_cases before : s.waits .report = true
    · exact (State.waits_report.1 before).2
    · exact absurd (State.runsAfter_of_idle (.inl (by simpa using before)) win) run

/-! ### The statement -/

theorem State.owed_iff {r : Requester} (bounded : s.path.waitRuns.get r ≤ s.settings.yieldCount) :
    s.owed r = true ↔ s.waits r = true ∧ s.settings.level r ≤ 3 ∧ s.path.waitRuns.get r = s.settings.yieldCount := by
  simp only [State.owed, Bool.and_eq_true, decide_eq_true_eq, and_assoc]
  refine and_congr_right fun _ => and_congr_right fun _ => ?_
  omega

/-- The runs after a grant of a requester that waits at level 0 to 3. -/
theorem State.runsAfter_of_waits {r : Requester} (waits : s.waits r = true) (low : s.settings.level r ≤ 3) :
    (s.runsAfter .upstream).get r = min s.settings.yieldCount (s.path.waitRuns.get r + 1)
      ∧ ∀ q, q ≠ r → (s.runsAfter (.owed q)).get r = s.path.waitRuns.get r := by
  have counted : ¬ (4 ≤ s.settings.level r ∨ (!s.waits r) = true) := by simp [waits]; omega
  simp only [State.runsAfter, WaitRuns.get_build, runAfter, if_neg counted, true_and]
  exact fun q other => if_neg other

/-- Settles O17: the runs across a command, those a grant makes, and the owed requester's place. -/
theorem waitRunsFollowTheGrant : Obligations.WaitRunsFollowTheGrant := by
  intro s
  refine ⟨fun bounded => ⟨fun t stepped r => step_runs_le stepped bounded r, fun r => State.owed_iff (bounded r)⟩, ?_, ?_, ?_, ?_, ?_, ?_⟩
  · intro r waits low
    obtain ⟨upstream, owed⟩ := State.runsAfter_of_waits waits low
    exact ⟨upstream, s.runsAfter_own r, fun q => s.runsAfter_byLevel q r, owed⟩
  · exact fun r idle win => State.runsAfter_of_idle idle win
  · exact fun win power won => exec_arbiterGrant_run power won
  · intro c t done
    refine ⟨?_, exec_runs_changed done, fun other settled same r before waits _ => exec_run_kept done other settled same before waits⟩
    obtain ⟨-, -, -, none⟩ := everyCommandEndsSettled c s t done
    exact none
  · intro some_owed
    obtain ⟨r, won⟩ := s.winner_of_owed some_owed
    exact ⟨r, won, s.winner_eq_owed.1 won⟩
  · exact fun none r => State.winner_ne_owed none r

end Sys2Proof.Machine
end

section
/-! PROOFS. The grants of UPSTREAM: what reaches memory and the return list, and what the write is shown to (O16). -/

namespace Sys2Proof.Machine

open Sys2Proof

variable {s t u : State}

/-! ### The end of a command and the maintenance stream -/

/-- A candidate of the maintenance stream, or none, is as it was at the end of a command. -/
theorem State.settle_maint_of_not_held (h : ∀ w, s.path.maint ≠ .held w) : s.settle.path.maint = s.path.maint := by
  rw [s.settle_of_examineHeld.1, s.examineHeld_of_not_held h]

/-- And a held write, where no block has reported its hold's end. -/
theorem State.settle_maint_of_quiet (quiet : s.signals.reexamine = false) : s.settle.path.maint = s.path.maint := by
  rw [s.settle_of_examineHeld.1, State.examineHeld, quiet]
  rfl

/-! ### A read of a stream (R9) -/

/-- The lookup stream's read is UPSTREAM's request where it has room (R14). -/
theorem State.grantUpstream_lookup {a : Addr} (lookup : s.path.lookup = some a) (room : s.path.returns.length < Config.returnPlaces) :
    s.grantUpstream = State.grantUpstreamRead .lookup a { s with path := { s.path with lookup := none } } := by
  have ready : s.isReady s.lookupOffer = true := by
    simpa [State.isReady, State.lookupOffer, lookup, State.ready, State.returnRoom] using room
  rw [State.grantUpstream, if_pos ready]
  simp only [lookup]

/-- The maintenance stream's read is UPSTREAM's request where no lookup read is ready (R14). -/
theorem State.grantUpstream_read {a : Addr} (noLookup : s.isReady s.lookupOffer = false) (maint : s.path.maint = .read a) :
    s.grantUpstream = State.grantUpstreamRead .maintenance a { s with path := { s.path with maint := .empty } } := by
  rw [State.grantUpstream, noLookup]
  simp only [Bool.false_eq_true, if_false, maint]

/-- No lookup read is ready with none there, or with the return list full. -/
theorem State.not_ready_lookup (h : s.path.lookup = none ∨ Config.returnPlaces ≤ s.path.returns.length) :
    s.isReady s.lookupOffer = false := by
  obtain none | full := h
  · simp [State.isReady, State.lookupOffer, none]
  · cases lookup : s.path.lookup with
    | none => simp [State.isReady, State.lookupOffer, lookup]
    | some a => simpa [State.isReady, State.lookupOffer, lookup, State.ready, State.returnRoom] using full

/-! ### A write (R5, R10, R29, R51, R140) -/

/-- A granted write is shown to the overlay, the staging buffers and the segment map. -/
def State.noteWrite (w : WriteReq) (s : State) : State := ((s.supersede w).patchWrite w).mapWrite w

theorem State.noteWrite_eq (w : WriteReq) (s : State) : s.noteWrite w = { s with
    freeze := (s.noteWrite w).freeze, walker := (s.noteWrite w).walker, map := (s.noteWrite w).map, feed := (s.noteWrite w).feed
    signals := (s.noteWrite w).signals } := by
  unfold State.noteWrite
  rw [State.mapWrite_eq, State.patchWrite_eq, State.supersede_eq]

/-- The buffers look at the role alone. -/
theorem State.patchWrite_congr {s v : State} (w : WriteReq) (session : v.session = s.session) (walker : v.walker = s.walker) :
    (v.patchWrite w).walker = (s.patchWrite w).walker := by
  have role : v.inFeed = s.inFeed := by simp [State.inFeed, session]
  unfold State.patchWrite
  rw [role]
  split
  · simp only [State.patchStaging, walker]
  · exact walker

theorem State.noteWrite_walker (w : WriteReq) (s : State) : (s.noteWrite w).walker = (s.patchWrite w).walker := by
  unfold State.noteWrite
  rw [State.mapWrite_eq]
  exact State.patchWrite_congr w (by rw [State.supersede_eq]) (by rw [State.supersede_eq])

theorem State.noteWrite_freeze (w : WriteReq) (s : State) : (s.noteWrite w).freeze = (s.supersede w).freeze := by
  unfold State.noteWrite
  rw [State.mapWrite_eq, State.patchWrite_eq]

theorem State.noteWrite_map (w : WriteReq) (s : State) :
    (s.noteWrite w).map = (s.mapWrite w).map ∧ (s.noteWrite w).feed = (s.mapWrite w).feed := by
  have noted : (s.supersede w).patchWrite w = { s with
      freeze := (s.supersede w).freeze
      walker := ((s.supersede w).patchWrite w).walker
      signals := (s.supersede w).signals } := by
    rw [State.patchWrite_eq, State.supersede_eq]
  exact State.mapWrite_congr w (by rw [noted]) (by rw [noted]) (by rw [noted]) (by rw [noted]) (by rw [noted])

/-- A write with an empty mask, and any write while RESET_N is low, is passed to memory and shown to nobody (R5, R18). -/
theorem State.grantUpstreamWrite_unseen {w : WriteReq} (unseen : w.mask = 0 ∨ s.live = false) :
    s.grantUpstreamWrite w = s.toMemory (.write w.addr w.data w.mask) := by
  refine if_neg fun seen => ?_
  simp only [Bool.and_eq_true, bne_iff_ne, ne_eq] at seen
  obtain ⟨live, mask⟩ := seen
  obtain empty | low := unseen
  · exact mask empty
  · exact absurd (show s.live = true from live) (by simp [low])

/-- Any other is shown to overlay, buffers, map and directive unit. -/
theorem State.grantUpstreamWrite_seen {w : WriteReq} (live : s.live = true) (mask : w.mask ≠ 0) :
    s.grantUpstreamWrite w = (((s.toMemory (.write w.addr w.data w.mask)).noteWrite w).snoopWrite w).endReplay := by
  refine if_pos ?_
  simp only [Bool.and_eq_true, bne_iff_ne, ne_eq]
  exact ⟨live, mask⟩

/-- What a granted write leaves of memory port, streams and return list, whatever the directive unit makes of it. -/
theorem State.snoopWrite_kept (w : WriteReq) (s : State) : (s.snoopWrite w).out.mem = s.out.mem
    ∧ (s.snoopWrite w).path.returns = s.path.returns ∧ (s.snoopWrite w).path.lookup = s.path.lookup
    ∧ (s.snoopWrite w).path.maint = s.path.maint := by
  unfold State.snoopWrite
  cases slotOffset s.chassis.msize w.addr with
  | none => exact ⟨rfl, rfl, rfl, rfl⟩
  | some i =>
    obtain ⟨k, obeys⟩ := Obeys.snoop i w.data w.mask s
    exact ⟨obeys.mem, obeys.returns, obeys.lookup, obeys.maint⟩

theorem State.grantUpstreamWrite_kept (w : WriteReq) (s : State) :
    (s.grantUpstreamWrite w).out.mem = s.out.mem ++ [.write w.addr w.data w.mask]
      ∧ (s.grantUpstreamWrite w).path.returns = s.path.returns ∧ (s.grantUpstreamWrite w).path.lookup = s.path.lookup
      ∧ (s.grantUpstreamWrite w).path.maint = s.path.maint := by
  by_cases seen : s.live = true ∧ w.mask ≠ 0
  · obtain ⟨mem, returns, lookup, maint⟩ := State.snoopWrite_kept w ((s.toMemory (.write w.addr w.data w.mask)).noteWrite w)
    rw [State.grantUpstreamWrite_seen seen.1 seen.2, State.endReplay_out, State.endReplay_path, mem, returns, lookup, maint,
      State.noteWrite_eq]
    exact ⟨rfl, rfl, rfl, rfl⟩
  · rw [State.grantUpstreamWrite_unseen]
    · exact ⟨rfl, rfl, rfl, rfl⟩
    · obtain low | empty := not_and_or.1 seen
      · exact .inr (by simpa using low)
      · exact .inl (by simpa using empty)

/-! ### The statement -/

/-- UPSTREAM is granted the lookup stream's candidate, which is then no longer under treatment (R2). -/
def State.lookupServed (s : State) : State :=
  { s.fresh with path := { s.path with lookup := none, waitRuns := s.runsAfter .upstream } }

/-- UPSTREAM is granted the maintenance stream's candidate. -/
def State.maintServed (s : State) : State :=
  { s.fresh with path := { s.path with maint := .empty, waitRuns := s.runsAfter .upstream } }

/-- UPSTREAM's grant to the lookup stream. -/
theorem exec_arbiterGrant_lookup {a : Addr} (power : s.chassis.power = true) (won : s.winner = some .upstream)
    (lookup : s.path.lookup = some a) (room : s.path.returns.length < Config.returnPlaces) :
    exec .arbiterGrant s = .next (s.lookupServed.grantUpstreamRead .lookup a).settle := by
  rw [exec_arbiterGrant_of_winner power won]
  exact congrArg (fun u : State => Host.Outcome.next u.settle) (State.grantUpstream_lookup (s := s.toGrant .upstream) lookup room)

/-- UPSTREAM's grant to a maintenance read. -/
theorem exec_arbiterGrant_read {a : Addr} (power : s.chassis.power = true) (won : s.winner = some .upstream)
    (noLookup : s.isReady s.lookupOffer = false) (maint : s.path.maint = .read a) :
    exec .arbiterGrant s = .next (s.maintServed.grantUpstreamRead .maintenance a).settle := by
  rw [exec_arbiterGrant_of_winner power won]
  exact congrArg (fun u : State => Host.Outcome.next u.settle) (State.grantUpstream_read (s := s.toGrant .upstream) noLookup maint)

/-- UPSTREAM's grant to a maintenance write. -/
theorem exec_arbiterGrant_upstream_write {w : WriteReq} (power : s.chassis.power = true) (won : s.winner = some .upstream)
    (noLookup : s.isReady s.lookupOffer = false) (maint : s.path.maint = .write w) :
    exec .arbiterGrant s = .next (s.maintServed.grantUpstreamWrite w).settle := by
  rw [exec_arbiterGrant_of_winner power won]
  exact congrArg (fun u : State => Host.Outcome.next u.settle)
    ((s.toGrant .upstream).grantUpstream_write w noLookup maint)

/-- With no lookup read ready UPSTREAM's grant is the maintenance stream's. -/
theorem exec_arbiterGrant_maintenance (power : s.chassis.power = true) (won : s.winner = some .upstream)
    (noLookup : s.isReady s.lookupOffer = false) : ∃ t, exec .arbiterGrant s = .next t
      ∧ (∀ a, s.path.maint = .read a → t.out.mem = [.read a])
      ∧ (∀ w, s.path.maint = .write w → t.out.mem = [.write w.addr w.data w.mask])
      ∧ t.path.maint = .empty ∧ t.path.lookup = s.path.lookup := by
  have waits : s.isReady s.maintOffer = true := by
    have waits := State.upstreamWaits_of_winner won
    rwa [State.upstreamWaits, noLookup, Bool.false_or] at waits
  cases maint : s.path.maint with
  | read a =>
    refine ⟨_, exec_arbiterGrant_read power won noLookup maint, fun b read => ?_, nofun, ?_, ?_⟩
    · cases read
      rw [State.settle_out]
      rfl
    · rw [State.settle_maint_of_quiet rfl]
      rfl
    · rw [State.settle_path_lookup]
      rfl
  | write w =>
    obtain ⟨mem, -, lookup, empty⟩ := State.grantUpstreamWrite_kept w s.maintServed
    refine ⟨_, exec_arbiterGrant_upstream_write power won noLookup maint, nofun, fun v write => ?_, ?_, ?_⟩
    · cases write
      rw [State.settle_out, mem]
      rfl
    · rw [State.settle_maint_of_not_held, empty]
      · rfl
      · rw [empty]
        exact nofun
    · rw [State.settle_path_lookup, lookup]
      rfl
  | held w => simp [State.isReady, State.maintOffer, maint] at waits
  | empty => simp [State.isReady, State.maintOffer, maint] at waits

/-- Settles O16: the choice, and the stream that UPSTREAM's grant serves. -/
theorem arbiterChoosesByOwedThenLevel : Obligations.ArbiterChoosesByOwedThenLevel := by
  intro s
  refine ⟨fun some_owed => ?_, fun none => ⟨s.winner_eq_none none, s.winner_eq_upstream none, s.winner_eq_byLevel none,
    s.winner_ne_owed none⟩, fun power won => ?_⟩
  · obtain ⟨r, won⟩ := s.winner_of_owed some_owed
    exact ⟨r, won, (s.winner_eq_owed.1 won).1⟩
  · by_cases noLookup : s.path.lookup = none ∨ Config.returnPlaces ≤ s.path.returns.length
    · obtain ⟨t, granted, maintenance⟩ := exec_arbiterGrant_maintenance power won (State.not_ready_lookup noLookup)
      refine ⟨t, granted, fun a lookup room => ?_, fun _ => maintenance⟩
      obtain absent | full := noLookup
      · rw [absent] at lookup
        cases lookup
      · exact absurd room (Nat.not_lt.2 full)
    · obtain ⟨there, room⟩ := not_or.1 noLookup
      obtain ⟨a, lookup⟩ := Option.ne_none_iff_exists'.1 there
      refine ⟨_, exec_arbiterGrant_lookup power won lookup (Nat.not_le.1 room), fun b same _ => ?_, fun h => absurd h noLookup⟩
      cases lookup.symm.trans same
      refine ⟨?_, ?_, ?_⟩
      · rw [State.settle_out]
        rfl
      · rw [State.settle_path_lookup]
        rfl
      · rw [State.settle_maint_of_quiet rfl]
        rfl

end Sys2Proof.Machine
end

section
/-! PROOFS. SETUP (O30) and TAKE (O33). -/

namespace Sys2Proof.Machine

open Sys2Proof

variable {s t u : State}

/-! ### The configuration values (R170, R186) -/

theorem zeroAsOne_eq (n : Nat) : zeroAsOne n = max 1 n := by
  unfold zeroAsOne
  split <;> omega

/-- A level field of 3 bits. -/
theorem toNat_setWidth_three (b : Byte) : (b.setWidth 3).toNat = b.toNat % 8 := BitVec.toNat_setWidth 3 b

theorem toNat_setWidth_four (b : Byte) : (b.setWidth 4).toNat = b.toNat % 16 := BitVec.toNat_setWidth 4 b

theorem getLsbD_zero_iff (b : Byte) : b.getLsbD 0 = true ↔ b.toNat % 2 = 1 := by
  simp [BitVec.getLsbD, Nat.testBit_zero]

/-- The budget's 16 bits are two bytes, the lower first. -/
theorem toNat_extract_sixteen (w : Word) :
    (w.extractLsb' 0 16).toNat = (byteOf w 0).toNat + 256 * (byteOf w 1).toNat := by
  simp only [byteOf, BitVec.extractLsb'_toNat, Nat.shiftRight_eq_div_pow]
  omega

/-! ### SETUP -/

theorem WaitRuns.ext_get {a b : WaitRuns} (h : ∀ r, a.get r = b.get r) : a = b := by
  cases a
  cases b
  exact WaitRuns.mk.injEq .. ▸ ⟨h .report, h .replay, h .apply, h .fill, h .walk⟩

theorem State.settle_runs_of_reset (h : u.path.waitRuns = .reset) : u.settle.path.waitRuns = .reset :=
  WaitRuns.ext_get fun r => by rw [State.settle_get_of_reset h, WaitRuns.get_reset]

/-- No session, no link to lose (R68). -/
theorem State.loseLink_of_idle (idle : s.session.state = .idle) : s.loseLink = s := by
  simp [State.loseLink, State.inFeed, State.inTake, idle]

theorem State.filterPeer_of_idle (idle : s.session.state = .idle) : s.filterPeer = { s with
    chassis := { s.chassis with peerFiltered := s.chassis.peerRaw, peerHeld := 0 }
    notices := (s.raise .line).notices
    signals := (s.raise .line).signals } := by
  unfold State.filterPeer
  dsimp only
  split
  · exact State.loseLink_of_idle idle
  · rfl

/-- What SETUP in IDLE writes: the settings, the wait runs where the arbiter's change, and the filtered level with its notice (R15, R145). -/
theorem State.doSetup_of_idle (idle : s.session.state = .idle) :
    let c := setupSettings (s.directive.word 1) (s.directive.word 2)
    ∃ (chassis : Chassis) (notices : Notices) (signals : Signals), s.doSetup = { s with
      chassis, notices, signals
      path := if s.settings.sameArbiter c then s.path else { s.path with waitRuns := .reset }
      settings := c } := by
  unfold State.doSetup
  dsimp only
  split
  · exact ⟨_, _, _, State.filterPeer_of_idle idle⟩
  · exact ⟨_, _, _, rfl⟩

theorem State.judge_setup (idle : s.session.state = .idle) : s.judge DirKind.setup.code = .done := by
  rw [State.judge_code]
  simp [State.dirAllowed, State.dirValue, idle]

/-- SETUP in IDLE as a whole. -/
theorem exec_setup (live : s.live = true) (idle : s.session.state = .idle) :
    ∃ (u : State) (chassis : Chassis) (notices : Notices) (signals : Signals), exec (.setup s.directive.expected) s = .next u.settle
      ∧ u = { s.fresh.recordDirective s.directive.expected DirKind.setup.code .done with
          chassis, notices, signals
          path := if s.settings.sameArbiter u.settings then s.path else { s.path with waitRuns := .reset }
          settings := setupSettings (s.directive.word 1) (s.directive.word 2) } := by
  let r := s.fresh.recordDirective s.directive.expected DirKind.setup.code .done
  have obeyed : r.obey .setup .done = r.doSetup := rfl
  obtain ⟨chassis, notices, signals, written⟩ := State.doSetup_of_idle (s := r) idle
  have done := exec_command_expected s .setup live
  rw [s.judge_setup idle, obeyed, written, State.finishDirective_eq] at done
  exact ⟨_, chassis, _, _, done, rfl⟩

/-- Settles O30: the values field by field, and the blocks that SETUP does not name. -/
theorem setupReplacesEveryValue : Obligations.SetupReplacesEveryValue := by
  intro s live idle w1 w2
  obtain ⟨u, chassis, notices, signals, done, written⟩ := exec_setup live idle
  have settings : u.settle.settings = setupSettings w1 w2 := by rw [State.settle_settings, written]
  have runs : s.settings.sameArbiter u.settle.settings = false → u.settle.path.waitRuns = .reset := by
    rw [State.settle_settings]
    intro other
    apply State.settle_runs_of_reset
    rw [written, other]
    rfl
  have session : u.settle.session = s.session := by
    rw [State.settle_session, written]
    · rfl
    · rw [written]
      exact .inr ⟨by simp [State.recordDirective, idle], by simp [State.recordDirective, idle]⟩
  refine ⟨_, done, ?_, ?_, ?_, ?_, ?_, ?_, ?_, ?_, ?_, ?_, ?_, ?_, ?_, ?_, ?_, ?_, runs, ?_, ?_, ?_, session, ?_, ?_, ?_, ?_, ?_⟩
  case refine_1 => rw [State.settle_directive, written]; rfl
  case refine_17 => rw [State.settle_regions, written]; rfl
  case refine_18 => rw [State.settle_map, written]; rfl
  case refine_19 => rw [State.settle_walker, written]; rfl
  case refine_20 => rw [State.settle_link, written]; rfl
  case refine_21 => rw [State.settle_take, written]; rfl
  case refine_22 => rw [State.settle_faults, written]; rfl
  case refine_23 => rw [State.settle_freeze_timer, written]; rfl
  case refine_24 => rw [State.settle_out, written]; rfl
  all_goals rw [settings]
  · exact toNat_setWidth_three _
  · exact toNat_setWidth_three _
  · exact toNat_setWidth_three _
  · exact toNat_setWidth_three _
  · exact toNat_setWidth_three _
  · exact zeroAsOne_eq _
  · exact (zeroAsOne_eq _).trans (by rw [toNat_setWidth_four])
  · exact congrArg (min 15) (zeroAsOne_eq _)
  · exact (zeroAsOne_eq _).trans (by rw [toNat_extract_sixteen])
  · exact getLsbD_zero_iff _
  · rw [← getLsbD_zero_iff]
    simp [setupSettings]
  · exact zeroAsOne_eq _
  · exact zeroAsOne_eq _
  · exact zeroAsOne_eq _
  · exact congrArg (min 15) (zeroAsOne_eq _)

/-! ### TAKE -/

/-- A write that is not blocked leaves the count of blocked writes (R6). -/
theorem State.examineWrite_blocked (w : WriteReq) (free : s.blocked w.addr = false) : (s.examineWrite w).path.blocked = s.path.blocked := by
  have admitted : (s.admitWrite w).path.blocked = s.path.blocked := by
    unfold State.admitWrite
    split <;> rfl
  unfold State.examineWrite State.writeCandidate
  rw [free]
  split
  · rfl
  · dsimp only
    rw [if_neg Bool.false_ne_true]
    split
    · rfl
    · split <;> exact admitted

theorem State.settle_blocked (free : s.blocking = false) : s.settle.path.blocked = s.path.blocked := by
  have examined : s.examineHeld.path.blocked = s.path.blocked := by
    unfold State.examineHeld
    split
    · split
      · exact State.examineWrite_blocked _ (by simp [State.blocked, free])
      · rfl
    · rfl
  rw [← examined]
  simp [State.settle, State.clearRuns]

theorem State.judge_take (idle : s.session.state = .idle) (enabled : s.chassis.takeEn = true) (lockout : s.session.lockout = false) :
    s.judge DirKind.take.code = .done := by
  rw [State.judge_code]
  simp [State.dirAllowed, State.dirValue, idle, enabled, lockout]

/-- What TAKE in IDLE writes: path's count, link, the take's figures, fault records and session record start anew, and the STATE notice is
raised (R158). -/
theorem State.doTake_eq : s.doTake = { s with
    path := { s.path with blocked := 0 }
    link := s.link.start
    take := { s.take.inactive with failTotal := 0, rewinds := 0, interrupted := none, awaitingLayout := false }
    faults := .reset
    session := { s.session with role := .take, id := 0, sizeClass := 0, hold := none, greeted := none, layoutInstalled := false
                                state := .bringup }
    notices := s.doTake.notices
    signals := s.doTake.signals } := by
  unfold State.doTake State.setState
  dsimp only
  split
  · next h => rw [← h]; rfl
  · rfl

/-- TAKE in IDLE as a whole. -/
theorem exec_take (live : s.live = true) (idle : s.session.state = .idle) (enabled : s.chassis.takeEn = true)
    (lockout : s.session.lockout = false) :
    ∃ (u : State) (notices : Notices) (signals : Signals), exec (.take s.directive.expected) s = .next u.settle
      ∧ notices.state.pending = true
      ∧ u = { s.fresh.recordDirective s.directive.expected DirKind.take.code .done with
          notices, signals
          path := { s.path with blocked := 0 }
          link := s.link.start
          take := { s.take.inactive with failTotal := 0, rewinds := 0, interrupted := none, awaitingLayout := false }
          faults := .reset
          session := { s.session with role := .take, id := 0, sizeClass := 0, hold := none, greeted := none, layoutInstalled := false
                                      state := .bringup } } := by
  let r := s.fresh.recordDirective s.directive.expected DirKind.take.code .done
  have obeyed : r.obey .take .done = r.doTake := rfl
  have done := exec_command_expected s .take live
  rw [s.judge_take idle enabled lockout, obeyed, State.finishDirective_eq] at done
  have noticed : r.doTake.notices.state.pending = true := State.setState_notice _ _ (by simp [r, State.recordDirective, idle])
  have finished : (r.doTake.finishDirective .take).notices.state.pending = true := noticed
  refine ⟨_, (r.doTake.finishDirective .take).notices, (r.doTake.finishDirective .take).signals, done, finished, ?_⟩
  rw [State.doTake_eq]
  rfl

/-- Settles O33: the session record, link and take at their starts, and the blocks that TAKE does not name. -/
theorem takeStartsASession : Obligations.TakeStartsASession := by
  intro s live idle enabled lockout
  obtain ⟨u, notices, signals, done, noticed, written⟩ := exec_take live idle enabled lockout
  have away : u.session.state ≠ .steady ∧ u.session.state ≠ .handover := by
    rw [written]
    exact ⟨nofun, nofun⟩
  have free : u.blocking = false := by
    rw [written]
    simp [State.blocking]
  have taking : u.inFeed = false := by
    rw [written]
    simp [State.inFeed]
  refine ⟨_, done, ?_⟩
  rw [State.settle_session u (.inr away), State.settle_freeze u (.inl taking), State.settle_blocked free, State.settle_directive,
    State.settle_faults, State.settle_take, State.settle_link, State.settle_notices, State.settle_regions, State.settle_settings,
    State.settle_map, State.settle_walker, State.settle_chassis, State.settle_out, written]
  exact ⟨rfl, rfl, rfl, rfl, rfl, rfl, rfl, rfl, lockout, rfl, rfl, rfl, rfl, rfl, rfl, rfl, rfl, rfl, rfl, rfl, noticed, rfl, rfl, rfl,
    rfl, rfl, rfl, rfl⟩

end Sys2Proof.Machine
end

section
/-! PROOFS. The fall and the rise of RESET_N (O7, O8). -/

namespace Sys2Proof.Machine

open Sys2Proof

variable {s t u : State}

/-! ### The end of a command that reports nothing -/

/-- A command that leaves no signal, and no INSTEP to offer or cancel, ends with the wait runs alone. -/
theorem State.settle_of_signals_none (quiet : s.signals = .none) (test : s.instepTest = false)
    (waiting : s.feed.instepWaiting = true → s.dirtyCount = 0 ∧ s.openCount = 0) : s.settle = s.clearRuns := by
  rw [State.settle_of_no_offer (by rw [quiet]; rfl) (by rw [quiet]; rfl) test waiting]
  have silent : s.clearRuns.serveReport = s.clearRuns := if_neg (by rw [show s.clearRuns.signals = .none from quiet]; exact nofun)
  rw [silent, State.clearSignals, ← quiet]
  rfl

/-- The path at the end of a command that lets no held write be examined: the wait runs apart, as it was. -/
theorem State.settle_path_of_unexamined (h : s.examineHeld = s) :
    s.settle.path = { s.path with waitRuns := s.settle.path.waitRuns } := by
  have runs : s.settle.path = s.examined.clearRuns.path := by simp [State.settle, State.examined]
  have stages : s.examined.path = s.path := by simp [State.examined, h]
  rw [runs, State.clearRuns, stages]

/-! ### WARM_RESET (R18) -/

theorem ReturnEntry.unmerged_eq (e : ReturnEntry) : e.unmerged =
    (match e.requester with
      | .upstream st _ _ => { e with requester := .upstream st 0 0 }
      | _ => e) := by
  obtain ⟨requester, addr⟩ := e
  cases requester <;> rfl

theorem ReturnEntry.unmerged_mask {e : ReturnEntry} {st : Stream} {m : Mask} {d : Word} (h : e.unmerged.requester = .upstream st m d) :
    m = 0 := by
  obtain ⟨requester, addr⟩ := e
  cases requester <;> cases h
  rfl

theorem MaintSlot.release_eq (m : MaintSlot) : m.release = (match m with | .held w => .write w | m => m) := by
  cases m <;> rfl

theorem MaintSlot.release_ne_held (m : MaintSlot) (w : WriteReq) : m.release ≠ .held w := by
  cases m <;> exact nofun

theorem MaintSlot.release_of_not_held {m : MaintSlot} (h : ∀ w, m ≠ .held w) : m.release = m := by
  cases m with
  | held w => exact absurd rfl (h w)
  | read a => rfl
  | write w => rfl
  | empty => rfl

theorem exec_warmReset (live : s.live = true) : exec .warmReset s = .next s.fresh.warmStart.clearRuns := by
  have event : exec .warmReset s = .next s.fresh.warmStart.settle := by
    rw [show exec .warmReset s = .next (s.liveEvent State.warmStart) from rfl, State.liveEvent_of_live _ _ live]
  rw [event, State.settle_of_signals_none rfl rfl fun waiting => absurd waiting Bool.false_ne_true]

/-- Settles O7: block by block, the path's part by what is kept of it. -/
theorem warmResetKeepsThePath : Obligations.WarmResetKeepsThePath := by
  intro s live
  have power : s.chassis.power = true := by
    simp only [State.live, Bool.and_eq_true] at live
    exact live.1
  have runs : s.fresh.warmStart.clearRuns.path.waitRuns = WaitRuns.reset :=
    WaitRuns.ext_get fun r => by
      rw [State.clearRuns_get, show s.fresh.warmStart.path.waitRuns = .reset from rfl, WaitRuns.get_reset, ite_self]
  refine ⟨_, exec_warmReset live, ?_, power, rfl, rfl, rfl, rfl, rfl, MaintSlot.release_eq _, ?_, ?_, rfl, runs, rfl, rfl, rfl, rfl, rfl, rfl,
    rfl, rfl, rfl, rfl, rfl, rfl, rfl, rfl, rfl, rfl, rfl⟩
  · exact Bool.and_false _
  · exact List.map_congr_left fun e _ => e.unmerged_eq
  · intro e mem st m d upstream
    obtain ⟨o, -, rfl⟩ := List.mem_map.1 mem
    exact ReturnEntry.unmerged_mask upstream

/-! ### RESET_N_RISE (R17, R164, R182) -/

/-- A report requested while none is being written starts at the command's end. -/
theorem State.settle_report_starts (requested : s.signals.report = true) (idle : s.report.writing = false) :
    s.settle.report.writing = true ∧ s.settle.report.nextWord = 0 ∧ s.settle.report.generation = nextGeneration s.report.generation
      ∧ s.settle.report.lastReset = s.report.lastReset := by
  have report : s.examined.clearRuns.report = s.report := (Silent.examined s).report
  have signal : s.examined.clearRuns.signals.report = true := by simpa [State.examined] using requested
  have started : s.settle = s.examined.clearRuns.startReport.clearSignals := by
    change s.examined.clearRuns.serveReport.clearSignals = _
    rw [State.serveReport, if_pos signal, if_neg (by rw [report, idle]; exact Bool.false_ne_true)]
  rw [started]
  exact ⟨rfl, rfl, show nextGeneration s.examined.clearRuns.report.generation = _ by rw [report],
    show s.examined.clearRuns.report.lastReset = _ by rw [report]⟩

theorem exec_resetNRise (pins : Pins) (power : s.chassis.power = true) (reset : s.chassis.resetN = false) :
    exec (.resetNRise pins) s = .next (s.fresh.riseStart pins).settle := by
  have applies : (s.fresh.chassis.power && !s.fresh.chassis.resetN) = true := by
    rw [show s.fresh.chassis = s.chassis from rfl, power, reset]
    rfl
  exact congrArg (fun u : State => Host.Outcome.next u.settle) (if_pos applies)

/-- The LINE notice owed for a fall of TAKE_EN while RESET_N was low is raised (R189). -/
theorem State.riseStart_line (pins : Pins) (s : State) :
    (s.riseStart pins).notices.line.pending = (s.notices.line.pending || s.chassis.lineDeferred) := by
  unfold State.riseStart
  cases owed : s.chassis.lineDeferred
  · exact (Bool.or_false _).symm
  · exact (Bool.or_true _).symm

/-- Settles O8: the chassis block and the path at their values of the rise, and the report requested. -/
theorem resetRiseSamplesAndReports : Obligations.ResetRiseSamplesAndReports := by
  intro pins s power reset idle
  have written := State.riseStart_eq pins s.fresh
  have line := State.riseStart_line pins s.fresh
  have requested : (s.fresh.riseStart pins).signals.report = true := rfl
  obtain ⟨u, hu⟩ : ∃ u, u = s.fresh.riseStart pins := ⟨_, rfl⟩
  rw [← hu] at written line requested
  have rise : u.path = s.path.rise := by rw [written]; rfl
  have notHeld (w : WriteReq) : u.path.maint ≠ .held w := by
    rw [rise]
    exact s.path.maint.release_ne_held w
  have path := State.settle_path_of_unexamined (u.examineHeld_of_not_held notHeld)
  have runs : u.settle.path.waitRuns = .reset := State.settle_runs_of_reset (by rw [rise]; rfl)
  have report : u.report = s.report := by rw [written]; rfl
  obtain ⟨writing, nextWord, generation, lastReset⟩ := State.settle_report_starts requested (by rw [report]; exact idle)
  have chassis : u.settle.chassis = s.chassis.rise pins := by rw [State.settle_chassis, written]; rfl
  refine ⟨u.settle, ?_, ?_, ?_, ?_, ?_, ?_, ?_, ?_, ?_, writing, nextWord, ?_, ?_, ?_, ?_, ?_, ?_, ?_, ?_, ?_, ?_, ?_, ?_, runs, ?_⟩
  · rw [hu]
    exact exec_resetNRise pins power reset
  · rw [State.live, chassis]; rfl
  iterate 7 rw [chassis]; rfl
  · rw [generation, report]
  · rw [lastReset, report]
  · rw [State.settle_notices, line]; rfl
  · rw [chassis]; rfl
  · rw [State.settle_session_state, written]; rfl
  · rw [State.settle_path_returns, rise]; rfl
  · rw [State.settle_path_lookup, rise]; rfl
  · intro held
    rw [path, rise]
    exact MaintSlot.release_of_not_held held
  · rw [path]
    exact notHeld
  · rw [path, rise]
    exact List.filter_congr fun x _ => (beq_eq_decide x .waiting)
  · rw [path, rise]
    exact List.filter_congr fun x _ => (beq_eq_decide x .waiting)
  · rw [path, rise]; rfl
  · rw [State.settle_out, written]; rfl

end Sys2Proof.Machine
end

section
/-! PROOFS. The requests of the streams: reads (O10, O11) and maintenance writes (O12). -/

namespace Sys2Proof.Machine

open Sys2Proof

variable {s t u : State}

/-! ### The end of a command that reports nothing -/

theorem State.examineHeld_of_quiet (quiet : s.signals.reexamine = false) : s.examineHeld = s := by
  rw [State.examineHeld, quiet]
  rfl

/-- The path at the end of a command that reports no hold's end: the wait runs apart, as it was. -/
theorem State.settle_path_of_quiet (quiet : s.signals.reexamine = false) :
    s.settle.path = { s.path with waitRuns := s.settle.path.waitRuns } :=
  State.settle_path_of_unexamined (State.examineHeld_of_quiet quiet)

theorem State.settle_review_of_quiet (quiet : s.signals.reexamine = false) : s.settle.review = s.review := by
  rw [s.settle_of_examineHeld.2, State.examineHeld_of_quiet quiet]

/-- A settled state whose path and outputs are changed, with no run for anybody who does not wait, is settled. -/
theorem State.settled.settle_path (settled : s.settled) {p : Path} (o : Out)
    (runs : ∀ r, ({ s with path := p } : State).waits r = false ∨ 4 ≤ s.settings.level r → p.waitRuns.get r = 0) :
    State.settle { s with path := p, out := o, signals := .none } = { s with path := p, out := o } := by
  obtain ⟨signals, test, waiting, -⟩ := settled
  have moved : State.settled { s with path := p, out := o, signals := .none } := ⟨rfl, test, waiting, runs⟩
  rw [State.settle_of_settled _ moved, ← signals]

/-- While RESET_N is low a command that changes only the path, its runs apart, ends with just that (R18). -/
theorem State.settled.settle_path_in_reset (settled : s.settled) (low : s.live = false) {p : Path} (o : Out)
    (runs : p.waitRuns = s.path.waitRuns) :
    State.settle { s with path := p, out := o, signals := .none } = { s with path := p, out := o } := by
  refine settled.settle_path o fun r _ => ?_
  rw [runs]
  obtain ⟨-, -, -, none⟩ := settled
  exact none r (.inl (s.waits_of_not_live low r))

/-! ### The reads of a stream -/

@[simp] theorem Path.reads_setReads (p : Path) (st : Stream) (rs : List PendingRead) : (p.setReads st rs).reads st = rs := by
  cases st <;> rfl

theorem Path.setReads_reads (p : Path) (st : Stream) : p.setReads st (p.reads st) = p := by
  cases st <;> rfl

/-- What is returned and what is left make up the reads of the stream, and the oldest left waits (R3). -/
theorem releaseAnswers_eq (l : List PendingRead) :
    l = (releaseAnswers l).1.map .answered ++ (releaseAnswers l).2
      ∧ ∀ x, (releaseAnswers l).2.head? = some x → x = .waiting := by
  induction l with
  | nil => exact ⟨rfl, nofun⟩
  | cons x rest ih =>
    cases x with
    | answered r => exact ⟨congrArg _ ih.1, ih.2⟩
    | waiting => exact ⟨rfl, fun x head => (Option.some.inj head).symm⟩

theorem releaseAnswers_of_waiting {l : List PendingRead} (h : ∀ x ∈ l, x = .waiting) : releaseAnswers l = ([], l) := by
  cases l with
  | nil => rfl
  | cons x rest =>
    rw [h x List.mem_cons_self]
    rfl

/-- A response fixed when no earlier read of the stream waits is returned at once. -/
theorem State.answerRead_of_none {st : Stream} (r : ReadResult) (none : s.path.reads st = []) :
    s.answerRead st r = { s with out := { s.out with engine := s.out.engine ++ [(st, r)] } } := by
  have path : (s.path.setReads st [.answered r]).setReads st [] = s.path := by
    rw [Path.setReads_setReads, ← none, Path.setReads_reads]
  rw [State.answerRead, none, State.returnAnswers]
  simp only [List.nil_append, Path.reads_setReads, releaseAnswers, path, List.map_cons, List.map_nil]

/-! ### The examination of a read (R4, R6, R9) -/

theorem State.examineRead_blocked {st : Stream} {a : Addr} (live : s.live = true) (blocked : s.blocked a = true) :
    s.examineRead st a = s.answerRead st .faulted := by
  simp [State.examineRead, live, blocked]

theorem State.examineRead_full {st : Stream} {a : Addr} {e : OverlayEntry} (live : s.live = true) (free : s.blocked a = false)
    (found : s.freeze.find a = some e) (full : e.mask = fullMask) :
    s.examineRead st a = s.answerRead st { status := .ok, data := e.data } := by
  simp [State.examineRead, live, free, found, full]

theorem State.examineRead_candidate {st : Stream} {a : Addr} (live : s.live = true) (free : s.blocked a = false)
    (partly : ∀ e, s.freeze.find a = some e → e.mask ≠ fullMask) : s.examineRead st a = s.readCandidate st a := by
  cases found : s.freeze.find a with
  | none => simp [State.examineRead, live, free, found]
  | some e => simp [State.examineRead, live, free, found, partly e found]

/-- A read leaves every block but the path, and what the engine is told. -/
theorem State.examineRead_eq (st : Stream) (a : Addr) (s : State) : ∃ p told,
    s.examineRead st a = { s with path := p, out := { s.out with engine := told } } := by
  obtain ⟨r, answered⟩ | candidate := s.examineRead_cases st a
  · exact ⟨_, _, answered⟩
  · cases st <;> exact ⟨_, _, candidate⟩

/-- A stream with no request under treatment takes the read. -/
theorem exec_read {st : Stream} (a : Addr) (power : s.chassis.power = true)
    (lookup : st = .lookup → s.path.lookup = none) (maint : st = .maintenance → s.path.maint = .empty) :
    exec (st.read a) s = .next (s.fresh.examineRead st a).settle := by
  cases st with
  | lookup =>
    refine congrArg (fun u : State => Host.Outcome.next u.settle) (if_pos ?_)
    simp [State.fresh, power, lookup rfl]
  | maintenance =>
    refine congrArg (fun u : State => Host.Outcome.next u.settle) (if_pos ?_)
    simp [State.fresh, power, maint rfl]

theorem State.power_of_live (live : s.live = true) : s.chassis.power = true := by
  simp only [State.live, Bool.and_eq_true] at live
  exact live.1

/-- Settles O10: the three examinations, and the path that is open while RESET_N is low. -/
theorem readsAreExamined : Obligations.ReadsAreExamined := by
  refine ⟨fun st a s live idle => ?_, fun a s power reset settled => ?_⟩
  · obtain ⟨p, told, eq⟩ := State.examineRead_eq st a s.fresh
    have quiet : (s.fresh.examineRead st a).signals.reexamine = false := by rw [eq]; rfl
    have returns : (s.fresh.examineRead st a).path.returns = s.path.returns :=
      (Event.examineRead st a s.fresh).returns (by cases st <;> exact nofun) (by cases st <;> exact nofun)
        (by cases st <;> exact nofun) (by cases st <;> exact nofun)
    have path := State.settle_path_of_quiet quiet
    have at_once {r : ReadResult} (none : s.path.reads st = []) (answered : s.fresh.examineRead st a = s.fresh.answerRead st r) :
        (s.fresh.examineRead st a).settle.out.engine = [(st, r)] ∧ (s.fresh.examineRead st a).settle.path.reads st = []
          ∧ (s.fresh.examineRead st a).settle.path.lookup = s.path.lookup
          ∧ (s.fresh.examineRead st a).settle.path.maint = s.path.maint := by
      rw [State.settle_out, path, answered, State.answerRead_of_none r (show s.fresh.path.reads st = [] from none)]
      refine ⟨rfl, ?_, rfl, rfl⟩
      cases st <;> exact none
    have taken : exec (st.read a) s = .next (s.fresh.examineRead st a).settle :=
      exec_read a (State.power_of_live live) (fun lookup => by subst lookup; exact idle) fun maint => by subst maint; exact idle
    refine ⟨(s.fresh.examineRead st a).settle, by cases st <;> exact taken, ?_, ?_, ?_, ?_, ?_, ?_, ?_, ?_⟩
    · rw [State.settle_out, eq]; rfl
    · rw [State.settle_out, eq]; rfl
    · rw [State.settle_freeze_of_quiet _ quiet, eq]; rfl
    · rw [State.settle_map, eq]; rfl
    · rw [State.settle_path_returns, returns]
    · exact fun blocked none => at_once none (State.examineRead_blocked live blocked)
    · exact fun free e found full none => at_once none (State.examineRead_full live free found full)
    · intro free partly
      have candidate : s.fresh.examineRead st a = s.fresh.readCandidate st a := State.examineRead_candidate live free partly
      rw [State.settle_out, path, candidate]
      cases st <;> exact ⟨rfl, rfl, rfl⟩
  · have low : s.live = false := by simp [State.live, reset]
    have candidate (st : Stream) : s.fresh.examineRead st a = s.fresh.readCandidate st a :=
      State.examineRead_of_not_live s.fresh st a low
    refine ⟨fun idle => ?_, fun idle => ?_⟩
    · refine (exec_read (st := .lookup) a power (fun _ => idle) nofun).trans (congrArg Host.Outcome.next ?_)
      rw [candidate]
      exact settled.settle_path_in_reset low .none rfl
    · refine (exec_read (st := .maintenance) a power nofun fun _ => idle).trans (congrArg Host.Outcome.next ?_)
      rw [candidate]
      exact settled.settle_path_in_reset low .none rfl

/-! ### Answers in order (R3, R12) -/

/-- READ_RESPONSE for an upstream read. -/
theorem exec_readResponse_upstream {st : Stream} {m : Mask} {bytes : Word} {a : Addr} {rest : List ReturnEntry} (status : Status)
    (data : Word) (power : s.chassis.power = true) (oldest : s.path.returns = { requester := .upstream st m bytes, addr := a } :: rest) :
    exec (.readResponse status data) s = .next (State.settle (State.upstreamResponse st (upstreamResult m bytes status data)
      { s.fresh with path := { s.path with returns := rest } })) := by
  have answer : s.fresh.readAnswer status data = State.upstreamResponse st (upstreamResult m bytes status data)
      { s.fresh with path := { s.path with returns := rest } } := by
    rw [State.readAnswer, show s.fresh.path.returns = _ from oldest]
    rfl
  exact congrArg (fun u : State => Host.Outcome.next u.settle) ((if_pos power).trans answer)

/-- The response of the stream's oldest read, the others all waiting, is returned and takes that read away. -/
theorem State.upstreamResponse_of_waiting {st : Stream} {reads : List PendingRead} (r : ReadResult)
    (oldest : s.path.reads st = .waiting :: reads) (waiting : ∀ x ∈ reads, x = .waiting) : s.upstreamResponse st r = { s with
      path := s.path.setReads st reads
      out := { s.out with engine := s.out.engine ++ [(st, r)] } } := by
  have released : releaseAnswers (.answered r :: reads) = ([r], reads) := by
    rw [releaseAnswers, releaseAnswers_of_waiting waiting]
  rw [State.upstreamResponse, oldest, State.returnAnswers]
  simp only [fixOldest, Path.reads_setReads, released, Path.setReads_setReads, List.map_cons, List.map_nil]

/-- Settles O11: the reads of a stream as what is returned and what is left, and the response's way. -/
theorem readsAreAnsweredInOrder : Obligations.ReadsAreAnsweredInOrder := by
  refine ⟨fun st r s => ?_, fun s st m bytes a rest reads data power oldest first waiting => ?_⟩
  · obtain ⟨split, head⟩ := releaseAnswers_eq (fixOldest r (s.path.reads st))
    refine ⟨(releaseAnswers (fixOldest r (s.path.reads st))).1, ?_, ?_, ?_⟩ <;>
      simp only [State.upstreamResponse, State.returnAnswers, Path.reads_setReads]
    · exact split
    · exact head
  · have answered (status : Status) : ∃ t, exec (.readResponse status data) s = .next t ∧ t.path.returns = rest
        ∧ t.out.engine = [(st, upstreamResult m bytes status data)] ∧ t.path.reads st = reads := by
      let v : State := { s.fresh with path := { s.path with returns := rest } }
      have reads' : v.path.reads st = .waiting :: reads := by cases st <;> exact first
      have given := State.upstreamResponse_of_waiting (upstreamResult m bytes status data) reads' waiting
      refine ⟨_, exec_readResponse_upstream status data power oldest, ?_, ?_, ?_⟩
      · rw [State.settle_path_returns, given]
        exact (Path.setReads_kept v.path st reads).1
      · rw [State.settle_out, given]
        rfl
      · rw [State.settle_path_of_quiet (by rw [given]; rfl), given]
        cases st <;> rfl
    exact ⟨answered .ok, answered .fault⟩

/-! ### The examination of a write (R4 to R8) -/

theorem spacingOf_eq (level : Nat) :
    spacingOf level = if level = 0 then 0 else if level = 1 then 1 else if level = 2 then 4 else 16 := by
  match level with
  | 0 => rfl
  | 1 => rfl
  | 2 => rfl
  | n + 3 => simp [spacingOf]

theorem State.blocked_iff (a : Addr) :
    s.blocked a = true ↔ s.inTake = true ∧ s.session.layoutInstalled = true ∧ s.classOf a ≠ .localOnly := by
  simp [State.blocked, State.blocking, State.inTake, and_assoc]

theorem State.passRunning_iff : s.passRunning = true ↔ s.session.state = .sweep ∨ s.session.state = .catchup := by
  simp [State.passRunning]

/-- The spacing is short of a recent admission; at throttle level 0 it never is. -/
theorem State.throttleHolds_iff (w : WriteReq) : s.throttleHolds w = true ↔ s.inFeed = true ∧ s.classOf w.addr = .mirror
    ∧ (s.session.state = .sweep ∨ s.session.state = .catchup)
    ∧ ∃ k, s.review.lastAdmitted = some k ∧ s.chassis.tick - k < spacingOf s.review.throttle := by
  have short : (s.review.throttle != 0 && s.spacingShort) = true
      ↔ ∃ k, s.review.lastAdmitted = some k ∧ s.chassis.tick - k < spacingOf s.review.throttle := by
    unfold State.spacingShort
    cases s.review.lastAdmitted with
    | none => simp
    | some k =>
      by_cases off : s.review.throttle = 0
      · simp [off, spacingOf]
      · simp [off]
  rw [State.throttleHolds, Bool.and_assoc, Bool.and_eq_true, short, Bool.and_eq_true, Bool.and_eq_true, State.passRunning_iff, beq_iff_eq]
  tauto

theorem Freeze.fullFor_iff (f : Freeze) (a : Addr) : f.fullFor a = true ↔ f.find a = none ∧ 4096 ≤ f.entries.length := by
  rw [Freeze.fullFor, Bool.and_eq_true, Option.isNone_iff_eq_none, decide_eq_true_eq]
  exact Iff.rfl

theorem State.holds_iff (w : WriteReq) : s.holds w = true ↔ s.inFeed = true ∧ s.classOf w.addr = .mirror
    ∧ (((s.session.state = .sweep ∨ s.session.state = .catchup)
          ∧ ∃ k, s.review.lastAdmitted = some k ∧ s.chassis.tick - k < spacingOf s.review.throttle)
      ∨ (s.session.state = .freeze ∧ s.freeze.find w.addr = none ∧ 4096 ≤ s.freeze.entries.length) ∨ s.session.state = .handover) := by
  rw [State.holds, Bool.or_eq_true, Bool.or_eq_true, State.throttleHolds_iff]
  simp only [State.overlayHolds, State.handoverHolds, Bool.and_eq_true, beq_iff_eq, Freeze.fullFor_iff]
  by_cases feed : s.inFeed = true
  · by_cases mirror : s.classOf w.addr = .mirror
    · simp [feed, mirror, or_assoc]
    · simp [mirror]
  · simp [feed]

theorem State.absorbs_iff (w : WriteReq) : s.absorbs w = true ↔ s.inFeed = true
    ∧ ((s.session.state = .freeze ∧ s.classOf w.addr = .mirror) ∨ (s.session.state = .replay ∧ s.freeze.find w.addr ≠ none)) := by
  simp [State.absorbs, Option.isSome_iff_ne_none]

theorem RegionClass.tracked_iff (c : RegionClass) : c.tracked = true ↔ c = .mirror ∨ c = .snapshot := by
  cases c <;> simp [RegionClass.tracked]

/-- An admitted write changes the review unit alone (R113, R123). -/
theorem State.admitWrite_eq (w : WriteReq) (s : State) : s.admitWrite w = { s with review := (s.admitWrite w).review } := by
  unfold State.admitWrite
  split <;> rfl

theorem State.admitWrite_review (w : WriteReq) (s : State) : (s.admitWrite w).review =
    if s.inFeed = true ∧ (s.classOf w.addr = .mirror ∨ s.classOf w.addr = .snapshot) then
      { s.review with
        w := if s.session.state = .sweep ∨ s.session.state = .catchup then min Config.top32 (s.review.w + 1) else s.review.w
        lastAdmitted := some s.chassis.tick }
    else s.review := by
  simp only [State.admitWrite, Bool.and_eq_true, RegionClass.tracked_iff, State.passRunning_iff]
  split <;> rfl

/-- What the examination of a write makes of path, overlay and review unit, in the order of R4. -/
theorem State.examineWrite_unexamined {w : WriteReq} (h : s.live = false ∨ w.mask = 0) : s.examineWrite w = s.writeCandidate w := by
  refine if_pos ?_
  obtain low | empty := h
  · simp [low]
  · simp [empty]

section Examined

variable {w : WriteReq} (live : s.live = true) (mask : w.mask ≠ 0)

include live mask

theorem State.examined_seen : ¬ (!s.live || w.mask == 0) = true := by simpa [live] using mask

theorem State.examineWrite_of_blocked (blocked : s.blocked w.addr = true) : s.examineWrite w =
    { s with path := { s.path with maint := .empty, blocked := satAdd Config.top32 s.path.blocked 1 } } := by
  rw [State.examineWrite, if_neg (State.examined_seen live mask), if_pos blocked]

theorem State.examineWrite_of_held (free : ¬ s.blocked w.addr = true) (held : s.holds w = true) :
    s.examineWrite w = { s with path := { s.path with maint := .held w } } := by
  rw [State.examineWrite, if_neg (State.examined_seen live mask), if_neg free, if_pos held]

theorem State.examineWrite_of_absorbed (free : ¬ s.blocked w.addr = true) (passes : ¬ s.holds w = true) (kept : s.absorbs w = true) :
    s.examineWrite w = { s with
      path := { s.path with maint := .empty }, freeze := s.freeze.capture w, review := (s.admitWrite w).review } := by
  rw [State.examineWrite, if_neg (State.examined_seen live mask), if_neg free, if_neg passes, if_pos kept, State.admitWrite_eq]

theorem State.examineWrite_of_candidate (free : ¬ s.blocked w.addr = true) (passes : ¬ s.holds w = true)
    (stays : ¬ s.absorbs w = true) :
    s.examineWrite w = { s with path := { s.path with maint := .write w }, review := (s.admitWrite w).review } := by
  rw [s.examineWrite_of_admitted w live mask (by simpa using free) (by simpa using passes) (by simpa using stays), State.admitWrite_eq]
  rfl

end Examined

/-- A stream with no request under treatment takes the write. -/
theorem exec_maintenanceWrite (a : Addr) (data : Word) (mask : Mask) (power : s.chassis.power = true) (idle : s.path.maint = .empty) :
    exec (.maintenanceWrite a data mask) s = .next (s.fresh.examineWrite { addr := a, data := data, mask := mask }).settle := by
  refine congrArg (fun u : State => Host.Outcome.next u.settle) (if_pos ?_)
  simp [State.fresh, power, idle]

/-- Settles O12: one case per outcome of the examination, in the order of R4. -/
theorem writesAreExamined : Obligations.WritesAreExamined := by
  refine ⟨fun a data mask s live idle => ?_, fun a data mask s power reset settled idle => ?_⟩
  · intro w st spacing blocked held kept admitted
    have quiet : (s.fresh.examineWrite w).signals.reexamine = false := by rw [State.examineWrite_signals]; rfl
    have dirtied : (s.fresh.examineWrite w).signals.dirtied = false := by rw [State.examineWrite_signals]; rfl
    have blocked_iff : s.fresh.blocked w.addr = true ↔ blocked := s.fresh.blocked_iff a
    have held_iff : s.fresh.holds w = true ↔ held := by
      rw [State.holds_iff, spacingOf_eq]
      exact Iff.rfl
    have kept_iff : s.fresh.absorbs w = true ↔ kept := s.fresh.absorbs_iff w
    have review : (s.fresh.admitWrite w).review = admitted := s.fresh.admitWrite_review w
    have path := State.settle_path_of_quiet quiet
    have freeze := State.settle_freeze_of_quiet _ quiet
    have examined := State.settle_review_of_quiet quiet
    refine ⟨_, exec_maintenanceWrite a data mask (State.power_of_live live) idle, ?_, ?_, ?_, ?_, ?_, ?_, ?_, ?_, ?_, ?_, ?_⟩
    · rw [State.settle_out, State.examineWrite_out]; rfl
    · rw [State.settle_map, State.examineWrite_map]; rfl
    · rw [State.settle_walker, State.examineWrite_walker]; rfl
    · rw [State.settle_path_lookup, State.examineWrite_path_lookup]; rfl
    · rw [State.settle_path_returns, State.examineWrite_path_returns]; rfl
    · rw [State.settle_session _ (.inl dirtied), State.examineWrite_session]; rfl
    all_goals rw [path, freeze, examined]
    · intro empty
      rw [State.examineWrite_unexamined (.inr empty)]
      exact ⟨rfl, rfl, rfl, rfl⟩
    · intro covers isBlocked
      rw [State.examineWrite_of_blocked (s := s.fresh) live covers (blocked_iff.2 isBlocked)]
      exact ⟨rfl, rfl, rfl, rfl⟩
    · intro covers notBlocked isHeld
      rw [State.examineWrite_of_held (s := s.fresh) live covers (mt blocked_iff.1 notBlocked) (held_iff.2 isHeld)]
      exact ⟨rfl, rfl, rfl, rfl⟩
    · intro covers notBlocked notHeld isKept
      rw [State.examineWrite_of_absorbed (s := s.fresh) live covers (mt blocked_iff.1 notBlocked) (mt held_iff.1 notHeld)
        (kept_iff.2 isKept), review]
      exact ⟨rfl, rfl, rfl, rfl⟩
    · intro covers notBlocked notHeld notKept
      rw [State.examineWrite_of_candidate (s := s.fresh) live covers (mt blocked_iff.1 notBlocked) (mt held_iff.1 notHeld)
        (mt kept_iff.1 notKept), review]
      exact ⟨rfl, rfl, rfl, rfl⟩
  · have low : s.live = false := by simp [State.live, reset]
    refine (exec_maintenanceWrite a data mask power idle).trans (congrArg Host.Outcome.next ?_)
    rw [State.examineWrite_unexamined (s := s.fresh) (.inl low)]
    exact settled.settle_path_in_reset low .none rfl

end Sys2Proof.Machine
end

section
/-! PROOFS. What a read of a word returns, over overlay and memory (O15). -/

namespace Sys2Proof.Machine

open Sys2Proof

variable (f : Freeze) (w : WriteReq)

/-! ### The bits that a mask covers -/

/-- One byte covered: the bits of byte `i` are joined to those covered so far. -/
theorem coverByte_getElem (m : Mask) (acc : Word) (i j : Nat) (hj : j < 64) :
    (coverByte m acc i)[j] = (acc[j] || (i == j / 8 && m.getLsbD i)) := by
  have byte : ((0xFF : Word) <<< (8 * i))[j] = (i == j / 8) := by
    have ones (k : Nat) : (0xFF : Word).getLsbD k = decide (k < 8) := by
      rw [show (0xFF : Word) = (BitVec.allOnes 8).setWidth 64 from rfl, BitVec.getLsbD_setWidth, BitVec.getLsbD_allOnes]
      by_cases small : k < 8
      · simp [small]; omega
      · simp [small]
    rw [BitVec.getElem_shiftLeft, ← BitVec.getLsbD_eq_getElem, ones]
    rw [Bool.eq_iff_iff, Bool.and_eq_true, Bool.not_eq_true', decide_eq_false_iff_not, decide_eq_true_eq, beq_iff_eq]
    omega
  unfold coverByte
  cases m.getLsbD i
  · rw [if_neg Bool.false_ne_true, Bool.and_false, Bool.or_false]
  · rw [if_pos rfl, BitVec.getElem_or, byte, Bool.and_true]

/-- Bit `j` of a word belongs to byte `j / 8`. -/
theorem maskBits_getElem (m : Mask) (j : Nat) (hj : j < 64) : (maskBits m)[j] = m.getLsbD (j / 8) := by
  have upTo (l : List Nat) (acc : Word) : (l.foldl (coverByte m) acc)[j] = (acc[j] || (l.contains (j / 8) && m.getLsbD (j / 8))) := by
    induction l generalizing acc with
    | nil => simp
    | cons i l ih =>
      rw [List.foldl_cons, ih, coverByte_getElem m acc i j hj]
      by_cases here : i = j / 8
      · rw [here, beq_self_eq_true, Bool.true_and, List.contains_cons, beq_self_eq_true, Bool.true_or, Bool.true_and, Bool.or_assoc]
        cases m.getLsbD (j / 8) <;> simp
      · rw [beq_eq_false_iff_ne.2 here, Bool.false_and, Bool.or_false, List.contains_cons, beq_eq_false_iff_ne.2 (Ne.symm here),
          Bool.false_or]
  rw [maskBits_eq_foldl, upTo]
  simp
  omega

theorem mergeBytes_getElem (m : Mask) (new old : Word) (j : Nat) (hj : j < 64) :
    (mergeBytes m new old)[j] = if m.getLsbD (j / 8) then new[j] else old[j] := by
  simp only [mergeBytes, BitVec.getElem_or, BitVec.getElem_and, BitVec.getElem_not, maskBits_getElem]
  cases m.getLsbD (j / 8) <;> simp

/-- Bytes a mask does not cover are not seen through it. -/
theorem mergeBytes_keepBytes (m : Mask) (new old : Word) : mergeBytes m (keepBytes m new) old = mergeBytes m new old := by
  ext j hj
  rw [mergeBytes_getElem, mergeBytes_getElem, keepBytes, BitVec.getElem_and, maskBits_getElem]
  cases m.getLsbD (j / 8) <;> simp

/-- Bytes that a write has taken from an entry's mask are the write's, in memory (R140). -/
theorem mergeBytes_superseded (p m : Mask) (d new old : Word) :
    mergeBytes (p &&& ~~~ m) d (mergeBytes m new old) = mergeBytes m new (mergeBytes p d old) := by
  ext j hj
  have byte : j / 8 < 8 := by omega
  simp only [mergeBytes_getElem, BitVec.getLsbD_and, BitVec.getLsbD_not, byte, decide_true, Bool.true_and]
  cases m.getLsbD (j / 8) <;> cases p.getLsbD (j / 8) <;> rfl

/-! ### The view of a word -/

theorem Freeze.view_of_found {a : Addr} {e : OverlayEntry} (found : f.find a = some e) (mem : Word) :
    f.view a mem = mergeBytes e.mask e.data mem := by
  rw [Freeze.view, found]

theorem Freeze.view_of_absent {a : Addr} (absent : f.find a = none) (mem : Word) : f.view a mem = mem := by
  rw [Freeze.view, absent]

/-- A view looks at the entry found alone. -/
theorem Freeze.view_congr {f g : Freeze} {a : Addr} (same : g.find a = f.find a) (mem : Word) : g.view a mem = f.view a mem := by
  rw [Freeze.view, Freeze.view, same]

/-- A captured write is seen at its address (R127, R129). -/
theorem Freeze.view_capture (mem : Word) : (f.capture w).view w.addr mem = mergeBytes w.mask w.data (f.view w.addr mem) := by
  cases found : f.find w.addr with
  | none =>
    have entry : (f.capture w).find w.addr = some (OverlayEntry.ofWrite w) := by
      rw [f.capture_of_not_found w found, f.find_append, found]
      exact if_pos rfl
    rw [Freeze.view_of_found _ entry, f.view_of_absent found]
    exact mergeBytes_keepBytes w.mask w.data mem
  | some e =>
    have entry : (f.capture w).find w.addr = some (e.merge w) := by
      rw [f.capture_find_of_found w found, found, Option.map_some, OverlayEntry.mergedBy_same w (Freeze.addr_of_find found)]
    rw [Freeze.view_of_found _ entry, f.view_of_found found]
    exact mergeBytes_or w.mask e.mask w.data e.data mem

/-! ### Supersession (R140) -/

theorem OverlayEntry.supersede_other {e : OverlayEntry} (other : e.addr ≠ w.addr) : e.supersede w = some e := if_neg other

/-- With no two entries at one address, a lookup finds what the write leaves of what it found. -/
theorem find_supersede (a : Addr) (es : List OverlayEntry) (distinct : (es.map OverlayEntry.addr).Nodup) :
    (es.filterMap (OverlayEntry.supersede w)).find? (fun e => e.addr == a)
      = (es.find? fun e => e.addr == a).bind (OverlayEntry.supersede w) := by
  induction es with
  | nil => rfl
  | cons e es ih =>
    obtain ⟨apart, distinct⟩ := List.nodup_cons.1 distinct
    have rest := ih distinct
    rw [List.filterMap_cons]
    by_cases here : e.addr = a
    · rw [List.find?_cons_of_pos (by simpa using here), Option.bind_some]
      cases left : e.supersede w with
      | none =>
        refine List.find?_eq_none.2 fun o mem same => apart ?_
        have there := (Silent.supersede_addrs w es).subset (List.mem_map_of_mem mem)
        rwa [here, ← show o.addr = a by simpa using same]
      | some o => exact List.find?_cons_of_pos (by simpa [Silent.supersede_addr left] using here)
    · rw [List.find?_cons_of_neg (by simpa using here)]
      cases left : e.supersede w with
      | none => exact rest
      | some o =>
        rw [← rest]
        exact List.find?_cons_of_neg (by simpa [Silent.supersede_addr left] using here)

theorem State.supersede_entries (s : State) :
    (s.supersede w).freeze = { s.freeze with entries := s.freeze.entries.filterMap (OverlayEntry.supersede w) } := by
  unfold State.supersede
  dsimp only
  split <;> rfl

/-- A granted write and what it leaves of the overlay show the word as the write made it. -/
theorem State.view_supersede (s : State) (distinct : (s.freeze.entries.map OverlayEntry.addr).Nodup) (mem : Word) :
    (s.supersede w).freeze.view w.addr (mergeBytes w.mask w.data mem) = mergeBytes w.mask w.data (s.freeze.view w.addr mem) := by
  have looked : (s.supersede w).freeze.find w.addr = (s.freeze.find w.addr).bind (OverlayEntry.supersede w) := by
    rw [State.supersede_entries]
    exact find_supersede w w.addr s.freeze.entries distinct
  cases found : s.freeze.find w.addr with
  | none => rw [Freeze.view_of_absent _ (by rw [looked, found]; rfl), Freeze.view_of_absent _ found]
  | some e =>
    rw [found, Option.bind_some] at looked
    rw [Freeze.view_of_found _ found, ← mergeBytes_superseded]
    unfold OverlayEntry.supersede at looked
    rw [if_pos (Freeze.addr_of_find found)] at looked
    by_cases gone : e.mask &&& ~~~ w.mask = 0
    · rw [Freeze.view_of_absent _ (by rw [looked]; exact if_pos gone), gone, mergeBytes_zero]
    · rw [Freeze.view_of_found _ (looked.trans (if_neg gone))]
      exact mergeBytes_keepBytes _ _ _

theorem State.view_supersede_other {a : Addr} (s : State) (distinct : (s.freeze.entries.map OverlayEntry.addr).Nodup)
    (other : a ≠ w.addr) (mem : Word) : (s.supersede w).freeze.view a mem = s.freeze.view a mem := by
  refine Freeze.view_congr ?_ mem
  rw [State.supersede_entries]
  refine (find_supersede w a s.freeze.entries distinct).trans ?_
  cases found : s.freeze.find a with
  | none => rw [show s.freeze.entries.find? _ = none from found]; rfl
  | some e =>
    rw [show s.freeze.entries.find? _ = some e from found]
    exact OverlayEntry.supersede_other w (by rwa [Freeze.addr_of_find found])

/-! ### Retirement (R133, R139) -/

/-- An entry is what a lookup of its address finds. -/
theorem find_of_mem {es : List OverlayEntry} (distinct : (es.map OverlayEntry.addr).Nodup) {e : OverlayEntry} (mem : e ∈ es) :
    es.find? (fun x => x.addr == e.addr) = some e := by
  induction es with
  | nil => cases mem
  | cons x es ih =>
    obtain ⟨apart, distinct⟩ := List.nodup_cons.1 distinct
    obtain rfl | mem := List.mem_cons.1 mem
    · exact List.find?_cons_of_pos (by simp)
    · have other : x.addr ≠ e.addr := fun same => apart (same ▸ List.mem_map_of_mem mem)
      rw [List.find?_cons_of_neg (by simpa using other)]
      exact ih distinct mem

theorem Freeze.find_dropEntry (s : State) (b a : Addr) :
    (s.dropEntry b).freeze.find a = if a = b then none else s.freeze.find a := by
  show (s.freeze.entries.filter fun e => decide (e.addr ≠ b)).find? _ = _
  rw [List.find?_filter]
  split
  · next same =>
    refine List.find?_eq_none.2 fun e _ => ?_
    simp [same]
  · next other =>
    refine congrArg (fun p => List.find? p s.freeze.entries) (funext fun e => ?_)
    by_cases here : e.addr = a
    · simp [here, other]
    · simp [here]

/-- Settles O15: capture, supersession and retirement, each at the address it is about and elsewhere. -/
theorem overlayKeepsEveryWordsView : Obligations.OverlayKeepsEveryWordsView := by
  intro s w a mem distinct
  refine ⟨?_, ?_, fun e mem' => ?_⟩
  · split
    · next same => rw [same]; exact s.freeze.view_capture w mem
    · next other => exact Freeze.view_congr (s.freeze.capture_find_other w other) mem
  · split
    · next same => rw [same]; exact s.view_supersede w distinct mem
    · next other => exact s.view_supersede_other w distinct other mem
  · have looked := Freeze.find_dropEntry s e.addr a
    split
    · next same =>
      rw [if_pos same] at looked
      have found : s.freeze.find a = some e := by rw [same]; exact find_of_mem distinct mem'
      rw [Freeze.view_of_absent _ looked, Freeze.view_of_found _ found]
    · next other =>
      rw [if_neg other] at looked
      exact Freeze.view_congr looked mem

end Sys2Proof.Machine
end

section
/-! PROOFS. The responses of staging reads (O27). -/

namespace Sys2Proof.Machine

open Sys2Proof

variable {s t u : State}

/-! ### Who waits -/

/-- A part requester waits where it offers a request, a read only with room in the return list (R12, R13). -/
theorem State.waits_iff {r : Requester} :
    s.waits r = true ↔ ∃ q, s.offer r = some q ∧ ∀ a, q = .read a → s.path.returns.length < Config.returnPlaces := by
  refine ⟨State.offer_of_waits, fun ⟨q, offer, room⟩ => ?_⟩
  rw [State.waits, offer]
  cases q with
  | read a => exact decide_eq_true (room a rfl)
  | write a d m => rfl

/-- A place that becomes free in the return list makes nobody stop waiting. -/
theorem State.waits_of_freed {e : ReturnEntry} {rest : List ReturnEntry} {r : Requester} (oldest : s.path.returns = e :: rest)
    (waits : s.waits r = true) : ({ s with path := { s.path with returns := rest } } : State).waits r = true := by
  obtain ⟨q, offer, room⟩ := State.waits_iff.1 waits
  refine State.waits_iff.2 ⟨q, offer, fun a read => ?_⟩
  have before := room a read
  rw [oldest] at before
  exact (Nat.lt_succ_self _).trans before

/-! ### A response at its buffer (R52) -/

/-- What a response makes of the words of its buffer. -/
theorem Buffer.respond_words (b : Buffer) (i : Nat) (status : Status) (data : Word) (k : Fin 64) :
    (b.respond i status data).words[k] =
      if k.val ≠ i then b.words[k]
      else if status = .ok then
        { b.words[k] with arrived := true, data := mergeBytes b.words[k].patch b.words[k].data data, patch := 0 }
      else { b.words[k] with arrived := true } := by
  have word : (b.respond i status data).words[k] = if k.val = i then StageWord.respond status data b.words[k] else b.words[k] := by
    simp [Buffer.respond, Buffer.modifyWord]
  rw [word]
  by_cases here : k.val = i
  · cases status <;> simp [here, StageWord.respond]
  · simp [here]

section Response

variable {second : Bool} {i use : Nat} {status : Status} {data : Word}

/-- A response whose tag is no buffer's is discarded. -/
theorem State.stagingResponse_discarded (other : ∀ b, s.walker.buf second = some b → b.use ≠ use) :
    s.stagingResponse second i use status data = s := by
  unfold State.stagingResponse
  split
  · rfl
  · next b here => exact if_neg (other b here)

variable {b : Buffer} (here : s.walker.buf second = some b) (tag : b.use = use)

include here tag

/-- A response before the 64th is counted. -/
theorem State.stagingResponse_counted (more : b.responses < 63) : s.stagingResponse second i use status data =
    { s with walker := s.walker.setBuf second (some (b.respond i status data)) } := by
  have counted : (b.respond i status data).responses < 64 := Nat.succ_lt_succ more
  simp only [State.stagingResponse, here, if_pos tag, if_pos counted]

/-- The 64th with all OK makes the buffer WAITING. -/
theorem State.stagingResponse_complete (last : b.responses = 63) (good : (b.respond i status data).faultSeen = false) :
    s.stagingResponse second i use status data =
      { s with walker := s.walker.setBuf second (some { b.respond i status data with waiting := true }) } := by
  have counted : ¬ (b.respond i status data).responses < 64 := by simp [Buffer.respond, last]
  simp only [State.stagingResponse, here, if_pos tag, if_neg counted, good, if_neg Bool.false_ne_true]

/-- The 64th with a FAULT among them is the segment's source fault. -/
theorem State.stagingResponse_faulted (last : b.responses = 63) (bad : (b.respond i status data).faultSeen = true) :
    s.stagingResponse second i use status data = s.sourceFault second b.segment := by
  have counted : ¬ (b.respond i status data).responses < 64 := by simp [Buffer.respond, last]
  simp only [State.stagingResponse, here, if_pos tag, if_neg counted, bad, if_pos]
  rfl

end Response

/-- READ_RESPONSE for a staging read. -/
theorem exec_readResponse_walk {second : Bool} {i use : Nat} {a : Addr} {rest : List ReturnEntry} (status : Status) (data : Word)
    (power : s.chassis.power = true) (oldest : s.path.returns = { requester := .walk second i use, addr := a } :: rest) :
    exec (.readResponse status data) s = .next (State.settle (State.stagingResponse second i use status data
      { s.fresh with path := { s.path with returns := rest } })) := by
  have answer : s.fresh.readAnswer status data = State.stagingResponse second i use status data
      { s.fresh with path := { s.path with returns := rest } } := by
    rw [State.readAnswer, show s.fresh.path.returns = _ from oldest]
    rfl
  exact congrArg (fun u : State => Host.Outcome.next u.settle) ((if_pos power).trans answer)

/-! ### The source fault (R55) -/

/-- A source fault with the cursor at no segment to be copied, so that the freed buffer stays FREE. -/
theorem State.sourceFault_of_rest (second : Bool) (n : Segment)
    (rest : ∀ i m, s.walker.cursor = some i → (walkOrder s.regions)[i]? = some m → s.toCopy (s.map.get m) = false) :
    s.sourceFault second n = (State.enterFault n .source
      { s.changeSeg n openToSrcFault with walker := s.walker.setBuf second none }).recordFault .sourceFault := by
  let u := (State.enterFault n .source
    { s.changeSeg n openToSrcFault with walker := s.walker.setBuf second none }).recordFault .sourceFault
  have cell (m : Segment) : u.map.get m = if m = n then openToSrcFault (s.map.get m) else s.map.get m :=
    s.changeSeg_get n openToSrcFault m rfl
  have session : u.session = s.session := by simp [u]
  have walker : u.walker = s.walker.setBuf second none := by simp [u]
  have regions : u.regions = s.regions := by simp [u]
  have copies (x : SegState) : u.toCopy x = s.toCopy x := by rw [State.toCopy, State.toCopy, session]
  have stays (x : SegState) (h : s.toCopy x = false) : s.toCopy (openToSrcFault x) = false := by
    cases x
    case opened => rfl
    all_goals exact h
  have unmoved : u.takeIfWaiting = u := by
    refine State.takeIfWaiting_of_none fun i m cursor place => ?_
    rw [walker, Walker.setBuf_cursor] at cursor
    rw [regions] at place
    have before := rest i m cursor place
    rw [copies, cell]
    split
    · exact stays _ before
    · exact before
  exact unmoved

/-- What a source fault leaves at its command's end. -/
theorem State.settle_sourceFault (second : Bool) (n : Segment) (opened : s.map.get n = .opened)
    (rest : ∀ i m, s.walker.cursor = some i → (walkOrder s.regions)[i]? = some m → s.toCopy (s.map.get m) = false) :
    (s.sourceFault second n).settle.map.get n = .srcFault
      ∧ (∀ k, k ≠ n → (s.sourceFault second n).settle.map.get k = s.map.get k)
      ∧ (s.sourceFault second n).settle.walker = s.walker.setBuf second none
      ∧ (s.sourceFault second n).settle.path.returns = s.path.returns
      ∧ (s.sourceFault second n).settle.faults = { s.faults.enter n .source with
          summary := s.faults.summary ||| 0x040#12, first := s.faults.first.or (some .sourceFault) }
      ∧ (s.sourceFault second n).settle.notices.fault.pending = true
      ∧ (s.sourceFault second n).settle.session.state = s.session.state
      ∧ (s.sourceFault second n).settle.report.writing = true := by
  have cell (k : Segment) : (s.changeSeg n openToSrcFault).map.get k = if k = n then openToSrcFault (s.map.get k) else s.map.get k :=
    s.changeSeg_get n openToSrcFault k rfl
  have listed : (s.faults.enter n .source).summary = s.faults.summary ∧ (s.faults.enter n .source).first = s.faults.first := by
    rw [Faults.enter_eq]
    exact ⟨rfl, rfl⟩
  rw [State.sourceFault_of_rest second n rest]
  refine ⟨?_, fun k other => ?_, ?_, ?_, ?_, ?_, ?_, State.settle_writing _ rfl⟩
  · rw [State.settle_map]
    exact (cell n).trans (by rw [if_pos rfl, opened]; rfl)
  · rw [State.settle_map]
    exact (cell k).trans (if_neg other)
  · rw [State.settle_walker]
    rfl
  · rw [State.settle_path_returns]
    rfl
  · rw [State.settle_faults]
    simp only [State.recordFault, State.raise, State.enterFault, State.requestReport, State.changeSeg, State.toldDirty]
    rw [listed.1, listed.2]
    rfl
  · rw [State.settle_notices]
    rfl
  · rw [State.settle_session_state]
    rfl

/-! ### The statement -/

/-- A response that rewrites its buffer alone, at the end of its command. -/
theorem State.settle_walker_update (quiet : s.signals = .none) (out : s.out = .none) (w : Walker) :
    (State.settle { s with walker := w }).path.returns = s.path.returns ∧ (State.settle { s with walker := w }).map = s.map
      ∧ (State.settle { s with walker := w }).faults = s.faults ∧ (State.settle { s with walker := w }).session = s.session
      ∧ (State.settle { s with walker := w }).out = Out.none ∧ (State.settle { s with walker := w }).walker = w := by
  rw [State.settle_path_returns, State.settle_map, State.settle_faults, State.settle_out, State.settle_walker, State.settle_session]
  · exact ⟨rfl, rfl, rfl, rfl, out, rfl⟩
  · exact .inl (by rw [quiet]; rfl)

/-- Settles O27: the response discarded, counted, the last of a good buffer, and the last of a faulted one. -/
theorem sourceFaultAtLastResponse : Obligations.SourceFaultAtLastResponse := by
  intro second s i use a rest status data live oldest
  have event := exec_readResponse_walk status data (State.power_of_live live) oldest
  let v : State := { s.fresh with path := { s.path with returns := rest } }
  refine ⟨fun other settled => ?_, fun b here tag => ⟨fun good => ?_, fun last bad opened resting => ?_⟩⟩
  · rw [event, State.stagingResponse_discarded (s := v) other]
    refine congrArg Host.Outcome.next (settled.settle_path .none fun r idle => ?_)
    obtain ⟨-, -, -, none⟩ := settled
    refine none r (idle.imp_left fun waits => Bool.eq_false_iff.2 fun before => ?_)
    exact absurd (State.waits_of_freed oldest before) (by rw [waits]; exact Bool.false_ne_true)
  · let c : Buffer := { b.respond i status data with waiting := b.waiting || b.responses == 63 }
    have responded : State.stagingResponse second i use status data v = { v with walker := v.walker.setBuf second (some c) } := by
      obtain more | ⟨last, ok, clean⟩ := good
      · rw [State.stagingResponse_counted (s := v) here tag more]
        have early : c = b.respond i status data := by
          simp only [c, beq_eq_false_iff_ne.2 (Nat.ne_of_lt more), Bool.or_false]
          rfl
        rw [early]
      · rw [State.stagingResponse_complete (s := v) here tag last (by simp [Buffer.respond, ok, clean])]
        have late : c = { b.respond i status data with waiting := true } := by
          simp only [c, last, beq_self_eq_true, Bool.or_true]
        rw [late]
    obtain ⟨returns, map, faults, session, out, walker⟩ := State.settle_walker_update (s := v) rfl rfl
      (v.walker.setBuf second (some c))
    rw [event, responded]
    exact ⟨_, rfl, returns, map, faults, session, out, c, walker, rfl, b.respond_words i status data⟩
  · have faulted : (b.respond i status data).faultSeen = true := by
      obtain fault | seen := bad
      · simp [Buffer.respond, fault]
      · simp [Buffer.respond, seen]
    rw [event, State.stagingResponse_faulted (s := v) here tag last faulted]
    obtain ⟨cell, others, walker, returns, faults, notice, state, writing⟩ :=
      State.settle_sourceFault (s := v) second b.segment opened resting
    refine ⟨_, rfl, returns, cell, others, walker, ?_, ?_, ?_, ?_, notice, state, writing⟩ <;> rw [faults]
    · exact Faults.mem_enter _ _ _
    · rfl
    · rfl
    · show s.faults.first.or _ = _
      cases s.faults.first <;> rfl

end Sys2Proof.Machine
end

section
/-! PROOFS. What the grants of the part requesters do (O18). -/

namespace Sys2Proof.Machine

open Sys2Proof

variable {s t u : State} {r : Requester} {q : MemRequest}

/-! ### The grant of a part requester -/

/-- A part requester that wins, for being owed or by level, is granted what it offers, a read only with room in the return list. -/
theorem exec_arbiterGrant_part (power : s.chassis.power = true) (won : s.winner = some (.owed r) ∨ s.winner = some (.byLevel r)) :
    ∃ win q, exec .arbiterGrant s = .next ((s.toGrant win).grantPart r).settle ∧ s.offer r = some q
      ∧ ∀ a, q = .read a → s.path.returns.length < Config.returnPlaces := by
  obtain ⟨q, offer, room⟩ := State.offer_of_waits (State.waits_of_winner won)
  obtain owed | level := won
  · exact ⟨.owed r, q, by rw [exec_arbiterGrant_of_winner power owed, State.grantTo], offer, room⟩
  · exact ⟨.byLevel r, q, by rw [exec_arbiterGrant_of_winner power level, State.grantTo], offer, room⟩

theorem State.offer_eq (live : s.live = true) : s.offer .report = s.reportOffer
    ∧ s.offer .replay = s.overlayOffer.map (fun e => .write e.addr e.data e.mask) ∧ s.offer .apply = s.applyOffer
    ∧ s.offer .fill = s.fillOffer ∧ s.offer .walk = s.walkOffer := by
  simp [State.offer, live]

theorem State.live_of_offer (h : s.offer r = some q) : s.live = true := by
  unfold State.offer at h
  split at h
  · next live => exact live
  · cases h

/-! ### The end of a grant that reports nothing -/

theorem State.settle_report_of_quiet (quiet : s.signals.report = false) : s.settle.report = s.report := by
  have silent : s.examined.clearRuns.serveReport = s.examined.clearRuns := by
    refine if_neg ?_
    have same : s.examined.clearRuns.signals.report = s.signals.report := by simp [State.examined]
    rw [same, quiet]
    exact Bool.false_ne_true
  change s.examined.clearRuns.serveReport.clearSignals.report = _
  rw [silent]
  exact (Silent.examined s).report

/-- What a part requester's grant passes to memory, and to the return list: a write leaves the list. -/
structure Passed (v u : State) (q : MemRequest) : Prop where
  mem : u.out.mem = v.out.mem ++ [q]
  returns : (∀ a, q ≠ .read a) → u.path.returns = v.path.returns

/-! ### WALK (R49) -/

theorem readsLeft_iff {o : Option Buffer} : readsLeft o = true ↔ ∃ b, o = some b ∧ b.waiting = false ∧ b.nextRead < 64 := by
  cases o with
  | none => simp [readsLeft]
  | some b => simp [readsLeft]

/-- The buffer offering has reads left, and of two the one taken first is it. -/
theorem Walker.offering_spec {w : Walker} {second : Bool} (h : w.offering = some second) :
    ∃ b, w.buf second = some b ∧ b.waiting = false ∧ b.nextRead < 64
      ∧ ∀ o, w.buf (!second) = some o → o.waiting = false → o.nextRead < 64 → b.use ≤ o.use := by
  have none {o : Option Buffer} (empty : readsLeft o = false) (b : Buffer) (there : o = some b) (w : b.waiting = false)
      (n : b.nextRead < 64) : False := by
    rw [readsLeft_iff.2 ⟨b, there, w, n⟩] at empty
    cases empty
  unfold Walker.offering at h
  cases left0 : readsLeft w.buf0 <;> cases left1 : readsLeft w.buf1 <;> rw [left0, left1] at h <;> dsimp only at h
  · cases h
  · cases h
    obtain ⟨b, there, waiting, next⟩ := readsLeft_iff.1 left1
    exact ⟨b, there, waiting, next, fun o other w n => (none left0 o other w n).elim⟩
  · cases h
    obtain ⟨b, there, waiting, next⟩ := readsLeft_iff.1 left0
    exact ⟨b, there, waiting, next, fun o other w n => (none left1 o other w n).elim⟩
  · obtain ⟨b0, there0, waiting0, next0⟩ := readsLeft_iff.1 left0
    obtain ⟨b1, there1, waiting1, next1⟩ := readsLeft_iff.1 left1
    rw [there0, there1] at h
    by_cases first : b1.use < b0.use
    · obtain rfl : second = true := by simpa [first] using h.symm
      refine ⟨b1, there1, waiting1, next1, fun o other _ _ => ?_⟩
      cases (show w.buf0 = some o from other).symm.trans there0
      exact first.le
    · obtain rfl : second = false := by simpa [first] using h.symm
      refine ⟨b0, there0, waiting0, next0, fun o other _ _ => ?_⟩
      cases (show w.buf1 = some o from other).symm.trans there1
      exact Nat.le_of_not_lt first

theorem Buffer.grantRead_words (b : Buffer) (k : Fin 64) : b.grantRead.words[k] =
    if k.val = b.nextRead then { b.words[k] with granted := true } else b.words[k] := by
  simp [Buffer.grantRead, Buffer.modifyWord]

/-- WALK's grant reads the next word of the buffer offering. -/
theorem State.grantWalk_of_offering {second : Bool} {b : Buffer} (offering : s.walker.offering = some second)
    (here : s.walker.buf second = some b) : s.grantWalk = State.issueRead (.walk second b.nextRead b.use) (wordAddr b.segment b.nextRead)
      { s with walker := s.walker.setBuf second (some b.grantRead) } := by
  simp only [State.grantWalk, offering, here]

theorem State.walkOffer_iff : s.walkOffer = some q ↔
    ∃ second b, s.walker.offering = some second ∧ s.walker.buf second = some b ∧ q = .read (wordAddr b.segment b.nextRead) := by
  unfold State.walkOffer
  cases offering : s.walker.offering with
  | none => simp
  | some second =>
    cases here : s.walker.buf second with
    | none => simp [here]
    | some b => simp [here, eq_comm]

/-! ### APPLY and FILL (R94, R105) -/

theorem VerifyJob.offer_of_write {j : VerifyJob} {i : VerifyItem} {ws : List VerifyItem} (writes : j.writes = i :: ws) :
    j.offer = some (.write i.addr i.data i.mask) ∧ j.granted = { j with writes := ws } := by
  simp [VerifyJob.offer, VerifyJob.granted, writes]

theorem VerifyJob.offer_of_read {j : VerifyJob} {i : VerifyItem} {rs : List VerifyItem} (writes : j.writes = []) (reads : j.reads = i :: rs) :
    j.offer = some (.read i.addr) ∧ j.granted = { j with reads := rs, awaiting := j.awaiting ++ [i] } := by
  simp [VerifyJob.offer, VerifyJob.granted, writes, reads]

theorem VerifyJob.offer_none {j : VerifyJob} (writes : j.writes = []) (reads : j.reads = []) : j.offer = none := by
  simp [VerifyJob.offer, writes, reads]

/-- A job's grant, as its offer has it. -/
theorem State.grantJob_of_write (k : ReadFor) {j : VerifyJob} {i : VerifyItem} {ws : List VerifyItem} (writes : j.writes = i :: ws)
    (s : State) : s.grantJob k j = s.toMemory (.write i.addr i.data i.mask) := by
  simp only [State.grantJob, (VerifyJob.offer_of_write writes).1]

theorem State.grantJob_of_read (k : ReadFor) {j : VerifyJob} {i : VerifyItem} {rs : List VerifyItem} (writes : j.writes = [])
    (reads : j.reads = i :: rs) (s : State) : s.grantJob k j = s.issueRead k i.addr := by
  simp only [State.grantJob, (VerifyJob.offer_of_read writes reads).1]

theorem State.grantApply_of_some {a : ApplyWork} (here : s.take.apply = some a) : s.grantApply = State.grantJob (.apply a.job.use) a.job
    { s with take := { s.take with apply := some { a with job := a.job.granted } } } := by
  simp only [State.grantApply, here]

theorem State.grantFill_of_some {f : FillWork} (here : s.take.fill = some f) : s.grantFill = State.grantJob (.fill f.job.use) f.job
    { s with take := { s.take with fill := some { f with job := f.job.granted } } } := by
  simp only [State.grantFill, here]

theorem State.applyOffer_some (h : s.applyOffer = some q) : ∃ a, s.take.apply = some a ∧ a.job.offer = some q := by
  unfold State.applyOffer at h
  split at h
  · exact Option.bind_eq_some_iff.1 h
  · cases h

theorem State.fillOffer_some (h : s.fillOffer = some q) : ∃ f, s.take.fill = some f ∧ f.job.offer = some q := by
  unfold State.fillOffer at h
  split at h
  · exact Option.bind_eq_some_iff.1 h
  · cases h

/-! ### REPLAY (R133, R139) -/

/-- The state in which the overlay's write has left for memory, and its mirror record, if it has one, for the queue. -/
def State.replayed (e : OverlayEntry) (s : State) : State :=
  if e.flushing then s.toMemory (.write e.addr e.data e.mask) else (s.toMemory (.write e.addr e.data e.mask)).placeReplay e

theorem State.grantReplay_of_some {e : OverlayEntry} (here : s.overlayOffer = some e) :
    s.grantReplay = ((s.replayed e).dropEntry e.addr).endReplay := by
  simp only [State.grantReplay, here]
  rfl

/-- What the overlay's write changes before its entry leaves: memory and queue. -/
theorem State.replayed_eq (e : OverlayEntry) (s : State) : s.replayed e = { s with
    out := { s.out with mem := s.out.mem ++ [.write e.addr e.data e.mask] }
    feed := { s.feed with queue := (s.replayed e).feed.queue } } := by
  unfold State.replayed State.placeReplay
  split
  · rfl
  · split <;> rfl

/-! ### What is passed to memory -/

theorem State.grantJob_passed (k : ReadFor) {j : VerifyJob} (offer : j.offer = some q) (s : State) : Passed s (s.grantJob k j) q := by
  unfold State.grantJob
  rw [offer]
  cases q with
  | read a => exact ⟨rfl, fun other => absurd rfl (other a)⟩
  | write a d m => exact ⟨rfl, fun _ => rfl⟩

/-- Whoever is granted, memory is passed what the requester offers. -/
theorem State.grantPart_passed (offer : s.offer r = some q) : Passed s (s.grantPart r) q := by
  obtain ⟨report, replay, apply, fill, walk⟩ := State.offer_eq (State.live_of_offer offer)
  cases r with
  | report =>
    rw [report] at offer
    have kept (v : State) : v.grantReport.out = v.out ∧ v.grantReport.path = v.path := by
      unfold State.grantReport
      dsimp only
      split
      · exact ⟨rfl, rfl⟩
      · split <;> exact ⟨rfl, rfl⟩
    have granted : s.grantPart .report = (s.toMemory q).grantReport := by
      show s.grantReportWord = _
      simp only [State.grantReportWord, offer]
    obtain ⟨out, path⟩ := kept (s.toMemory q)
    rw [granted]
    exact ⟨by rw [out]; rfl, fun _ => by rw [path]; rfl⟩
  | replay =>
    rw [replay] at offer
    obtain ⟨e, here, rfl⟩ := Option.map_eq_some_iff.1 offer
    rw [show s.grantPart .replay = s.grantReplay from rfl, State.grantReplay_of_some here]
    constructor
    · rw [State.endReplay_out, State.dropEntry_out, State.replayed_eq]
    · intro _
      rw [State.endReplay_path, State.dropEntry_path, State.replayed_eq]
  | apply =>
    obtain ⟨a, here, job⟩ := State.applyOffer_some (apply.symm.trans offer)
    have passed := State.grantJob_passed (.apply a.job.use) job
      { s with take := { s.take with apply := some { a with job := a.job.granted } } }
    rw [show s.grantPart .apply = s.grantApply from rfl, State.grantApply_of_some here]
    exact ⟨passed.mem, passed.returns⟩
  | fill =>
    obtain ⟨f, here, job⟩ := State.fillOffer_some (fill.symm.trans offer)
    have passed := State.grantJob_passed (.fill f.job.use) job
      { s with take := { s.take with fill := some { f with job := f.job.granted } } }
    rw [show s.grantPart .fill = s.grantFill from rfl, State.grantFill_of_some here]
    exact ⟨passed.mem, passed.returns⟩
  | walk =>
    obtain ⟨second, b, offering, here, rfl⟩ := State.walkOffer_iff.1 (walk.symm.trans offer)
    rw [show s.grantPart .walk = s.grantWalk from rfl, State.grantWalk_of_offering offering here]
    exact ⟨rfl, fun other => absurd rfl (other _)⟩

/-! ### The statement, part by part -/

/-- No part requester's grant gives more than its read to a list with room: a full return list stays as it is (R12). -/
theorem exec_arbiterGrant_full (power : s.chassis.power = true) (done : exec .arbiterGrant s = .next t)
    (full : Config.returnPlaces ≤ s.path.returns.length) : t.path.returns = s.path.returns := by
  have part {r : Requester} (won : s.winner = some (.owed r) ∨ s.winner = some (.byLevel r)) : t.path.returns = s.path.returns := by
    obtain ⟨win, q, event, offer, room⟩ := exec_arbiterGrant_part power won
    cases event.symm.trans done
    rw [State.settle_path_returns]
    exact (State.grantPart_passed (s := s.toGrant win) offer).returns fun a read => absurd (room a read) (Nat.not_lt.2 full)
  cases won : s.winner with
  | none =>
    cases (exec_arbiterGrant_of_none won).symm.trans done
    exact State.settle_path_returns _
  | some w =>
    cases w with
    | upstream =>
      have noLookup := State.not_ready_lookup (s := s) (.inr full)
      have waits := State.upstreamWaits_of_winner won
      rw [State.upstreamWaits, noLookup, Bool.false_or] at waits
      cases maint : s.path.maint with
      | read a =>
        have room : s.path.returns.length < Config.returnPlaces := by
          simpa [State.isReady, State.maintOffer, maint, State.ready, State.returnRoom] using waits
        exact absurd room (Nat.not_lt.2 full)
      | write w =>
        cases (exec_arbiterGrant_upstream_write power won noLookup maint).symm.trans done
        rw [State.settle_path_returns]
        exact (State.grantUpstreamWrite_kept w s.maintServed).2.1
      | held w => simp [State.isReady, State.maintOffer, maint] at waits
      | empty => simp [State.isReady, State.maintOffer, maint] at waits
    | owed r => exact part (.inl won)
    | byLevel r => exact part (.inr won)

end Sys2Proof.Machine
end

section
/-! PROOFS. Every grant, by its winner (O18). -/

namespace Sys2Proof.Machine

open Sys2Proof

variable {s t u : State} {r : Requester} {q : MemRequest}

/-! ### What reaches memory (R11) -/

theorem exec_arbiterGrant_lookup_ready (power : s.chassis.power = true) (done : exec .arbiterGrant s = .next t)
    (won : s.winner = some .upstream) (ready : s.isReady s.lookupOffer = true) : ∃ q, s.lookupOffer = some q ∧ t.out.mem = [q] := by
  cases lookup : s.path.lookup with
  | none => simp [State.isReady, State.lookupOffer, lookup] at ready
  | some a =>
    have room : s.path.returns.length < Config.returnPlaces := by
      simpa [State.isReady, State.lookupOffer, lookup, State.ready, State.returnRoom] using ready
    cases (exec_arbiterGrant_lookup power won lookup room).symm.trans done
    refine ⟨.read a, by rw [State.lookupOffer, lookup]; rfl, ?_⟩
    rw [State.settle_out]
    rfl

theorem exec_arbiterGrant_maint_ready (power : s.chassis.power = true) (done : exec .arbiterGrant s = .next t)
    (won : s.winner = some .upstream) (noLookup : s.isReady s.lookupOffer = false) : ∃ q, s.maintOffer = some q ∧ t.out.mem = [q] := by
  have waits := State.upstreamWaits_of_winner won
  rw [State.upstreamWaits, noLookup, Bool.false_or] at waits
  obtain ⟨u, granted, read, write, -⟩ := exec_arbiterGrant_maintenance power won noLookup
  cases granted.symm.trans done
  unfold State.maintOffer at waits ⊢
  cases maint : s.path.maint with
  | read a => exact ⟨_, rfl, read a maint⟩
  | write w => exact ⟨_, rfl, write w maint⟩
  | held w => simp [State.isReady, maint] at waits
  | empty => simp [State.isReady, maint] at waits

theorem exec_arbiterGrant_part_mem (power : s.chassis.power = true) (done : exec .arbiterGrant s = .next t)
    (won : s.winner = some (.owed r) ∨ s.winner = some (.byLevel r)) : ∃ q, s.offer r = some q ∧ t.out.mem = [q] := by
  obtain ⟨win, q, event, offer, -⟩ := exec_arbiterGrant_part power won
  cases event.symm.trans done
  refine ⟨q, offer, ?_⟩
  rw [State.settle_out]
  exact (State.grantPart_passed (s := s.toGrant win) offer).mem

/-! ### A part requester's grant that reports nothing -/

/-- The end of a grant that changes path, outputs and one more block leaves session, map, overlay and fault records. -/
theorem State.settle_blocks_of_quiet (quiet : u.signals = .none) : u.settle.session = u.session ∧ u.settle.freeze = u.freeze :=
  ⟨State.settle_session u (.inl (by rw [quiet]; rfl)), State.settle_freeze_of_quiet u (by rw [quiet]; rfl)⟩

theorem exec_arbiterGrant_walk (power : s.chassis.power = true) (done : exec .arbiterGrant s = .next t)
    (won : s.winner = some (.owed .walk) ∨ s.winner = some (.byLevel .walk)) :
    ∃ (second : Bool) (b c : Buffer), s.walker.buf second = some b ∧ b.waiting = false ∧ b.nextRead < 64
      ∧ (∀ o, s.walker.buf (!second) = some o → o.waiting = false → o.nextRead < 64 → b.use ≤ o.use)
      ∧ t.out.mem = [.read (wordAddr b.segment b.nextRead)]
      ∧ t.path.returns = s.path.returns ++
          [{ requester := .walk second b.nextRead b.use, addr := wordAddr b.segment b.nextRead }]
      ∧ t.walker = s.walker.setBuf second (some c)
      ∧ c = { b with nextRead := b.nextRead + 1, words := c.words }
      ∧ (∀ k : Fin 64, c.words[k] = if k.val = b.nextRead then { b.words[k] with granted := true } else b.words[k])
      ∧ t.map = s.map ∧ t.session = s.session ∧ t.freeze = s.freeze ∧ t.take = s.take := by
  obtain ⟨win, q, event, offer, -⟩ := exec_arbiterGrant_part power won
  obtain ⟨-, -, -, -, walk⟩ := State.offer_eq (State.live_of_offer offer)
  obtain ⟨second, b, offering, here, -⟩ := State.walkOffer_iff.1 (walk.symm.trans offer)
  obtain ⟨o, same, waiting, left, first⟩ := Walker.offering_spec offering
  cases here.symm.trans same
  have granted : (s.toGrant win).grantPart .walk = _ := State.grantWalk_of_offering (s := s.toGrant win) offering here
  rw [granted] at event
  cases event.symm.trans done
  obtain ⟨session, freeze⟩ := State.settle_blocks_of_quiet (u := State.issueRead (.walk second b.nextRead b.use)
    (wordAddr b.segment b.nextRead) { s.toGrant win with walker := s.walker.setBuf second (some b.grantRead) }) rfl
  refine ⟨second, b, b.grantRead, here, waiting, left, first, ?_, ?_, ?_, rfl, b.grantRead_words, ?_, session, freeze, ?_⟩
  · rw [State.settle_out]; rfl
  · rw [State.settle_path_returns]; rfl
  · rw [State.settle_walker]; rfl
  · rw [State.settle_map]; rfl
  · rw [State.settle_take]; rfl

/-- What a job's grant leaves, at the end of its command. -/
structure JobGranted (s : State) (k : ReadFor) (j : VerifyJob) (take : VerifyJob → Take) (t : State) : Prop where
  write : ∀ i ws, j.writes = i :: ws → t.out.mem = [.write i.addr i.data i.mask] ∧ t.path.returns = s.path.returns
    ∧ t.take = take { j with writes := ws }
  read : ∀ i rs, j.writes = [] → j.reads = i :: rs → t.out.mem = [.read i.addr]
    ∧ t.path.returns = s.path.returns ++ [{ requester := k, addr := i.addr }]
    ∧ t.take = take { j with reads := rs, awaiting := j.awaiting ++ [i] }
  rest : t.session = s.session ∧ t.faults = s.faults ∧ t.freeze = s.freeze

theorem State.settle_grantJob (k : ReadFor) (j : VerifyJob) (take : VerifyJob → Take) (win : Winner) :
    JobGranted s k j take (State.grantJob k j { s.toGrant win with take := take j.granted }).settle := by
  have quiet : (State.grantJob k j { s.toGrant win with take := take j.granted }).signals = .none := by
    unfold State.grantJob
    split <;> rfl
  obtain ⟨session, freeze⟩ := State.settle_blocks_of_quiet quiet
  refine ⟨fun i ws writes => ?_, fun i rs writes reads => ?_, ?_⟩
  · rw [State.settle_out, State.settle_path_returns, State.settle_take, State.grantJob_of_write k writes,
      (VerifyJob.offer_of_write writes).2]
    exact ⟨rfl, rfl, rfl⟩
  · rw [State.settle_out, State.settle_path_returns, State.settle_take, State.grantJob_of_read k writes reads,
      (VerifyJob.offer_of_read writes reads).2]
    exact ⟨rfl, rfl, rfl⟩
  · rw [session, State.settle_faults, freeze]
    unfold State.grantJob
    split <;> exact ⟨rfl, rfl, rfl⟩

/-- A job that offers has a write or a read left. -/
theorem VerifyJob.left_of_offer {j : VerifyJob} (offer : j.offer = some q) : j.writes ≠ [] ∨ j.reads ≠ [] := by
  by_cases writes : j.writes = []
  · refine .inr fun reads => ?_
    rw [VerifyJob.offer_none writes reads] at offer
    cases offer
  · exact .inl writes

theorem exec_arbiterGrant_apply (power : s.chassis.power = true) (done : exec .arbiterGrant s = .next t)
    (won : s.winner = some (.owed .apply) ∨ s.winner = some (.byLevel .apply)) :
    ∃ a, s.take.apply = some a ∧ (a.job.writes ≠ [] ∨ a.job.reads ≠ [])
      ∧ JobGranted s (.apply a.job.use) a.job (fun j => { s.take with apply := some { a with job := j } }) t := by
  obtain ⟨win, q, event, offer, -⟩ := exec_arbiterGrant_part power won
  obtain ⟨-, -, apply, -⟩ := State.offer_eq (State.live_of_offer offer)
  obtain ⟨a, here, job⟩ := State.applyOffer_some (apply.symm.trans offer)
  have granted : (s.toGrant win).grantPart .apply = _ := State.grantApply_of_some (s := s.toGrant win) here
  rw [granted] at event
  cases event.symm.trans done
  exact ⟨a, here, VerifyJob.left_of_offer job, State.settle_grantJob _ _ (fun j => { s.take with apply := some { a with job := j } }) win⟩

theorem exec_arbiterGrant_fill (power : s.chassis.power = true) (done : exec .arbiterGrant s = .next t)
    (won : s.winner = some (.owed .fill) ∨ s.winner = some (.byLevel .fill)) :
    ∃ f, s.take.fill = some f ∧ (f.job.writes ≠ [] ∨ f.job.reads ≠ [])
      ∧ JobGranted s (.fill f.job.use) f.job (fun j => { s.take with fill := some { f with job := j } }) t := by
  obtain ⟨win, q, event, offer, -⟩ := exec_arbiterGrant_part power won
  obtain ⟨-, -, -, fill, -⟩ := State.offer_eq (State.live_of_offer offer)
  obtain ⟨f, here, job⟩ := State.fillOffer_some (fill.symm.trans offer)
  have granted : (s.toGrant win).grantPart .fill = _ := State.grantFill_of_some (s := s.toGrant win) here
  rw [granted] at event
  cases event.symm.trans done
  exact ⟨f, here, VerifyJob.left_of_offer job, State.settle_grantJob _ _ (fun j => { s.take with fill := some { f with job := j } }) win⟩

/-! ### REPORT (R178, R179) -/

theorem State.reportOffer_some (h : s.reportOffer = some q) : s.report.writing = true ∧ s.report.nextWord < 256
    ∧ q = .write (reportAddr s.chassis.msize s.report.nextWord) ((s.report.snapshot[s.report.nextWord]?).getD 0) fullMask := by
  unfold State.reportOffer at h
  split at h
  · next writes => exact ⟨writes.1, writes.2, (Option.some.inj h).symm⟩
  · cases h

theorem State.grantReport_next (more : s.report.nextWord < 255) :
    s.grantReport = { s with report := { s.report with nextWord := s.report.nextWord + 1 } } :=
  if_pos (Nat.succ_lt_succ more)

theorem State.grantReport_last (last : s.report.nextWord = 255) : s.grantReport =
    (if s.report.again then State.requestReport else id)
      { s with report := { s.report with writing := false, nextWord := 256, again := false } } := by
  have complete : ¬ s.report.nextWord + 1 < Config.reportLength := by
    rw [last]
    decide
  rw [State.grantReport, if_neg complete]
  dsimp only
  split <;> rfl

/-- A report requested with the writer idle shows the part as it stands when the command has ended (R178). -/
theorem State.settle_report_shows (requested : u.signals.report = true) (idle : u.report.writing = false) :
    u.settle.report.again = false ∧ reportShows u.settle.report.snapshot u.settle := by
  have report : u.examined.clearRuns.report = u.report := (Silent.examined u).report
  have signal : u.examined.clearRuns.signals.report = true := by simpa [State.examined] using requested
  have started : u.settle = u.examined.clearRuns.startReport.clearSignals := by
    change u.examined.clearRuns.serveReport.clearSignals = _
    rw [State.serveReport, if_pos signal, if_neg (by rw [report, idle]; exact Bool.false_ne_true)]
  rw [started]
  exact ⟨rfl, u.examined.clearRuns.startReport_shows⟩

theorem exec_arbiterGrant_report (power : s.chassis.power = true) (done : exec .arbiterGrant s = .next t)
    (won : s.winner = some (.owed .report) ∨ s.winner = some (.byLevel .report)) :
    t.out.mem = [.write (BitVec.ofNat 24 ((segmentsOf s.chassis.msize - 16) * 64 + 64 + s.report.nextWord))
        ((s.report.snapshot[s.report.nextWord]?).getD 0) fullMask]
      ∧ (s.report.nextWord < 255 → t.report = { s.report with nextWord := s.report.nextWord + 1 })
      ∧ (s.report.nextWord = 255 → s.report.again = false → t.report = { s.report with writing := false, nextWord := 256 })
      ∧ (s.report.nextWord = 255 → s.report.again = true →
          t.report.writing = true ∧ t.report.nextWord = 0 ∧ t.report.again = false
            ∧ t.report.generation = nextGeneration s.report.generation ∧ t.report.lastReset = s.report.lastReset
            ∧ reportShows t.report.snapshot t)
      ∧ t.session = s.session ∧ t.map = s.map ∧ t.freeze = s.freeze ∧ t.path.returns = s.path.returns := by
  obtain ⟨win, q, event, offer, -⟩ := exec_arbiterGrant_part power won
  have live := State.live_of_offer offer
  rw [(State.offer_eq live).1] at offer
  obtain ⟨writing, -, word⟩ := State.reportOffer_some offer
  let v : State := (s.toGrant win).toMemory q
  have granted : (s.toGrant win).grantPart .report = v.grantReport := by
    show (s.toGrant win).grantReportWord = _
    rw [State.grantReportWord, show (s.toGrant win).reportOffer = some q from offer]
  rw [granted] at event
  cases event.symm.trans done
  have blocks : v.grantReport = { v with report := v.grantReport.report, signals := v.grantReport.signals } := by
    unfold State.grantReport
    dsimp only
    split
    · rfl
    · split <;> rfl
  have calm : v.grantReport.signals.dirtied = false ∧ v.grantReport.signals.reexamine = false := by
    unfold State.grantReport
    dsimp only
    split
    · exact ⟨rfl, rfl⟩
    · split <;> exact ⟨rfl, rfl⟩
  refine ⟨?_, fun more => ?_, fun last once => ?_, fun last again => ?_, ?_, ?_, ?_, ?_⟩
  · rw [State.settle_out, blocks]
    exact congrArg (fun q => [q]) word
  · have next := State.grantReport_next (s := v) more
    rw [State.settle_report_of_quiet (by rw [next]; rfl), next]
    rfl
  · have complete := State.grantReport_last (s := v) last
    rw [show v.report.again = false from once] at complete
    rw [State.settle_report_of_quiet (by rw [complete]; rfl), complete]
    exact congrArg (fun b => ({ s.report with writing := false, nextWord := 256, again := b } : Report)) once.symm
  · have complete := State.grantReport_last (s := v) last
    rw [show v.report.again = true from again] at complete
    have requested : v.grantReport.signals.report = true := by rw [complete]; rfl
    have idle : v.grantReport.report.writing = false := by rw [complete]; rfl
    obtain ⟨writes, word0, generation, lastReset⟩ := State.settle_report_starts requested idle
    obtain ⟨once, shows_⟩ := State.settle_report_shows requested idle
    refine ⟨writes, word0, once, ?_, ?_, shows_⟩
    · rw [generation, complete]; rfl
    · rw [lastReset, complete]; rfl
  · rw [State.settle_session _ (.inl calm.1), blocks]; rfl
  · rw [State.settle_map, blocks]; rfl
  · rw [State.settle_freeze_of_quiet _ calm.2, blocks]; rfl
  · rw [State.settle_path_returns, blocks]; rfl

/-! ### REPLAY (R133, R135, R139) -/

/-- The overlay's write: a FLUSHING entry's, or in REPLAY the oldest's while its record can be placed. -/
theorem State.overlayOffer_some {e : OverlayEntry} (h : s.overlayOffer = some e) :
    (s.freeze.entries.find? (fun x => x.flushing) = some e ∧ e.flushing = true)
      ∨ ((∀ x ∈ s.freeze.entries, x.flushing = false) ∧ s.inFeed = true ∧ s.session.state = .replay
        ∧ s.freeze.entries.head? = some e ∧ canPlace s.feed.queue = true) := by
  unfold State.overlayOffer Freeze.oldestFlushing at h
  split at h
  · next found =>
    cases h
    exact .inl ⟨found, List.find?_some found⟩
  · next none =>
    split at h
    · next ready =>
      simp only [Bool.and_eq_true, beq_iff_eq] at ready
      obtain ⟨⟨⟨⟨feed, replay⟩, place⟩, -⟩, -⟩ := ready
      exact .inr ⟨fun x mem => by simpa using List.find?_eq_none.1 none x mem, feed, replay, h, place⟩
    · cases h

/-- A queue whose last frame takes no record, and that could place one, has a place. -/
theorem canPlace_room {q : List SeqFrame} (place : canPlace q = true) (last : ∀ p rs, q = p ++ [.mir rs] → 8 ≤ rs.length) :
    q.length < 16 := by
  unfold canPlace at place
  rw [getLast?_bind_appendRecord q _ last, Option.isSome_none, Bool.false_or] at place
  exact of_decide_eq_true place

/-- The queue after the overlay's write. -/
theorem State.replayed_queue (e : OverlayEntry) (s : State) : (s.replayed e).feed.queue =
    if e.flushing then s.feed.queue
    else (placeRecord s.feed.queue { addr := e.addr, data := e.data, mask := e.mask }).getD s.feed.queue := by
  unfold State.replayed State.placeReplay
  split
  · rfl
  · cases placed : placeRecord s.feed.queue { addr := e.addr, data := e.data, mask := e.mask } with
    | none =>
      rw [show (s.toMemory (.write e.addr e.data e.mask)).feed = s.feed from rfl, placed]
      rfl
    | some q =>
      rw [show (s.toMemory (.write e.addr e.data e.mask)).feed = s.feed from rfl, placed]
      rfl

theorem State.handoverIfPending_notice (h : s.notices.state.pending = true) : s.handoverIfPending.notices.state.pending = true := by
  unfold State.handoverIfPending
  split
  · show (s.setState .handover).notices.state.pending = true
    unfold State.setState
    split
    · exact h
    · rfl
  · exact h

/-- A replay that is over ends in STEADY, or in HANDOVER where one is pending, at throttle level 0 and with the drain's walk at its start. -/
theorem State.settle_endReplay (replay : u.session.state = .replay) (emptied : u.freeze.entries = []) :
    u.endReplay.settle.session.state = (if u.session.handoverPending then .handover else .steady)
      ∧ u.endReplay.settle.session.handoverPending = false ∧ u.endReplay.settle.review.throttle = 0
      ∧ u.endReplay.settle.walker.cursor = some 0 ∧ u.endReplay.settle.notices.state.pending = true := by
  have noticed : u.enterSteady.notices.state.pending = true := by
    show ((u.setState .steady).setThrottle 0).notices.state.pending = true
    rw [State.setThrottle_eq]
    exact State.setState_notice u .steady (by rw [replay]; exact nofun)
  rw [State.settle_session_state, State.settle_session_handoverPending, State.settle_review_throttle, State.settle_walker,
    State.settle_notices, State.endReplay_of_replayed u replay emptied]
  refine ⟨?_, ?_, ?_, ?_, State.handoverIfPending_notice noticed⟩ <;> simp

theorem exec_arbiterGrant_replay (power : s.chassis.power = true) (done : exec .arbiterGrant s = .next t)
    (won : s.winner = some (.owed .replay) ∨ s.winner = some (.byLevel .replay)) :
    ∃ e : OverlayEntry,
      (s.freeze.entries.find? (fun x => x.flushing) = some e
        ∨ ((∀ x ∈ s.freeze.entries, x.flushing = false) ∧ s.inFeed = true ∧ s.session.state = .replay
            ∧ s.freeze.entries.head? = some e))
      ∧ (let left := s.freeze.entries.filter fun x => x.addr ≠ e.addr
         let r : MirrorRecord := { addr := e.addr, data := e.data, mask := e.mask }
         let queued := fun q : List SeqFrame =>
           t.feed.queue = q ∨ (t.session.state = .steady ∧ t.feed.queue = q ++ [.instep])
         t.out.mem = [.write e.addr e.data e.mask]
           ∧ ((∀ w, s.path.maint ≠ .held w) → t.freeze.entries = left)
           ∧ (e.flushing = true → queued s.feed.queue)
           ∧ (e.flushing = false → ∀ q rs, s.feed.queue = q ++ [.mir rs] → rs.length < 8 → queued (q ++ [.mir (rs ++ [r])]))
           ∧ (e.flushing = false → (∀ q rs, s.feed.queue = q ++ [.mir rs] → 8 ≤ rs.length) →
               queued (s.feed.queue ++ [.mir [r]]))
           ∧ (s.session.state = .replay → left = [] →
               t.session.state = (if s.session.handoverPending then .handover else .steady)
                 ∧ t.session.handoverPending = false ∧ t.review.throttle = 0 ∧ t.walker.cursor = some 0
                 ∧ t.notices.state.pending = true)
           ∧ (s.session.state ≠ .replay ∨ left ≠ [] → t.session = s.session ∧ t.walker = s.walker)
           ∧ t.map = s.map ∧ t.feed.window = s.feed.window ∧ t.path.returns = s.path.returns ∧ t.faults = s.faults) := by
  obtain ⟨win, q, event, offer, -⟩ := exec_arbiterGrant_part power won
  obtain ⟨-, replay, -⟩ := State.offer_eq (State.live_of_offer offer)
  obtain ⟨e, here, -⟩ := Option.map_eq_some_iff.1 (replay.symm.trans offer)
  let v : State := ((s.toGrant win).replayed e).dropEntry e.addr
  have granted : (s.toGrant win).grantPart .replay = v.endReplay := State.grantReplay_of_some (s := s.toGrant win) here
  rw [granted] at event
  cases event.symm.trans done
  have written := State.replayed_eq e (s.toGrant win)
  have session : v.session = s.session := by rw [State.dropEntry_session, written]; rfl
  have walker : v.walker = s.walker := by rw [State.dropEntry_walker, written]; rfl
  have entries : v.freeze.entries = s.freeze.entries.filter fun x => x.addr ≠ e.addr := by
    show ((s.toGrant win).replayed e).freeze.entries.filter _ = _
    rw [written]
    rfl
  have queue : v.feed.queue = ((s.toGrant win).replayed e).feed.queue := by rw [State.dropEntry_feed]
  have calm : v.signals.dirtied = false := by
    show ((s.toGrant win).replayed e).signals.dirtied = false
    rw [written]
    rfl
  have calm' : v.endReplay.signals.dirtied = false := by rw [State.endReplay_signals_dirtied, calm]
  have queued : v.endReplay.settle.feed.queue = v.feed.queue
      ∨ (v.endReplay.settle.session.state = .steady ∧ v.endReplay.settle.feed.queue = v.feed.queue ++ [.instep]) := by
    have cases_ := State.settle_queue_cases v.endReplay fun told => absurd told (by rw [calm']; exact Bool.false_ne_true)
    rwa [State.endReplay_feed, ← State.settle_session_state] at cases_
  have records : v.feed.queue = _ := queue.trans (State.replayed_queue e (s.toGrant win))
  refine ⟨e, ?_, ?_⟩
  · obtain ⟨found, -⟩ | ⟨none, feed, state, head, -⟩ := State.overlayOffer_some here
    · exact .inl found
    · exact .inr ⟨none, feed, state, head⟩
  · refine ⟨?_, fun notHeld => ?_, fun flushing => ?_, fun captured p rs last fewer => ?_, fun captured last => ?_, fun state emptied => ?_,
      fun stays => ?_, ?_, ?_, ?_, ?_⟩
    · rw [State.settle_out, State.endReplay_out, State.dropEntry_out, written]; rfl
    · have unexamined := State.examineHeld_of_not_held v.endReplay (by
        rw [State.endReplay_path, State.dropEntry_path, written]
        exact notHeld)
      have kept : v.endReplay.settle.freeze = v.endReplay.freeze := by simp [State.settle, unexamined]
      rw [kept, State.endReplay_freeze_entries, entries]
    · rw [flushing, if_pos rfl] at records
      rw [records] at queued
      exact queued
    · have placed := placeRecord_append p rs { addr := e.addr, data := e.data, mask := e.mask } fewer
      rw [captured, if_neg Bool.false_ne_true, show (s.toGrant win).feed.queue = p ++ [.mir rs] from last, placed] at records
      rw [records] at queued
      exact queued
    · have place : canPlace s.feed.queue = true := by
        obtain ⟨-, flushing⟩ | ⟨-, -, -, -, place⟩ := State.overlayOffer_some here
        · rw [captured] at flushing
          cases flushing
        · exact place
      have placed := placeRecord_new s.feed.queue { addr := e.addr, data := e.data, mask := e.mask } last
      rw [if_pos (canPlace_room place last)] at placed
      rw [captured, if_neg Bool.false_ne_true, show (s.toGrant win).feed.queue = s.feed.queue from rfl, placed] at records
      rw [records] at queued
      exact queued
    · have ended := State.settle_endReplay (u := v) (by rw [session]; exact state) (by rw [entries]; exact emptied)
      rwa [session] at ended
    · have unmoved : v.endReplay = v := by
        obtain state | left := stays
        · exact v.endReplay_of_ne (by rw [session]; exact state)
        · exact v.endReplay_of_entries (by rw [entries]; exact left)
      rw [unmoved, State.settle_session _ (.inl calm), State.settle_walker]
      exact ⟨session, walker⟩
    · rw [State.settle_map, State.endReplay_map, State.dropEntry_map, written]; rfl
    · rw [State.settle_feed_window, State.endReplay_feed, State.dropEntry_feed, written]; rfl
    · rw [State.settle_path_returns, State.endReplay_path, State.dropEntry_path, written]; rfl
    · rw [State.settle_faults, State.endReplay_faults, State.dropEntry_faults, written]; rfl

/-- Settles O18: what every grant leaves, and each winner's own request. -/
theorem grantPassesTheWinnersRequest : Obligations.GrantPassesTheWinnersRequest := by
  intro s power
  obtain ⟨t, done, -⟩ := everyCommandAnswersNext .arbiterGrant s
  have effect := exec_effect done
  refine ⟨t, done, effect.engine (fun _ => ⟨nofun, nofun⟩) nofun, ?_, fun idle => ?_, exec_arbiterGrant_lookup_ready power done,
    exec_arbiterGrant_maint_ready power done, fun r won => exec_arbiterGrant_part_mem power done won, exec_arbiterGrant_full power done,
    exec_arbiterGrant_replay power done, exec_arbiterGrant_report power done, exec_arbiterGrant_walk power done, fun won => ?_,
    fun won => ?_⟩
  · exact (effect.closes nofun).imp_right fun ⟨r, close, up, off, _⟩ => ⟨r, close, up, off⟩
  · cases (exec_arbiterGrant_of_none idle).symm.trans done
    exact ⟨by rw [State.settle_out]; rfl, State.settle_path_returns _⟩
  · obtain ⟨a, here, left, write, read, session, faults, freeze⟩ := exec_arbiterGrant_apply power done won
    exact ⟨a, here, write, read, left, session, faults, freeze⟩
  · obtain ⟨f, here, left, write, read, session, faults, freeze⟩ := exec_arbiterGrant_fill power done won
    exact ⟨f, here, write, read, left, session, faults, freeze⟩

end Sys2Proof.Machine
end

section
/-! PROOFS. No directive, and nothing at the end of a command, looks at what has been passed to memory (O19). -/

namespace Sys2Proof.Machine

open Sys2Proof

variable {s t u : State} (m : List MemRequest)

/-- The same state with these requests passed to memory. -/
def State.passing (m : List MemRequest) (s : State) : State := { s with out := { s.out with mem := m } }

/-- An operation that neither looks at what has been passed to memory nor passes anything. -/
def Blind (f : State → State) : Prop := ∀ m s, f (s.passing m) = (f s).passing m

variable {f g : State → State}

theorem Blind.id : Blind fun s => s := fun _ _ => rfl

theorem Blind.comp (hg : Blind g) (hf : Blind f) : Blind fun s => g (f s) := fun m s =>
  (congrArg g (hf m s)).trans (hg m (f s))

/-- A test of the other fields chooses alike. -/
theorem Blind.ite {c : State → Prop} [∀ s, Decidable (c s)] (same : ∀ m s, c (s.passing m) = c s) (hf : Blind f) (hg : Blind g) :
    Blind fun s => if c s then f s else g s := fun m s => by
  simp only [same m s, hf m s, hg m s]
  exact (apply_ite (State.passing m) _ _ _).symm

/-- An argument taken from the other fields is the same. -/
theorem Blind.arg {α : Type} {a : State → α} {f : α → State → State} (same : ∀ m s, a (s.passing m) = a s) (hf : ∀ x, Blind (f x)) :
    Blind fun s => f (a s) s := fun m s => by
  simpa only [same m s] using hf (a s) m s

theorem Blind.foldl {α : Type} {f : State → α → State} (hf : ∀ x, Blind fun s => f s x) (l : List α) : Blind fun s => l.foldl f s := by
  induction l with
  | nil => exact .id
  | cons x rest ih => exact ih.comp (hf x)

/-! ### The shared operations -/

theorem Blind.raise (k : NoticeKind) : Blind (State.raise k) := fun _ _ => rfl

theorem Blind.setState (st : SessState) : Blind (State.setState st) :=
  .ite (c := fun s => s.session.state = st) (fun _ _ => rfl) .id fun _ _ => rfl

theorem Blind.setThrottle (level : Nat) : Blind (State.setThrottle level) :=
  .comp (g := fun s => { s with review := { s.review with throttle := level } }) (fun _ _ => rfl)
    (.ite (c := fun s => s.review.throttle = level) (fun _ _ => rfl) .id fun _ _ => rfl)

theorem Blind.changeSeg (n : Segment) (f : SegState → SegState) : Blind (State.changeSeg n f) := fun _ _ => rfl

theorem Blind.sendClose (close : Option CloseReason) : Blind (State.sendClose close) := by
  refine .ite (c := fun s => s.link.state = .up) (fun _ _ => rfl) ?_ .id
  cases close <;> exact fun _ _ => rfl

theorem Blind.closeLink (close : Option CloseReason) : Blind (State.closeLink close) :=
  .comp (g := fun s => { s with link := s.link.enterOff, take := s.take.inactive, feed := { s.feed with rewound := none } })
    (fun _ _ => rfl) (.sendClose close)

/-! ### The ends of the sessions (R157, R162) -/

theorem Blind.endFeed (close : Option CloseReason) : Blind (State.endFeed close) := by
  have ended : Blind fun s => { s with
      freeze := { s.freeze with timer := none }
      session := { s.session with hold := none, handoverPending := false, stalePending := false } } := fun _ _ => rfl
  have emptied : Blind fun s => s.beginFlush.clearMap.dropBuffers.emptyQueues := fun _ _ => rfl
  exact (Blind.setState .idle).comp (ended.comp ((Blind.closeLink close).comp ((Blind.setThrottle 0).comp emptied)))

theorem Blind.endTake (close : Option CloseReason) : Blind (State.endTake close) := by
  have ended : Blind fun s => { s with
      take := { s.take with awaitingLayout := false }
      session := { s.session with hold := none, greeted := none, layoutInstalled := false } } := fun _ _ => rfl
  exact (Blind.setState .idle).comp (ended.comp ((Blind.closeLink close).comp (f := State.dropWork) fun _ _ => rfl))

theorem Blind.endSession (close : Option CloseReason) : Blind (State.endSession close) :=
  .ite (c := fun s => s.inFeed = true) (fun _ _ => rfl) (.endFeed close)
    (.ite (c := fun s => s.inTake = true) (fun _ _ => rfl) (.endTake close) .id)

/-! ### The link loss that a fall of the filtered PEER_PRESENT level is (R39, R68, R152, R160) -/

theorem Blind.reopen (b : Option Buffer) : Blind (State.reopen b) := by
  cases b <;> exact fun _ _ => rfl

theorem Blind.withdrawOne (left : List SeqFrame) (f : SeqFrame) : Blind fun s => s.withdrawOne left f := by
  cases f with
  | seg n ws => exact .ite (c := fun _ => left.any (isSegFor n.toNat) = true) (fun _ _ => rfl) .id (.changeSeg _ _)
  | mir rs => exact .foldl (fun r => .changeSeg _ _) rs
  | instep => exact .id
  | stale => exact .id
  | handover => exact .id

theorem Blind.flushContinuing : Blind State.flushContinuing := fun m s => by
  have marked := Blind.foldl (f := fun s (e : OverlayEntry) => s.changeSeg (segmentOf e.addr) flushToDirty)
    (fun _ => .changeSeg _ _) s.freeze.entries m s
  beta_reduce at marked
  unfold State.flushContinuing
  dsimp only
  rw [show (s.passing m).freeze.entries = s.freeze.entries from rfl, marked]
  rfl

theorem Blind.loseFrames : Blind State.loseFrames := by
  have reopened : Blind fun s => (s.reopen s.walker.buf0).reopen s.walker.buf1 :=
    .arg (a := fun s => (s.walker.buf0, s.walker.buf1)) (f := fun b s => (s.reopen b.1).reopen b.2) (fun _ _ => rfl) fun b =>
      (Blind.reopen b.2).comp (.reopen b.1)
  have withdrawn : Blind fun s =>
      (s.dropBuffers.emptyQueues.withdrawAll (s.feed.window.map Prod.snd ++ s.feed.queue) []).flushContinuing :=
    .arg (a := fun s => s.feed.window.map Prod.snd ++ s.feed.queue)
      (f := fun frames s => (s.dropBuffers.emptyQueues.withdrawAll frames []).flushContinuing) (fun _ _ => rfl) fun frames =>
      Blind.flushContinuing.comp ((Blind.foldl (fun f => .withdrawOne [] f) frames).comp (f := fun s => s.dropBuffers.emptyQueues)
        fun _ _ => rfl)
  exact withdrawn.comp reopened

theorem Blind.suspend (kind : GreetKind) : Blind (State.suspend kind) :=
  (Blind.setState .suspended).comp (f := fun s => { s with
    freeze := { s.freeze with timer := none }
    session := { s.session with retiredStep := .stale, stalePending := false, resumeKind := kind, hold := some 0 } }) fun _ _ => rfl

theorem Blind.suspendByState : Blind State.suspendByState := by
  refine .ite (c := fun s => lossSuspends s.session.state = true) (fun _ _ => rfl) ?_ .id
  exact .arg (a := fun s => if s.session.state = .install then GreetKind.fresh else .resume)
    (f := fun kind s => ({ s with session := { s.session with
      handoverPending := if s.session.state = .handover then true else s.session.handoverPending } } : State).suspend kind)
    (fun _ _ => rfl) fun kind => (Blind.suspend kind).comp (f := fun s => { s with session := { s.session with
      handoverPending := if s.session.state = .handover then true else s.session.handoverPending } }) fun _ _ => rfl

theorem Blind.loseLinkFeed : Blind State.loseLinkFeed := by
  have lost : Blind State.lostLink :=
    .comp (g := fun s => { s.retrain with feed := { s.retrain.feed with sentTotal := 0, freedTotal := 0 } }) (fun _ _ => rfl) .loseFrames
  intro m s
  rw [State.loseLinkFeed_eq, State.loseLinkFeed_eq]
  exact Blind.suspendByState.comp lost m s

theorem Blind.enterHeld : Blind State.enterHeld :=
  (Blind.setState .held).comp (f := fun s => { s.dropWork with
    take := { s.dropWork.take with awaitingLayout := false }
    session := { s.session with hold := some 0, greeted := none } }) fun _ _ => rfl

/-- A take in INSTALL, RECEIVING or SYNCED, or in BRINGUP while its LAYOUT is awaited, is held (R160). -/
theorem State.loseLinkTake_eq (s : State) : s.loseLinkTake =
    if (s.session.state = .bringup ∧ s.take.awaitingLayout = true) ∨ s.session.state = .install ∨ s.session.state = .receiving
        ∨ s.session.state = .synced then s.retrain.enterHeld
    else if s.session.state = .final then s.retrain.dropWork else s.retrain := by
  have take : s.retrain.take.awaitingLayout = s.take.awaitingLayout := rfl
  cases state : s.session.state <;> simp [State.loseLinkTake, take, state]

theorem Blind.loseLinkTake : Blind State.loseLinkTake := by
  have held : Blind fun s => s.retrain.enterHeld := Blind.enterHeld.comp (f := State.retrain) fun _ _ => rfl
  intro m s
  rw [State.loseLinkTake_eq, State.loseLinkTake_eq]
  exact Blind.ite (c := fun s => (s.session.state = .bringup ∧ s.take.awaitingLayout = true) ∨ s.session.state = .install
    ∨ s.session.state = .receiving ∨ s.session.state = .synced) (fun _ _ => rfl) held (.ite (c := fun s => s.session.state = .final)
    (f := fun s => s.retrain.dropWork) (g := State.retrain) (fun _ _ => rfl) (fun _ _ => rfl) fun _ _ => rfl) m s

theorem Blind.loseLink : Blind State.loseLink :=
  .ite (c := fun s => s.link.state = .up) (fun _ _ => rfl)
    (.ite (c := fun s => s.inFeed = true) (fun _ _ => rfl) .loseLinkFeed
      (.ite (c := fun s => s.inTake = true) (fun _ _ => rfl) .loseLinkTake .id)) .id

theorem Blind.filterPeer : Blind State.filterPeer := by
  have taken : Blind fun s => { s.raise .line with chassis := { s.chassis with peerFiltered := s.chassis.peerRaw, peerHeld := 0 } } :=
    fun _ _ => rfl
  exact .ite (c := fun s => (!s.chassis.peerRaw) = true) (fun _ _ => rfl) (Blind.loseLink.comp taken) taken

/-! ### The directives (9.3) -/

theorem Blind.doSetup : Blind State.doSetup := by
  have replaced : Blind fun s => { s with
      settings := setupSettings (s.directive.word 1) (s.directive.word 2)
      path := if s.settings.sameArbiter (setupSettings (s.directive.word 1) (s.directive.word 2)) then s.path
        else { s.path with waitRuns := .reset } } := fun _ _ => rfl
  have filtered : Blind fun s =>
      if s.chassis.peerRaw != s.chassis.peerFiltered && s.settings.filterTicks ≤ s.chassis.peerHeld then s.filterPeer else s :=
    .ite (fun _ _ => rfl) .filterPeer .id
  exact filtered.comp replaced

theorem Blind.doRegion : Blind State.doRegion := fun m s => by
  rw [State.doRegion, State.doRegion, show regionCheck (s.passing m).chassis.msize (s.passing m).regions (s.passing m).regionRequest
    = regionCheck s.chassis.msize s.regions s.regionRequest from rfl]
  cases regionCheck s.chassis.msize s.regions s.regionRequest <;> rfl

theorem Blind.doFeed : Blind State.doFeed := (Blind.setState .bringup).comp (f := fun s => { s with
  map := SegMap.start s.regions
  link := s.link.start
  feed := { s.feed with rewound := none, instepWaiting := false, peerFail := 0, peerState := none, rewinds := 0 }
  faults := .start
  review := .reset
  session := { s.session with role := .feed, id := feedSession (s.directive.word 1), handoverPending := false,
                              stalePending := false, retiredStep := .stale, resumeKind := .fresh, hold := none } }) fun _ _ => rfl

theorem Blind.doTake : Blind State.doTake := (Blind.setState .bringup).comp (f := fun s => { s with
  path := { s.path with blocked := 0 }
  link := s.link.start
  take := { s.take.inactive with failTotal := 0, rewinds := 0, interrupted := none, awaitingLayout := false }
  faults := .start
  session := { s.session with role := .take, id := 0, sizeClass := 0, hold := none, greeted := none, layoutInstalled := false } })
  fun _ _ => rfl

theorem Blind.enterHandover : Blind State.enterHandover :=
  .comp (g := fun s => { s with
    session := { s.session with handoverPending := false }, freeze := { s.freeze with timer := some 0 } }) (fun _ _ => rfl)
    (.setState .handover)

/-- A handover request is granted in STEADY, and pending elsewhere but in HANDOVER (R154). -/
theorem State.requestHandover_eq (s : State) : s.requestHandover =
    if s.inFeed = true then
      if s.session.state = .steady then s.enterHandover
      else if s.session.state = .handover then s else { s with session := { s.session with handoverPending := true } }
    else s := by
  cases state : s.session.state <;> simp [State.requestHandover, state]

theorem Blind.requestHandover : Blind State.requestHandover := fun m s => by
  rw [State.requestHandover_eq, State.requestHandover_eq]
  exact Blind.ite (c := fun s => s.inFeed = true) (fun _ _ => rfl)
    (.ite (c := fun s => s.session.state = .steady) (fun _ _ => rfl) .enterHandover
      (.ite (c := fun s => s.session.state = .handover)
        (g := fun s => { s with session := { s.session with handoverPending := true } }) (fun _ _ => rfl) .id fun _ _ => rfl)) .id m s

theorem Blind.doDirective (k : DirKind) : Blind (State.doDirective k) := by
  cases k with
  | setup => exact .doSetup
  | region => exact .doRegion
  | feed => exact .doFeed
  | take => exact .doTake
  | handover => exact .requestHandover
  | release => exact .endFeed _
  | abort => exact .endSession _
  | adopt => exact .endTake _
  | notices => exact fun _ _ => rfl
  | acknowledge => exact fun _ _ => rfl
  | refresh => exact .id

theorem Blind.finishDirective (k : DirKind) : Blind (State.finishDirective k) :=
  .ite (c := fun _ => k = .acknowledge) (fun _ _ => rfl) (fun _ _ => rfl) (.raise .directive)

theorem Blind.handleTrigger (n code : Byte) : Blind (State.handleTrigger n code) := by
  have recorded (o : DirOutcome) : Blind (State.recordDirective n code o) := fun _ _ => rfl
  have judged (k : DirKind) : Blind fun s => ((s.recordDirective n code (s.judge code)).obey k (s.judge code)).finishDirective k :=
    .arg (a := fun s => s.judge code) (f := fun o s => ((s.recordDirective n code o).obey k o).finishDirective k) (fun _ _ => rfl)
      fun o => (Blind.finishDirective k).comp
        (.comp (.ite (c := fun _ => o = .done) (fun _ _ => rfl) (.doDirective k) .id) (recorded o))
  cases kind : kindOfCode code with
  | none =>
    intro m s
    rw [State.handleTrigger_unknown n kind, State.handleTrigger_unknown n kind]
    rfl
  | some k =>
    intro m s
    rw [← code_of_kindOfCode kind, State.handleTrigger_kind, State.handleTrigger_kind, code_of_kindOfCode kind]
    exact judged k m s

theorem Blind.snoopTrigger (data : Word) (mask : Mask) : Blind (State.snoopTrigger data mask) :=
  .ite (c := fun s => s.validTrigger data mask = true) (fun _ _ => rfl) (.handleTrigger _ _) fun _ _ => rfl

/-! ### The end of a command -/

theorem Blind.offerStale : Blind State.offerStale :=
  .ite (c := fun s => (s.feed.hasPlace && !s.feed.instepWaiting) = true) (fun _ _ => rfl) (fun _ _ => rfl) fun _ _ => rfl

theorem Blind.staleStage : Blind State.staleStage := by
  unfold State.staleStage
  exact .ite (fun _ _ => rfl) .offerStale .id

theorem Blind.tryInstep : Blind State.tryInstep :=
  .ite (c := fun s => s.instepTest = true) (fun _ _ => rfl)
    (.ite (c := fun s => s.feed.hasPlace = true) (fun _ _ => rfl) (fun _ _ => rfl) fun _ _ => rfl) .id

theorem Blind.instepStage : Blind State.instepStage := by
  unfold State.instepStage
  exact .ite (fun _ _ => rfl) (fun _ _ => rfl) .tryInstep

theorem Blind.serveReport : Blind State.serveReport :=
  .ite (c := fun s => s.signals.report = true) (fun _ _ => rfl)
    (.ite (c := fun s => s.report.writing = true) (fun _ _ => rfl) (fun _ _ => rfl) fun _ _ => rfl) .id

/-- What follows the held write's examination. -/
theorem Blind.settled : Blind fun s => s.staleStage.instepStage.clearRuns.serveReport.clearSignals :=
  .comp (g := State.clearSignals) (fun _ _ => rfl) (.comp .serveReport (.comp (g := State.clearRuns) (fun _ _ => rfl)
    (.comp .instepStage .staleStage)))

/-- With no write held, which might be captured or admitted, the whole of it. -/
theorem State.settle_passing (h : ∀ w, s.path.maint ≠ .held w) : (s.passing m).settle = s.settle.passing m := by
  rw [State.settle, State.settle, State.examineHeld_of_not_held _ h, State.examineHeld_of_not_held (s.passing m) h]
  exact Blind.settled m s

end Sys2Proof.Machine
end

section
/-! PROOFS. The grants of UPSTREAM: a read with the overlay's bytes, and a write seen by overlay, staging buffers and directive unit
(O19). -/

namespace Sys2Proof.Machine

open Sys2Proof

variable {s t u : State} {w : WriteReq}

/-! ### A read (R9) -/

/-- The overlay's bytes of a word, none where it has no entry. -/
theorem State.overlayBytes_eq (s : State) (a : Addr) :
    s.overlayBytes a = (((s.freeze.find a).map OverlayEntry.mask).getD 0, ((s.freeze.find a).map OverlayEntry.data).getD 0) := by
  unfold State.overlayBytes
  cases s.freeze.find a <;> rfl

/-- A stream's read that is granted joins the end of the return list with the overlay's bytes, and changes nothing but the path. -/
theorem State.settle_grantUpstreamRead (quiet : s.signals = .none) (out : s.out = .none) (st : Stream) (a : Addr) :
    let t := (s.grantUpstreamRead st a).settle
    t.freeze = s.freeze ∧ t.map = s.map ∧ t.directive = s.directive ∧ t.walker = s.walker ∧ t.out.mem = [.read a]
      ∧ t.path.reads st = s.path.reads st ∧ t.path.lookup = s.path.lookup ∧ t.path.maint = s.path.maint
      ∧ t.path.returns = s.path.returns ++
          [{ requester := .upstream st (((s.freeze.find a).map OverlayEntry.mask).getD 0)
                            (((s.freeze.find a).map OverlayEntry.data).getD 0), addr := a }] := by
  have calm : (s.grantUpstreamRead st a).signals.reexamine = false := congrArg Signals.reexamine quiet
  have path := State.settle_path_of_quiet calm
  refine ⟨State.settle_freeze_of_quiet _ calm, State.settle_map _, State.settle_directive _, State.settle_walker _, ?_, ?_, ?_, ?_, ?_⟩
  · rw [State.settle_out]
    show s.out.mem ++ [.read a] = _
    rw [out]
    rfl
  · rw [path]
    cases st <;> rfl
  · rw [State.settle_path_lookup]
    rfl
  · rw [State.settle_maint_of_quiet calm]
    rfl
  · rw [State.settle_path_returns, State.grantUpstreamRead, State.overlayBytes_eq]
    rfl

/-! ### A write that is shown to nobody (R5, R18) -/

/-- Of a settled part a grant with nothing behind it leaves only the candidate gone, the wait runs moved and the write passed. -/
theorem exec_arbiterGrant_unseen (power : s.chassis.power = true) (won : s.winner = some .upstream)
    (noLookup : s.isReady s.lookupOffer = false) (maint : s.path.maint = .write w) (unseen : w.mask = 0 ∨ s.live = false)
    (settled : s.settled) : exec .arbiterGrant s = .next { s with
      path := { s.path with maint := .empty, waitRuns := s.runsAfter .upstream }
      out := { Out.none with mem := [.write w.addr w.data w.mask] } } := by
  rw [exec_arbiterGrant_upstream_write power won noLookup maint, State.grantUpstreamWrite_unseen (s := s.maintServed) unseen]
  exact congrArg Host.Outcome.next (settled.settle_path (p := { s.path with maint := .empty, waitRuns := s.runsAfter .upstream }) _
    fun r idle => State.runsAfter_of_idle (s := s) idle .upstream)

/-! ### A write that is no trigger -/

theorem State.settle_freeze_of_not_held (h : ∀ w, s.path.maint ≠ .held w) : s.settle.freeze = s.freeze := by
  simp [State.settle, State.examineHeld_of_not_held s h]

/-- The end of a replay leaves the staging buffers (R135). -/
theorem State.endReplay_buf (second : Bool) : s.endReplay.walker.buf second = s.walker.buf second := by
  have handover (u : State) : u.enterHandover.walker = u.walker := by simp [State.enterHandover]
  have steady : s.enterSteady.walker.buf second = s.walker.buf second := by
    cases second <;> simp [State.enterSteady, Walker.buf]
  unfold State.endReplay
  dsimp only
  split
  · split
    · rw [handover, steady]
    · exact steady
  · rfl

/-- What a granted write leaves of an overlay entry of its address (R140). -/
theorem mem_filterMap_supersede (es : List OverlayEntry) (e : OverlayEntry) : e ∈ es.filterMap (OverlayEntry.supersede w) ↔
    (e ∈ es ∧ e.addr ≠ w.addr) ∨ ∃ o ∈ es, o.addr = w.addr ∧ o.mask &&& ~~~ w.mask ≠ 0
      ∧ e = { o with mask := o.mask &&& ~~~ w.mask, data := keepBytes (o.mask &&& ~~~ w.mask) o.data } := by
  have left (o : OverlayEntry) : o.supersede w = some e ↔ (o = e ∧ e.addr ≠ w.addr)
      ∨ (o.addr = w.addr ∧ o.mask &&& ~~~ w.mask ≠ 0
        ∧ e = { o with mask := o.mask &&& ~~~ w.mask, data := keepBytes (o.mask &&& ~~~ w.mask) o.data }) := by
    unfold OverlayEntry.supersede
    by_cases here : o.addr = w.addr
    · by_cases empty : o.mask &&& ~~~ w.mask = 0
      · simp only [here, empty, if_true]
        constructor
        · exact nofun
        · rintro (⟨rfl, other⟩ | ⟨-, bytes, -⟩)
          · exact absurd here other
          · exact absurd rfl bytes
      · simp only [here, empty, if_true, if_false, Option.some.injEq]
        constructor
        · rintro rfl
          exact .inr ⟨trivial, empty, rfl⟩
        · rintro (⟨rfl, other⟩ | ⟨-, -, kept⟩)
          · exact absurd here other
          · exact kept.symm
    · simp only [here, if_false, Option.some.injEq, false_and, or_false]
      exact ⟨fun same => ⟨same, same ▸ here⟩, fun h => h.1⟩
  simp only [List.mem_filterMap, left]
  constructor
  · rintro ⟨o, there, ⟨rfl, other⟩ | merged⟩
    · exact .inl ⟨there, other⟩
    · exact .inr ⟨o, there, merged⟩
  · rintro (⟨there, other⟩ | ⟨o, there, merged⟩)
    · exact ⟨e, there, .inl ⟨rfl, other⟩⟩
    · exact ⟨o, there, .inr merged⟩

/-- What a granted write makes of a staging buffer's word (R51). -/
theorem patchBuffer_words (b : Buffer) (here : b.segment = segmentOf w.addr) :
    ∃ c, patchBuffer w (some b) = some c ∧ c = { b with words := c.words }
      ∧ ∀ k : Fin 64, c.words[k] =
          if k.val ≠ w.addr.toNat % 64 then b.words[k]
          else if b.words[k].arrived then { b.words[k] with data := mergeBytes w.mask w.data b.words[k].data }
          else if b.words[k].granted then
            { b.words[k] with data := mergeBytes w.mask w.data b.words[k].data, patch := b.words[k].patch ||| w.mask }
          else b.words[k] := by
  refine ⟨b.modifyWord (w.addr.toNat % 64) (StageWord.patchWrite w), by simp [patchBuffer, here], rfl, fun k => ?_⟩
  by_cases word : k.val = w.addr.toNat % 64
  · simp [Buffer.modifyWord, word, StageWord.patchWrite]
  · simp [Buffer.modifyWord, word]

/-- The buffers after a granted write in a feed session. -/
theorem State.patchWrite_buf (feed : s.inFeed = true) (second : Bool) :
    (s.patchWrite w).walker.buf second = patchBuffer w (s.walker.buf second) := by
  rw [State.patchWrite, if_pos feed]
  cases second <;> rfl

/-- The directive unit after a granted write that is no trigger (R10, R167). -/
theorem State.snoopWrite_of_some {i : Nat} (slot : slotOffset s.chassis.msize w.addr = some i) :
    s.snoopWrite w = s.snoop i w.data w.mask := by
  unfold State.snoopWrite
  simp only [slot]

theorem State.snoopWrite_of_none (slot : slotOffset s.chassis.msize w.addr = none) : s.snoopWrite w = s := by
  unfold State.snoopWrite
  simp only [slot]

/-- The directive unit with a write's bytes in its shadow word `i` + 1 (R167). -/
def Directive.shadowed (i : Nat) (w : WriteReq) (d : Directive) : Directive :=
  { d with shadow := d.shadow.mapIdx fun j x => if j = i then mergeBytes w.mask w.data x else x }

/-- A state to which a granted write has been shown, without the directive unit, and which it leaves for the end of a replay. -/
def State.shown (w : WriteReq) (d : Directive) (s : State) : State :=
  { (s.toMemory (.write w.addr w.data w.mask)).noteWrite w with directive := d }

/-- What overlay and buffers have of a grant, whatever the directive unit has (R51, R140). -/
theorem State.shown_kept (w : WriteReq) (d : Directive) (s : State) :
    (s.shown w d).freeze.entries = s.freeze.entries.filterMap (OverlayEntry.supersede w)
      ∧ (s.shown w d).walker = (s.patchWrite w).walker ∧ (s.shown w d).map = (s.mapWrite w).map := by
  have passed : (s.toMemory (.write w.addr w.data w.mask)).inFeed = s.inFeed := rfl
  refine ⟨?_, ?_, ?_⟩
  · show (State.noteWrite w _).freeze.entries = _
    rw [State.noteWrite_freeze, State.supersede_entries]
    rfl
  · show (State.noteWrite w _).walker = _
    rw [State.noteWrite_walker]
    exact State.patchWrite_congr (s := s) (v := s.toMemory (.write w.addr w.data w.mask)) w rfl rfl
  · show (State.noteWrite w _).map = _
    rw [(State.noteWrite_map w _).1]
    exact (State.mapWrite_congr (s := s) (v := s.toMemory (.write w.addr w.data w.mask)) w rfl rfl rfl rfl rfl).1

/-- A granted write that is no trigger. -/
theorem State.grantUpstreamWrite_shown (live : s.live = true) (mask : w.mask ≠ 0) (slot : slotOffset s.chassis.msize w.addr ≠ some 0) :
    ∃ d, s.grantUpstreamWrite w = (s.shown w d).endReplay
      ∧ (slotOffset s.chassis.msize w.addr = none → d = s.directive)
      ∧ ∀ i, slotOffset s.chassis.msize w.addr = some (i + 1) → d = s.directive.shadowed i w := by
  let v := (s.toMemory (.write w.addr w.data w.mask)).noteWrite w
  have noted := State.noteWrite_eq w (s.toMemory (.write w.addr w.data w.mask))
  have chassis : v.chassis = s.chassis := by show (State.noteWrite w _).chassis = _; rw [noted]; rfl
  have directive : v.directive = s.directive := by show (State.noteWrite w _).directive = _; rw [noted]; rfl
  rw [State.grantUpstreamWrite_seen live mask]
  cases place : slotOffset s.chassis.msize w.addr with
  | none =>
    refine ⟨s.directive, ?_, fun _ => rfl, nofun⟩
    rw [State.snoopWrite_of_none (s := v) (by rw [chassis]; exact place), ← directive]
    rfl
  | some k =>
    cases k with
    | zero => exact absurd place slot
    | succ i =>
      refine ⟨s.directive.shadowed i w, ?_, nofun, fun j same => by cases same; rfl⟩
      rw [State.snoopWrite_of_some (s := v) (by rw [chassis]; exact place), State.snoop, if_neg (Nat.succ_ne_zero i), State.snoopShadow,
        Nat.add_sub_cancel, directive]
      rfl

/-- The grant of a write that is no trigger: what it leaves in overlay, buffers, map and directive unit. -/
theorem exec_arbiterGrant_seen (power : s.chassis.power = true) (won : s.winner = some .upstream)
    (noLookup : s.isReady s.lookupOffer = false) (maint : s.path.maint = .write w) (live : s.live = true) (mask : w.mask ≠ 0)
    (slot : slotOffset s.chassis.msize w.addr ≠ some 0) : ∃ t, exec .arbiterGrant s = .next t
      ∧ t.out.mem = [.write w.addr w.data w.mask] ∧ t.path.returns = s.path.returns ∧ t.path.maint = .empty
      ∧ t.path.lookup = s.path.lookup ∧ t.freeze.entries = s.freeze.entries.filterMap (OverlayEntry.supersede w)
      ∧ (∀ second, t.walker.buf second = (s.patchWrite w).walker.buf second) ∧ t.map = (s.mapWrite w).map
      ∧ (slotOffset s.chassis.msize w.addr = none → t.directive = s.directive)
      ∧ ∀ i, slotOffset s.chassis.msize w.addr = some (i + 1) → t.directive = s.directive.shadowed i w := by
  obtain ⟨mem, returns, lookup, empty⟩ := State.grantUpstreamWrite_kept w s.maintServed
  obtain ⟨d, shown, outside, inside⟩ := State.grantUpstreamWrite_shown (s := s.maintServed) live mask slot
  obtain ⟨entries, walker, map⟩ := State.shown_kept w d s.maintServed
  have notHeld : ∀ v, (s.maintServed.grantUpstreamWrite w).path.maint ≠ .held v := by
    rw [empty]
    exact nofun
  have directive : (s.maintServed.grantUpstreamWrite w).settle.directive = d := by
    rw [State.settle_directive, shown, State.endReplay_directive]
    rfl
  refine ⟨_, exec_arbiterGrant_upstream_write power won noLookup maint, ?_, ?_, ?_, ?_, ?_, fun second => ?_, ?_, ?_, ?_⟩
  · rw [State.settle_out, mem]
    rfl
  · rw [State.settle_path_returns, returns]
    rfl
  · rw [State.settle_maint_of_not_held notHeld, empty]
    rfl
  · rw [State.settle_path_lookup, lookup]
    rfl
  · rw [State.settle_freeze_of_not_held notHeld, shown, State.endReplay_freeze_entries, entries]
    rfl
  · rw [State.settle_walker, shown, State.endReplay_buf, walker, State.patchWrite_congr (s := s) (v := s.maintServed) w rfl rfl]
  · rw [State.settle_map, shown, State.endReplay_map, map]
    exact (State.mapWrite_congr (s := s) (v := s.maintServed) w rfl rfl rfl rfl rfl).1
  · rw [directive]
    exact outside
  · rw [directive]
    exact inside

/-! ### A write to the trigger's word (R168; log 5) -/

/-- The command by itself does with the word what the directive unit does with it at the grant. -/
theorem exec_slotZeroCommand (live : s.live = true) (mask : w.mask ≠ 0) :
    exec (s.slotZeroCommand w) s = .next (s.fresh.snoopTrigger w.data w.mask).settle := by
  unfold State.slotZeroCommand State.snoopTrigger
  have same : s.fresh.validTrigger w.data w.mask = s.validTrigger w.data w.mask := rfl
  rw [same]
  by_cases valid : s.validTrigger w.data w.mask = true
  · have expected : byteOf w.data 1 = s.directive.expected := by
      simp only [State.validTrigger, Bool.and_eq_true, beq_iff_eq] at valid
      exact valid.2
    rw [if_pos valid, if_pos valid, expected]
    cases kind : kindOfCode (byteOf w.data 2) with
    | none =>
      refine exec_of_effect rfl live ?_
      rw [if_pos kind]
      exact s.fresh.trigger_expected _
    | some k =>
      rw [exec_command, State.liveEvent_of_live _ _ live, ← code_of_kindOfCode kind]
      exact congrArg (fun u : State => Host.Outcome.next u.settle) (s.fresh.trigger_expected k.code)
  · rw [if_neg valid, if_neg valid]
    refine exec_of_effect rfl live ?_
    exact (if_neg (not_or.2 ⟨mask, valid⟩)).trans (if_neg valid)

/-- Neither overlay nor buffers nor map have anything to do with a write to a LOCAL segment with no entry and no buffer. -/
theorem State.noteWrite_of_unknown (cls : s.classOf w.addr = .localOnly) (entries : ∀ e ∈ s.freeze.entries, e.addr ≠ w.addr)
    (buffers : ∀ b, s.walker.buf0 = some b ∨ s.walker.buf1 = some b → b.segment ≠ segmentOf w.addr) : s.noteWrite w = s := by
  have all : s.freeze.entries.filterMap (OverlayEntry.supersede w) = s.freeze.entries := by
    rw [List.filterMap_congr (g := some) fun e there => OverlayEntry.supersede_other w (entries e there), List.filterMap_some]
  have superseded : s.supersede w = s := by
    unfold State.supersede
    dsimp only
    rw [all, if_neg (Nat.lt_irrefl _)]
  have patched (b : Option Buffer) (other : ∀ c, b = some c → c.segment ≠ segmentOf w.addr) : patchBuffer w b = b := by
    cases b with
    | none => rfl
    | some c => exact congrArg some (if_neg (other c rfl))
  have staged : s.patchWrite w = s := by
    unfold State.patchWrite State.patchStaging
    rw [patched _ fun c h => buffers c (.inl h), patched _ fun c h => buffers c (.inr h)]
    exact ite_self _
  rw [State.noteWrite, superseded, staged, State.mapWrite, cls]
  exact ite_self _

end Sys2Proof.Machine
end

section
/-! PROOFS. A directive starts no replay, and the grants of UPSTREAM (O19). -/

namespace Sys2Proof.Machine

open Sys2Proof

variable {s t u : State} {w : WriteReq}

/-! ### No directive leaves a replay that is over (R135) -/

/-- The state is no replay with an empty overlay. -/
def State.replaysOn (s : State) : Prop := s.session.state = .replay → s.freeze.entries ≠ []

theorem State.endReplay_of_replaysOn (h : s.replaysOn) : s.endReplay = s := if_neg fun ended => h ended.1 ended.2

theorem State.replaysOn_of_ne (h : s.session.state ≠ .replay) : s.replaysOn := fun replay => absurd replay h

/-- A link loss in IDLE changes no state (R68). -/
theorem State.loseLink_idle (idle : s.session.state = .idle) : s.loseLink.session.state = .idle := by
  have feed : s.loseLinkFeed.session.state = .idle := by
    have lost : s.lostLink.session = s.session := s.loseFrames_session
    have stays : s.lostLink.suspendByState = s.lostLink := if_neg (by rw [lost, idle]; exact nofun)
    rw [State.loseLinkFeed_eq, stays, lost, idle]
  have take : s.loseLinkTake.session.state = .idle := by
    rw [State.loseLinkTake_eq, if_neg (by simp [idle]), if_neg (by simp [idle])]
    exact idle
  unfold State.loseLink
  split
  · split
    · exact feed
    · split
      · exact take
      · exact idle
  · exact idle

theorem State.doSetup_idle (idle : s.session.state = .idle) : s.doSetup.session.state = .idle := by
  have filtered (u : State) (h : u.session.state = .idle) : u.filterPeer.session.state = .idle := by
    unfold State.filterPeer
    dsimp only
    split
    · exact State.loseLink_idle h
    · exact h
  unfold State.doSetup
  dsimp only
  split
  · exact filtered _ idle
  · exact idle

/-- SETUP is taken in IDLE alone (9.3). -/
theorem State.idle_of_judge_setup (done : s.judge DirKind.setup.code = .done) : s.session.state = .idle := by
  unfold State.judge at done
  rw [kindOfCode_code] at done
  by_contra other
  simp [State.dirAllowed, other] at done

/-- A directive that is taken goes on with a replay, or ends it with the session. -/
theorem State.replaysOn.doDirective (h : s.replaysOn) (k : DirKind) (setup : k = .setup → s.session.state = .idle) :
    (s.doDirective k).replaysOn := by
  have idle {u : State} (ended : u.session.state = .idle) : u.replaysOn := State.replaysOn_of_ne (by rw [ended]; exact nofun)
  have begun {u : State} (ended : u.session.state = .bringup) : u.replaysOn := State.replaysOn_of_ne (by rw [ended]; exact nofun)
  have feedEnded (close : Option CloseReason) : (s.endFeed close).replaysOn := idle (by simp [State.endFeed])
  have takeEnded (close : Option CloseReason) : (s.endTake close).replaysOn := idle (by simp [State.endTake])
  cases k with
  | setup => exact idle (State.doSetup_idle (setup rfl))
  | region =>
    show s.doRegion.replaysOn
    unfold State.doRegion
    cases regionCheck s.chassis.msize s.regions s.regionRequest <;> exact h
  | feed => exact begun (State.setState_session_state ..)
  | take => exact begun (State.setState_session_state ..)
  | handover =>
    show s.requestHandover.replaysOn
    rw [State.requestHandover_eq]
    split
    · split
      · exact State.replaysOn_of_ne (by simp [State.enterHandover])
      · split
        · exact h
        · exact h
    · exact h
  | release => exact feedEnded _
  | abort =>
    show (s.endSession _).replaysOn
    unfold State.endSession
    split
    · exact feedEnded _
    · split
      · exact takeEnded _
      · exact h
  | adopt => exact takeEnded _
  | notices => exact h
  | acknowledge => exact h
  | refresh => exact h

theorem State.replaysOn.obey (h : s.replaysOn) (k : DirKind) (o : DirOutcome) (setup : o = .done → k = .setup → s.session.state = .idle) :
    (s.obey k o).replaysOn := by
  unfold State.obey
  split
  · next done => exact h.doDirective k (setup done)
  · exact h

/-- Nor does a write to the trigger's word, whatever it is. -/
theorem State.replaysOn.snoopTrigger (h : s.replaysOn) (data : Word) (mask : Mask) : (s.snoopTrigger data mask).replaysOn := by
  unfold State.snoopTrigger
  split
  · cases kind : kindOfCode (byteOf data 2) with
    | none =>
      rw [State.handleTrigger_unknown _ kind]
      exact h
    | some k =>
      rw [← code_of_kindOfCode kind, State.handleTrigger_kind, State.finishDirective_eq]
      refine State.replaysOn.obey (s := s.recordDirective _ _ _) h k _ fun done setup => ?_
      subst setup
      exact State.idle_of_judge_setup (s := s) done
  · exact h

/-- The grant of a write to the trigger's word is the command by itself, with the write passed. -/
theorem exec_arbiterGrant_trigger (power : s.chassis.power = true) (won : s.winner = some .upstream)
    (noLookup : s.isReady s.lookupOffer = false) (maint : s.path.maint = .write w) (live : s.live = true) (mask : w.mask ≠ 0)
    (slot : slotOffset s.chassis.msize w.addr = some 0) (cls : s.classOf w.addr = .localOnly)
    (entries : ∀ e ∈ s.freeze.entries, e.addr ≠ w.addr)
    (buffers : ∀ b, s.walker.buf0 = some b ∨ s.walker.buf1 = some b → b.segment ≠ segmentOf w.addr) (replays : s.replaysOn) :
    ∃ u, exec (s.slotZeroCommand w) { s with path := { s.path with maint := .empty, waitRuns := s.runsAfter .upstream } } = .next u
      ∧ exec .arbiterGrant s = .next { u with out := { u.out with mem := [.write w.addr w.data w.mask] } } := by
  let m := s.maintServed
  let passed : List MemRequest := [.write w.addr w.data w.mask]
  have shown : (m.passing passed).noteWrite w = m.passing passed := State.noteWrite_of_unknown (s := m.passing passed) cls entries buffers
  have snooped : (m.passing passed).snoopWrite w = (m.snoopTrigger w.data w.mask).passing passed := by
    rw [State.snoopWrite_of_some (s := m.passing passed) slot, State.snoop, if_pos rfl]
    exact Blind.snoopTrigger w.data w.mask passed m
  have kept : ((m.snoopTrigger w.data w.mask).passing passed).endReplay = (m.snoopTrigger w.data w.mask).passing passed :=
    State.endReplay_of_replaysOn (State.replaysOn.snoopTrigger (s := m) replays w.data w.mask)
  have notHeld : ∀ v, (m.snoopTrigger w.data w.mask).path.maint ≠ .held v := by
    obtain ⟨k, obeys⟩ := Obeys.snoop 0 w.data w.mask m
    have empty : (m.snoopTrigger w.data w.mask).path.maint = .empty := obeys.maint
    rw [empty]
    exact nofun
  refine ⟨(m.snoopTrigger w.data w.mask).settle, ?_, ?_⟩
  · exact exec_slotZeroCommand (s := { s with path := { s.path with maint := .empty, waitRuns := s.runsAfter .upstream } }) live mask
  · rw [exec_arbiterGrant_upstream_write power won noLookup maint, State.grantUpstreamWrite_seen (s := s.maintServed) live mask,
      show s.maintServed.toMemory (.write w.addr w.data w.mask) = m.passing passed from rfl, shown, snooped, kept,
      State.settle_passing passed notHeld]
    rfl

/-- Settles O19: reads, and a maintenance write by its mask and its place in the slot. -/
theorem upstreamGrantsLookUpAndSnoop : Obligations.UpstreamGrantsLookUpAndSnoop := by
  intro s power won
  refine ⟨fun st a here => ?_, fun w noLookup maint => ⟨fun unseen settled => exec_arbiterGrant_unseen power won noLookup maint unseen settled,
    fun live mask slot => ?_, fun live mask slot cls entries buffers replays => exec_arbiterGrant_trigger power won noLookup maint live mask
      slot cls entries buffers replays⟩⟩
  · cases st with
    | lookup =>
      obtain ⟨lookup, room⟩ := here
      exact ⟨_, exec_arbiterGrant_lookup power won lookup room, State.settle_grantUpstreamRead (s := s.lookupServed) rfl rfl .lookup a⟩
    | maintenance =>
      obtain ⟨none, maint⟩ := here
      obtain ⟨freeze, map, directive, walker, mem, reads, lookup, empty, returns⟩ :=
        State.settle_grantUpstreamRead (s := s.maintServed) rfl rfl .maintenance a
      exact ⟨_, exec_arbiterGrant_read power won (State.not_ready_lookup (.inl none)) maint, freeze, map, directive, walker, mem, reads,
        lookup.trans none, empty, returns⟩
  · obtain ⟨t, done, mem, returns, empty, lookup, entries, buffers, map, outside, inside⟩ :=
      exec_arbiterGrant_seen power won noLookup maint live mask slot
    refine ⟨t, done, mem, returns, empty, lookup, ?_, ?_, fun noFeed => ?_, fun feed second => ?_, outside, fun i place => ?_⟩
    · rw [entries]
      exact mem_filterMap_supersede s.freeze.entries
    · rw [entries]
      exact Silent.supersede_addrs w s.freeze.entries
    · have unpatched : s.patchWrite w = s := if_neg (by simp [noFeed])
      have unmapped : s.mapWrite w = s := if_neg (by simp [noFeed])
      rw [unpatched] at buffers
      exact ⟨buffers false, buffers true, by rw [map, unmapped]⟩
    · rw [buffers, State.patchWrite_buf feed]
      refine ⟨fun free => by rw [free]; rfl, fun b held => ?_⟩
      rw [held]
      exact ⟨fun other => congrArg some (if_neg other), patchBuffer_words b⟩
    · rw [inside i place]
      refine ⟨fun j => ?_, rfl, rfl, rfl⟩
      simp [Directive.shadowed, Fin.ext_iff]

end Sys2Proof.Machine
end
